-- ==== Sys2Proof/Word.lean ====
section
/-! DEFINITION. The plain data types every other file uses: the 32-bit register word (R55), the byte,
a nanosecond WALLTIME, and the finite map in which sparse tables are held. -/

namespace Sys2Proof

/-- A 32-bit register or memory word (R55). -/
abbrev Word := BitVec 32

/-- A byte of memory (R7: multi-byte values are little-endian). -/
abbrev Byte := BitVec 8

/-- A WALLTIME in nanoseconds. The register view is its low 64 bits (R24). -/
abbrev Time := Nat

/-- A sparse table: keys with their values, keys strictly rising; a key that is not listed reads as the
default its reader names. -/
abbrev FMap (α : Type) := List (Nat × α)

/-- A set of numbers, held as a list in rising order without repeats. -/
abbrev NSet := List Nat

/-- A 64-bit value from its low and high words (R105, R56). -/
def pair64 (lo hi : Word) : Nat := lo.toNat + 4294967296 * hi.toNat

end Sys2Proof
end

