-- ==== Sys2Proof/Syntax.lean ====
section
/-! DEFINITION. The commands of the block: one constructor per row of spec/opcode_table.json, and the operand types. -/

namespace Sys2Proof

/-- The port or agent a register write comes from, with its world (R323): BAR 0 and chain or JTAG requests of the normal
world, the secure management port and chain or JTAG requests of the secure world. -/
inductive Port where
  | bar0
  | smp
  | chain (secure : Bool)
  | jtag (secure : Bool)
  deriving DecidableEq, Repr

/-- An occurrence of an event that falls in the same cycle as a clear of its flag (R70): the bit, the record's status and
words 6 and 7. -/
structure Occ where
  bit : Nat
  status : Nat
  d6 : Nat
  d7 : Nat
  frame : Option Nat := none  -- the frame the record names (R77)
  inst : Option Nat := none   -- the instance it names (R77)
  deriving DecidableEq, Repr

/-- Who waits for a read of host memory (R293): a ring's slot or list fetch, a command in progress named by its number, an
IMPORT of an instance, or a migration copy. -/
inductive HostReq where
  | ring (q : Nat)
  | command (id : Nat)
  | imprt (i : Nat)
  | migration
  deriving DecidableEq, Repr

/-- Who reads device DRAM (R388). -/
inductive MemReq where
  | bar4 (i : Nat)
  | plane (h p y : Nat)
  | spill (h tile y : Nat)
  | list (q : Nat)
  | upload (id : Nat)
  | migration
  | cue (stream : Nat)
  | range
  deriving DecidableEq, Repr

/-- The settings of a plane in a migrated context, as operand words 1 to 7 of SET_PLANE give them, and the surface (R318). -/
structure CtxCfg where
  words : List Word
  surf : Option Nat
  deriving DecidableEq, Repr

/-- A plane in a migrated context (R318): its active and committed settings, the held flips with their content times, and the plane's own
content time where a FLIP ever applied. -/
structure CtxPlane where
  head : Nat
  plane : Nat
  act : CtxCfg
  com : CtxCfg
  held : List (CtxCfg × Nat)
  ct : Option Nat
  deriving DecidableEq, Repr

/-- A set-aside wait in a migrated context (R318): the ring, TAG and words of its list, the word index of the waiting command, the
frame or time it waits for, and the time that remains of its timeout, in ns. -/
structure CtxWait where
  ring : Nat
  tag : Nat
  words : List Word
  idx : Nat
  target : Nat
  remaining : Option Nat
  deriving DecidableEq, Repr

/-- What a migrated context holds (R318): the entry, tail and head of each submit ring, the event ring's indexes, the fences, the waits,
the planes, and the SDT range as 16 words an entry. -/
structure Context where
  entry : List Word
  rings : List (Nat × Nat)
  evt : Nat × Nat
  fences : List Nat
  waits : List CtxWait
  planes : List CtxPlane
  sdt : List (List Word)
  deriving DecidableEq, Repr

/-- The bytes of a context image in host memory, and the context that they hold (R318). -/
structure CtxImage where
  bytes : List Byte
  ctx : Context
  deriving DecidableEq, Repr

/-- A request for SERVICE or TEST: the page, and the port of a QUIESCE request that reaches SYS in the same cycle (R42). -/
structure SvcReq where
  page : Nat
  quiesce : Option Port := none
  deriving DecidableEq, Repr

/-- Where a TRAIN message arrives: the port, and whether its receiver found the lanes inverted (R225, R227). -/
structure TrainRx where
  portB : Bool
  inverted : Bool := false
  deriving DecidableEq, Repr

/-- The head whose panel timer expires, and the level of its HPD then (R284). -/
structure PanelSense where
  head : Nat
  hpd : Bool := false
  deriving DecidableEq, Repr

/-- What a DBG_ACCESS asks for (R349): a read or write of a register offset, a halt or a release of a Conductor, or of the
Gatehouse, made with the rights of the world it names. -/
inductive DbgOp where
  | read (secure : Bool) (off : Nat)
  | write (secure : Bool) (off : Nat) (v : Word)
  | haltCnd (secure : Bool) (c : Nat)
  | runCnd (secure : Bool) (c : Nat)
  | stepCnd (secure : Bool) (c : Nat)
  | haltGh
  | runGh
  deriving DecidableEq, Repr

/-- The instructions of the JTAG TAP (R348). -/
inductive TapInstr where
  | bypass | idcode | sample | extest | clamp | highz | dbgAccess
  deriving DecidableEq, Repr

/-- When the TAP enters an instruction, and which (R348). -/
structure TapEntry where
  time : Time
  ir : TapInstr
  deriving DecidableEq, Repr

/-- The reply to an AUX transaction (R276): ACK with data, NACK after some bytes, DEFER, or a reply that is broken. -/
inductive AuxReply where
  | ack (data : List Byte)
  | nack (bytes : Nat)
  | defer
  | bad
  deriving DecidableEq, Repr

/-- How an attempt of a self-test ends: an SRAM march with the spare rows and columns its failures need (R456), a DRAM march
with the failing words and their first failing positions (R457), an analogue check with its pass, its failure code, the mask of
what failed and the errors (R459). -/
inductive BistRes where
  | sram (rows cols : Nat)
  | dram (fails : List (Nat × Nat))
  | check (pass : Bool) (code mask errors : Nat)
  deriving DecidableEq, Repr


/-- The commands: one constructor per row of the opcode table.  The first operand `t` of each is the WALLTIME of the
TIME island's copy at which the command acts (DESIGN CHOICE, log entry 3). -/
inductive Instr where
  /-- RESET_N_RELEASE (R36): RESET_N rises and the whole unit makes the transition to ENUMERATE with the effect of reset. -/
  | resetNRelease (t : Time) (strapMaster : Bool) (banks : List Nat)
  /-- RESET_N_ASSERT (R490): A low pulse on RESET_N of 1 µs or longer resets the whole unit. -/
  | resetNAssert (t : Time) (lowNs : Nat)
  /-- DEVICE_RESET (R34): A write of 1 to SYS_SEC_CTRL.DEVICE_RESET performs the transition to ENUMERATE. -/
  | deviceReset (t : Time) (p : Port)
  /-- COPY_CHECK_DONE (R471): The read of one configuration image copy ends and the copy is checked, leading to CONFIGURE, FALLBACK or the read of copy B. -/
  | copyCheckDone (t : Time) (copyB flashOk : Bool) (bytes : List Byte)
  /-- MODE_REQ_RUN (R41): SYS_MODE_REQ.TARGET written RUN requests the move from CONFIGURE to RUN. -/
  | modeReqRun (t : Time) (p : Port)
  /-- MODE_REQ_QUIESCE (R38): SYS_MODE_REQ.TARGET written QUIESCE requests the orderly stop sequence. -/
  | modeReqQuiesce (t : Time) (p : Port)
  /-- MODE_REQ_CONFIGURE (R34): SYS_MODE_REQ.TARGET written CONFIGURE requests the return from QUIESCE. -/
  | modeReqConfigure (t : Time) (p : Port)
  /-- QUIESCE_LIST_CANCEL (R39): 10 ms after a QUIESCE request, lists still running are cancelled with CANCELLED. -/
  | quiesceListCancel (t : Time)
  /-- WRITE_BUFFER_DRAINED (R39): During entry to QUIESCE the write buffers finish draining and memory enters self-refresh. -/
  | writeBufferDrained (t : Time)
  /-- SEC_READY_WRITE (R328): The secure world writes SYS_SEC_CTRL.SEC_READY, which also locks the WMARK page. -/
  | secReadyWrite (t : Time) (p : Port) (v : Bool)
  /-- D2D_TRANSFER_ERROR (R16): A die-to-die transfer fails its CRC and is replayed, the link retraining after 8 consecutive failures. -/
  | d2dTransferError (t : Time) (consecutive : Nat)
  /-- D2D_LINK_UP (R17): Die-to-die retraining completes, companion pages return from FAULT and held reports are released. -/
  | d2dLinkUp (t : Time)
  /-- D2D_LINK_DOWN (R18): Die-to-die retraining fails and every companion page reads FAULT with LINK_ERROR. -/
  | d2dLinkDown (t : Time)
  /-- D2D_RETRAIN_TIMER (R19): Every 100 ms while the die-to-die link is down a retraining is attempted. -/
  | d2dRetrainTimer (t : Time)
  /-- TIME_SET_GO (R28): TIME_SET_CTRL.GO requests a step of WALLTIME on the master. -/
  | timeSetGo (t : Time) (p : Port)
  /-- PAGE_ENABLE (R61): PAGE_CTRL.ENABLE written 1 takes a block from OFF to INIT. -/
  | pageEnable (t : Time) (p : Port) (page : Nat)
  /-- PAGE_DISABLE (R61): PAGE_CTRL.ENABLE written 0 takes a block to OFF and discards its shadow. -/
  | pageDisable (t : Time) (p : Port) (page : Nat)
  /-- SERVICE_REQ_SET (R61): PAGE_CTRL.SERVICE_REQ written 1 requests SERVICE for the block. -/
  | serviceReqSet (t : Time) (p : Port) (req : SvcReq)
  /-- SERVICE_REQ_CLEAR (R61): PAGE_CTRL.SERVICE_REQ written 0 ends SERVICE and re-initialises the block. -/
  | serviceReqClear (t : Time) (p : Port) (page : Nat)
  /-- TEST_REQ_SET (R61): PAGE_CTRL.TEST_REQ written 1 requests TEST and starts the block's test. -/
  | testReqSet (t : Time) (p : Port) (req : SvcReq)
  /-- TEST_REQ_CLEAR (R61): PAGE_CTRL.TEST_REQ written 0 ends TEST and re-initialises the block. -/
  | testReqClear (t : Time) (p : Port) (page : Nat)
  /-- SOFT_RESET (R10): PAGE_CTRL.SOFT_RESET re-initialises the block's island state keeping configuration fields. -/
  | softReset (t : Time) (p : Port) (page : Nat)
  /-- CLR_COUNTS (R67): PAGE_CTRL.CLR_COUNTS clears EVT_MISS and ERR_COUNT. -/
  | clrCounts (t : Time) (p : Port) (page : Nat)
  /-- BLOCK_INIT_DONE (R61): A block's initialisation completes and its page passes from INIT to RUN. -/
  | blockInitDone (t : Time) (page : Nat)
  /-- EVT_STATUS_CLEAR (R70): A W1C write to EVT_STATUS clears EVT_RAW bits, an occurrence in the same cycle winning. -/
  | evtStatusClear (t : Time) (p : Port) (page : Nat) (mask : Word) (race : List Occ)
  /-- EVT_ENABLE_WRITE (R68): A write to EVT_ENABLE, which may request the page interrupt for bits already raw. -/
  | evtEnableWrite (t : Time) (p : Port) (page : Nat) (v : Word)
  /-- ERR_CAPTURE_CLEAR (R76): A W1C write to ERR_CAPTURE.VALID clears the capture. -/
  | errCaptureClear (t : Time) (p : Port) (page : Nat) (race : Option (Nat × Nat))
  /-- LOCK_SET (R60): LOCK.LOCKED is set, after which RWL fields ignore writes. -/
  | lockSet (t : Time) (p : Port) (page : Nat)
  /-- COMMIT_GO (R63): COMMIT.GO requests that the page's shadow apply at its next commit point. -/
  | commitGo (t : Time) (p : Port) (page : Nat)
  /-- COMMIT_ABORT (R57): COMMIT.ABORT copies active values back to the shadow and cancels a pending GO. -/
  | commitAbort (t : Time) (p : Port) (page : Nat)
  /-- COMMIT_APPLY (R64): At a page's commit point the shadow is checked and copied to active, or refused. -/
  | commitApply (t : Time) (page : Nat)
  /-- REGISTER_WRITE (R57): A write to a register field that has no row of its own, checked for world, owner, lock and access type. -/
  | registerWrite (t : Time) (p : Port) (off : Nat) (be : Nat) (v : Word)
  /-- JRN_ENABLE (R79): JRN_CTRL.ENABLE written starts a journal ring after the watermark check. -/
  | jrnEnable (t : Time) (p : Port) (page : Nat) (v : Word)
  /-- JRN_RD_WRITE (R80): Software advances JRN_RD, freeing slots. -/
  | jrnRdWrite (t : Time) (p : Port) (page : Nat) (v : Word)
  /-- LIST_START (R304): A Conductor takes the next list from a submit ring and starts running it. -/
  | listStart (t : Time) (c q : Nat) (slot words : List Word)
  /-- NOP (R105): Command NOP does nothing. -/
  | nop (t : Time) (q : Nat)
  /-- END (R103): Command END ends the list. -/
  | endList (t : Time) (q : Nat)
  /-- SET_SURFACE (R90): Command SET_SURFACE allocates or rewrites an SDT entry. -/
  | setSurface (t : Time) (q : Nat)
  /-- RETIRE_SURFACE (R92): Command RETIRE_SURFACE frees an entry or moves it to RETIRING. -/
  | retireSurface (t : Time) (q : Nat)
  /-- SURFACE_RETIRED (R93): A RETIRING entry meets the conditions of R93, goes FREE and SURFACE_RETIRED is written. -/
  | surfaceRetired (t : Time) (idx head : Nat)
  /-- SET_PLANE (R108): Command SET_PLANE stages plane settings or commits them with APPLY. -/
  | setPlane (t : Time) (q : Nat)
  /-- FLIP (R109): Command FLIP binds a surface to a plane, sets its content time and commits or holds it. -/
  | flip (t : Time) (q : Nat)
  /-- FLIP_WALL (R111): Command FLIP_WALL releases held flips into the wall vote of a coherence group. -/
  | flipWall (t : Time) (q : Nat)
  /-- WAIT_FRAME (R112): Command WAIT_FRAME waits for a head's frame count. -/
  | waitFrame (t : Time) (q : Nat)
  /-- WAIT_TIME (R112): Command WAIT_TIME waits for a WALLTIME target. -/
  | waitTime (t : Time) (q : Nat)
  /-- WAIT_TIME_REACHED (R112): The Conductor's WALLTIME reaches a WAIT_TIME target and the wait completes. -/
  | waitTimeReached (t : Time) (q : Nat)
  /-- WAIT_TIMEOUT (R101): A wait reaches its TIMEOUT_MS and fails with TIMEOUT. -/
  | waitTimeout (t : Time) (q : Nat)
  /-- WRITE_STAMP (R113): Command WRITE_STAMP writes WALLTIME and optionally a frame count to memory. -/
  | writeStamp (t : Time) (q : Nat)
  /-- FENCE_SIGNAL (R118): Command FENCE_SIGNAL sets a fence, releasing FENCE_WAITs it satisfies. -/
  | fenceSignal (t : Time) (q : Nat)
  /-- FENCE_WAIT (R118): Command FENCE_WAIT waits until a fence reaches a value. -/
  | fenceWait (t : Time) (q : Nat)
  /-- UPLOAD (R114): Command UPLOAD copies a rectangle from host memory into a surface. -/
  | upload (t : Time) (q : Nat)
  /-- FILL (R114): Command FILL writes one pixel value into a rectangle. -/
  | fill (t : Time) (q : Nat)
  /-- COPY_RECT (R114): Command COPY_RECT copies a rectangle between surfaces of one format. -/
  | copyRect (t : Time) (q : Nat)
  /-- DMA_CHUNK_DONE (R307): An upload engine chunk of up to 4 KiB completes and is charged to its instance. -/
  | dmaChunkDone (t : Time) (chan : Nat) (id : Option Nat) (data : List Byte)
  /-- SET_REGION_AGE (R219): Command SET_REGION_AGE writes a region's maximum age and commits the AGE page. -/
  | setRegionAge (t : Time) (q : Nat)
  /-- READ_SIGNATURE (R116): Command READ_SIGNATURE writes a region's last checked results to memory. -/
  | readSignature (t : Time) (q : Nat)
  /-- HAPTIC_PLAY (R437): Command HAPTIC_PLAY triggers an effect slot now or at a time. -/
  | hapticPlay (t : Time) (q : Nat)
  /-- AUDIO_CUE (R440): Command AUDIO_CUE starts or schedules a sample cue on a stream. -/
  | audioCue (t : Time) (q : Nat)
  /-- MCALL (R331): Command MCALL hands a call to the Gatehouse, for a customer service into the service ring. -/
  | mcall (t : Time) (q : Nat)
  /-- GET_VERSION (R337): Vendor service 0x0000 returns the Gatehouse version and patch level. -/
  | getVersion (t : Time) (q : Nat)
  /-- QUERY_BLOCK (R337): Vendor service 0x0001 returns an assignable block's ownership and hand-over permissions. -/
  | queryBlock (t : Time) (q : Nat)
  /-- QUERY_DEBUG (R337): Vendor service 0x0002 returns the effective normal-world debug enables. -/
  | queryDebug (t : Time) (q : Nat)
  /-- QUERY_WATERMARKS (R337): Vendor service 0x0003 writes the three watermarks and LOCKED to the argument block. -/
  | queryWatermarks (t : Time) (q : Nat)
  /-- REQUEST_BLOCK (R337): Vendor service 0x0010 hands a secure block to the normal world. -/
  | requestBlock (t : Time) (q : Nat)
  /-- OFFER_BLOCK (R337): Vendor service 0x0011 hands a normal block to the secure world. -/
  | offerBlock (t : Time) (q : Nat)
  /-- SEC_REPLY (R334): SEC_REPLY.GO delivers a secure-world reply to a waiting MCALL. -/
  | secReply (t : Time) (p : Port) (v : Word)
  /-- MCALL_TIMEOUT (R335): WALLTIME passes a call's DEADLINE and the MCALL ends with TIMEOUT. -/
  | mcallTimeout (t : Time) (reqId : Nat)
  /-- HOST_READ_DONE (R293): A device read of host memory completes, with an error answer failing it with NO_RIGHT. -/
  | hostReadDone (t : Time) (who : HostReq) (addr : Nat) (err : Bool)
  /-- HOST_READ_TIMEOUT (R293): A device read of host memory has no completion within 50 ms and fails with TIMEOUT. -/
  | hostReadTimeout (t : Time) (who : HostReq) (addr : Nat)
  /-- LINE_JOB_RELEASE (R124): The composition raster reaches line y and its line job is released into spans. -/
  | lineJobRelease (t : Time) (h y : Nat)
  /-- SPAN_COMPOSE (R125): A slice finishes composing a span through the plane stack into the line buffer. -/
  | spanCompose (t : Time) (h y span slice : Nat) (sram : List (Nat × Nat))
  /-- OUTPUT_LINE (R201): The output raster reaches a line and the Age Guard processes and sends its pixels. -/
  | outputLine (t : Time) (h y glassDelay : Nat)
  /-- VBLANK_START (R186): A head's vertical blank begins, applying on-time commits, Arcade tile changes, vacates and substitutions. -/
  | vblankStart (t : Time) (h : Nat)
  /-- FRAME_START (R169): A head's frame starts: the count advances, times are stamped and lock and latches are evaluated. -/
  | frameStart (t : Time) (h : Nat)
  /-- LOCK_TIMEOUT (R182): A head reaches no lock within 2 s and tries the next source. -/
  | lockTimeout (t : Time) (h : Nat)
  /-- PLL_SETTLED (R170): On a FREE source the PLL settles and the head leaves LOCKING for RUN. -/
  | pllSettled (t : Time) (h : Nat)
  /-- GENLOCK_EDGE (R176): An edge on GENLOCK_IN updates source presence, polarity and, on the master, the mark stream. -/
  | genlockEdge (t : Time) (rising : Bool)
  /-- SYNC_SOURCE_LOST (R176): No edge arrives within three expected intervals and the source becomes absent. -/
  | syncSourceLost (t : Time) (h : Nat) (chain : Bool)
  /-- SOURCE_RETURN_TIMER (R178): An earlier source in AUTO order has been present for 1 s and the head moves to it. -/
  | sourceReturnTimer (t : Time) (h : Nat)
  /-- AGE_RELEASE (R214): AGE_RELEASE bits release latched regions from the next frame start. -/
  | ageRelease (t : Time) (p : Port) (h : Nat) (lo hi : Word)
  /-- MEM_READ_DONE (R383): A DRAM block read returns and each word is decoded, corrected, poisoned or found uncorrectable. -/
  | memReadDone (t : Time) (req : MemReq) (addr : Nat) (errs : List (Nat × Nat)) (mapBad : Bool)
  /-- MEM_READ_RETRY_DONE (R387): The retry of an uncorrectable block read returns and the fault is classified transient or lasting. -/
  | memReadRetryDone (t : Time) (req : MemReq) (addr : Nat) (errs : List (Nat × Nat))
  /-- SLICE_PARITY_ERROR (R162): A slice finds a parity error and enters FAULT, with automatic substitution if enabled. -/
  | sliceParityError (t : Time) (slice : Nat) (inFlight : Option (Nat × Nat × Nat))
  /-- PLZ_SUBST_GO (R161): PLZ_SUBST.GO requests replacing an ACTIVE slice with the spare. -/
  | plzSubstGo (t : Time) (p : Port) (v : Word)
  /-- ARC_FLUSH (R150): ARC_CTRL.FLUSH empties every tile of a head at its next vertical blank. -/
  | arcFlush (t : Time) (p : Port) (heads : Nat)
  /-- CHAIN_SIGNAL_DETECT (R226): Signal is detected on an enabled chain port and training begins. -/
  | chainSignalDetect (t : Time) (portB : Bool)
  /-- CHAIN_TRAIN_DONE (R226): Chain port training completes and the port goes UP with its role set. -/
  | chainTrainDone (t : Time) (portB : Bool) (rxInverted : Bool) (delay : Nat) (offset : Int)
  /-- CHAIN_TRAIN_TIMEOUT (R226): No alignment within 1 ms and the port returns to DOWN. -/
  | chainTrainTimeout (t : Time) (portB : Bool)
  /-- CHAIN_TRAIN_RETRY (R226): 10 ms after a failed training, with signal present, training restarts. -/
  | chainTrainRetry (t : Time) (portB : Bool)
  /-- TRAIN_MESSAGE (R227): A TRAIN ordered set is received, setting upstream and standby roles or detecting miswiring. -/
  | trainMessage (t : Time) (rx : TrainRx) (unitId : Nat) (master hops : Option Nat) (peerDown : Bool) (peerAddr : Option Nat)
  /-- CHAIN_SHORT (R229): The common-mode monitor detects a short and the port enters FAULT. -/
  | chainShort (t : Time) (portB : Bool) (supply : Bool)
  /-- CHAIN_FAULT_CLEAR (R226): Common mode has been normal for 100 ms and the port leaves FAULT. -/
  | chainFaultClear (t : Time) (portB : Bool)
  /-- CHAIN_LOSS_OF_SIGNAL (R247): Loss of signal for 2 µs takes a port DOWN and starts healing or holdover. -/
  | chainLossOfSignal (t : Time) (portB : Bool)
  /-- CHAIN_PORT_RETRAIN (R226): A_RETRAIN or B_RETRAIN restarts training of a port. -/
  | chainPortRetrain (t : Time) (p : Port) (portB : Bool)
  /-- MARK (R246): A MARK message is received and forwarded, scheduling the fire of mark n. -/
  | markMsg (t : Time) (portB : Bool) (m : List Byte)
  /-- STEP (R242): A STEP message is received, scheduling a step or detaching the unit. -/
  | stepMsg (t : Time) (portB : Bool) (m : List Byte)
  /-- TIME_STEP_APPLY (R242): A unit's WALLTIME reaches APPLY_AT and it steps to NEW_TIME. -/
  | timeStepApply (t : Time)
  /-- ENUM (R231): An ENUM message is received, the unit requests an address and later forwards it. -/
  | enumMsg (t : Time) (portB : Bool) (m : List Byte)
  /-- ADDR_REQ (R232): The master receives ADDR_REQ and grants the unit its old or the next free address. -/
  | addrReq (t : Time) (portB : Bool) (m : List Byte)
  /-- ADDR_GRANT (R231): A unit receives ADDR_GRANT, takes its address and forwards ENUM. -/
  | addrGrant (t : Time) (portB : Bool) (m : List Byte)
  /-- TOPO (R247): A TOPO broadcast is received and routes and topology are updated. -/
  | topo (t : Time) (portB : Bool) (m : List Byte)
  /-- BREAK (R247): The master receives BREAK from a unit beside a failed link and broadcasts TOPO. -/
  | breakMsg (t : Time) (portB : Bool) (m : List Byte)
  /-- READY (R255): The master receives a READY for a group round. -/
  | readyMsg (t : Time) (portB : Bool) (m : List Byte)
  /-- COMMIT (R256): A member unit receives COMMIT and commits held flips of its member heads at frame N + 1. -/
  | commitMsg (t : Time) (portB : Bool) (m : List Byte)
  /-- DEFER (R255): A DEFER broadcast is received and READYs stay standing. -/
  | deferMsg (t : Time) (portB : Bool) (m : List Byte)
  /-- EXCLUDE (R258): A member unit receives EXCLUDE, flags the member and commits its held flips at once. -/
  | excludeMsg (t : Time) (portB : Bool) (m : List Byte)
  /-- READMIT (R258): A member unit receives READMIT and the member rejoins the vote. -/
  | readmitMsg (t : Time) (portB : Bool) (m : List Byte)
  /-- JOIN (R252): The master receives JOIN and counts the member as present. -/
  | joinMsg (t : Time) (portB : Bool) (m : List Byte)
  /-- WITHDRAW (R259): The master receives WITHDRAW and stops counting the member. -/
  | withdrawMsg (t : Time) (portB : Bool) (m : List Byte)
  /-- LATE_COMMIT (R260): A member receives LATE_COMMIT and commits its held flips at once. -/
  | lateCommit (t : Time) (portB : Bool) (m : List Byte)
  /-- SELF_EXCLUDED (R261): The master receives SELF_EXCLUDED and counts the member excluded. -/
  | selfExcluded (t : Time) (portB : Bool) (m : List Byte)
  /-- ACK (R239): An ACK is received for a message on the link. -/
  | ackMsg (t : Time) (portB : Bool) (m : List Byte)
  /-- NAK (R239): A NAK is received and the message is retransmitted once, or lost if already retried. -/
  | nakMsg (t : Time) (portB : Bool) (m : List Byte)
  /-- CHAIN_ACK_TIMEOUT (R239): No ACK or NAK within 2 µs and the message is retransmitted once. -/
  | chainAckTimeout (t : Time) (portB : Bool)
  /-- MGMT_READ (R250): A target unit receives a management READ and performs its words. -/
  | mgmtRead (t : Time) (portB : Bool) (m : List Byte)
  /-- MGMT_WRITE (R250): A target unit receives a management WRITE and performs its words. -/
  | mgmtWrite (t : Time) (portB : Bool) (m : List Byte)
  /-- READ_RSP (R249): The origin receives READ_RSP and completes its mailbox request with data. -/
  | readRsp (t : Time) (portB : Bool) (m : List Byte)
  /-- WRITE_RSP (R249): The origin receives WRITE_RSP and completes its mailbox request. -/
  | writeRsp (t : Time) (portB : Bool) (m : List Byte)
  /-- MB_GO (R249): MB_CMD.GO sends a remote READ or WRITE from a mailbox. -/
  | mbGo (t : Time) (p : Port) (secure : Bool) (v : Word)
  /-- MB_TIMEOUT (R251): A mailbox request has no response 10 ms after GO and completes with TIMEOUT. -/
  | mbTimeout (t : Time) (secure : Bool)
  /-- DELAY_PROBE (R240): A unit sends a delay probe on its upstream and standby ports, 1,000 times a second. -/
  | delayProbe (t : Time) (portB : Bool) (t1 : Int)
  /-- DELAY_PROBE_REPLY (R240): A probe reply arrives and delay and offset are computed to steer WALLTIME. -/
  | delayProbeReply (t : Time) (portB : Bool) (t1 t2 t3 t4 avg freq : Int)
  /-- ENUM_WALK (R233): Every 100 ms the master repeats the enumeration walk. -/
  | enumWalk (t : Time) (portB : Bool)
  /-- MARK_SEND (R245): The master's WALLTIME reaches MARK_TIME − 250 µs and it broadcasts MARK. -/
  | markSend (t : Time)
  /-- CHAIN_MARK_FIRE (R246): A unit's WALLTIME reaches MARK_TIME and it fires the mark as the CHAIN edge, repeating standing READYs. -/
  | chainMarkFire (t : Time)
  /-- WALL_VOTE_LINE (R255): The master reaches a group's vote line and broadcasts COMMIT or DEFER. -/
  | wallVoteLine (t : Time) (group : Nat)
  /-- SELF_EXCLUDE (R261): A member with a standing READY hears nothing for its mark limit, or loses the master, and excludes itself. -/
  | selfExclude (t : Time) (h : Nat)
  /-- WALL_READMIT_CMD (R258): CHN_WALL_CMD.READMIT on the master sends READMIT for a member. -/
  | wallReadmitCmd (t : Time) (p : Port) (v : Word)
  /-- PPS_EDGE (R243): An active TIME_PPS_IN edge on the master aligns WALLTIME by slew or step. -/
  | ppsEdge (t : Time)
  /-- PPS_LOST (R243): No PPS edge for 3 s. -/
  | ppsLost (t : Time)
  /-- TIME_MARK_OUT_PULSE (R244): WALLTIME crosses a whole second and the mark GPIO pulses for 10 µs. -/
  | timeMarkOutPulse (t : Time)
  /-- HPD_PLUG (R268): HPD has been high 100 ms in NO_SINK and the link goes to READ_CAPS. -/
  | hpdPlug (t : Time) (h terms : Nat)
  /-- HPD_IRQ (R278): A low HPD pulse of 0.25 to 2 ms ends and DPCD status is read, retraining if needed. -/
  | hpdIrq (t : Time) (h : Nat) (dpcd : List Byte)
  /-- HPD_UNPLUG (R278): HPD stays low more than 2 ms and the link goes to NO_SINK. -/
  | hpdUnplug (t : Time) (h : Nat)
  /-- CAPS_READ_DONE (R268): Sink capabilities are read and training starts or the link fails. -/
  | capsReadDone (t : Time) (h terms : Nat) (caps : Option (List Byte))
  /-- TRAIN_CONFIG_DONE (R269): Training at one configuration ends, bringing the link UP, trying the next or failing. -/
  | trainConfigDone (t : Time) (h : Nat) (cr1 cr2 eq : List (List Byte))
  /-- LINK_FAIL_RETRY (R268): 1 s after entry to FAILED the link goes to READ_CAPS. -/
  | linkFailRetry (t : Time) (h : Nat)
  /-- DPL_RETRAIN (R268): DPL_CTRL.RETRAIN retrains the link at once. -/
  | dplRetrain (t : Time) (p : Port) (h : Nat)
  /-- AUX_GO (R275): DPL_AUX_CMD.GO starts a software AUX request. -/
  | auxGo (t : Time) (p : Port) (h : Nat) (v : Word)
  /-- AUX_TRANSACTION_DONE (R276): An AUX transaction receives its reply and is classified. -/
  | auxTransactionDone (t : Time) (h : Nat) (sw : Bool) (addr req : Nat) (reply : AuxReply)
  /-- AUX_REPLY_TIMEOUT (R276): No AUX reply within 400 µs, a transaction error retried once. -/
  | auxReplyTimeout (t : Time) (h : Nat) (sw : Bool) (addr req : Nat)
  /-- AUX_DEFER_RETRY (R276): 400 µs after a DEFER the AUX transaction is repeated. -/
  | auxDeferRetry (t : Time) (h : Nat) (sw : Bool)
  /-- AUX_SHORT (R281): The AUX common-mode monitor detects a short and AUX enters FAULT. -/
  | auxShort (t : Time) (h kind : Nat)
  /-- AUX_FAULT_CLEAR (R281): AUX common mode is normal for 100 ms and AUX leaves FAULT. -/
  | auxFaultClear (t : Time) (h : Nat)
  /-- LANE_SHORT_DETECT (R282): A lane short is detected and the lane driver is current-limited. -/
  | laneShortDetect (t : Time) (h lane kind : Nat)
  /-- LANE_SHORT_CLEAR (R282): A lane's common mode is normal for 100 ms and LANE_SHORT clears. -/
  | laneShortClear (t : Time) (h lane : Nat)
  /-- TERMINATION_SENSE (R280): Every 100 ms lane terminations are sensed, detecting HPD stuck low. -/
  | terminationSense (t : Time) (h terms : Nat)
  /-- PANEL_SEQ_TIMER (R284): A panel power sequence timer expires and the eDP panel state advances. -/
  | panelSeqTimer (t : Time) (panel : PanelSense)
  /-- PERST_N_ASSERT (R294): PERST_N resets the PCI island and resets every instance. -/
  | perstNAssert (t : Time)
  /-- FLR (R294): A Function Level Reset resets the PCI island and every instance. -/
  | flr (t : Time)
  /-- PCIE_LINK_DOWN (R295): The PCIe link leaves L0 and outstanding requests fail with LINK_ERROR. -/
  | pcieLinkDown (t : Time)
  /-- PCIE_LINK_UP (R295): The PCIe link enters L0. -/
  | pcieLinkUp (t : Time) (speed width : Nat)
  /-- DOORBELL_WRITE (R304): A write to WIN_SUB_TAIL rings a submit ring. -/
  | doorbellWrite (t : Time) (i r : Nat) (v : Word)
  /-- WIN_EVT_RD_WRITE (R305): A guest advances its event ring read index. -/
  | winEvtRdWrite (t : Time) (i : Nat) (v : Word)
  /-- WIN_APERTURE_WRITE (R298): A write to WIN_APERTURE moves an instance's aperture slice. -/
  | winApertureWrite (t : Time) (i : Nat) (v : Word)
  /-- APERTURE_ACCESS (R298): A BAR 4 read or write reaches device DRAM through an instance's aperture slice. -/
  | apertureAccess (t : Time) (i off len : Nat) (wdata : Option (List Byte))
  /-- INST_ENTRY_WRITE (R300): A BAR 0 write to the instance table, checked against the state column. -/
  | instEntryWrite (t : Time) (p : Port) (i w : Nat) (v : Word)
  /-- INST_OPEN (R302): INST_CMD OPEN takes an instance from UNASSIGNED to SETUP. -/
  | instOpen (t : Time) (p : Port) (i : Nat)
  /-- INST_ACTIVATE (R301): INST_CMD ACTIVATE checks the entry and takes the instance to ACTIVE. -/
  | instActivate (t : Time) (p : Port) (i : Nat)
  /-- INST_RESET (R312): INST_CMD RESET cancels the instance's work and starts RESETTING. -/
  | instReset (t : Time) (p : Port) (i : Nat)
  /-- INST_CLOSE (R302): INST_CMD CLOSE clears the entry and returns it to UNASSIGNED. -/
  | instClose (t : Time) (p : Port) (i : Nat)
  /-- INST_SUSPEND (R317): INST_CMD SUSPEND stops taking lists and sets aside waits. -/
  | instSuspend (t : Time) (p : Port) (i : Nat)
  /-- INST_RESUME (R302): INST_CMD RESUME returns a SUSPENDED instance to ACTIVE. -/
  | instResume (t : Time) (p : Port) (i : Nat)
  /-- INST_EXPORT (R318): INST_CMD EXPORT writes the instance's context to manager memory. -/
  | instExport (t : Time) (p : Port) (i : Nat)
  /-- INST_IMPORT (R318): INST_CMD IMPORT reads a context into an instance in SETUP. -/
  | instImport (t : Time) (p : Port) (i : Nat)
  /-- INST_RESET_DONE (R313): All the instance's entries are FREE and work has ended; it returns to SETUP. -/
  | instResetDone (t : Time) (i : Nat)
  /-- SUSPEND_DONE (R317): Every command in progress has completed and the instance enters SUSPENDED. -/
  | suspendDone (t : Time) (i : Nat)
  /-- EXPORT_DONE (R318): An EXPORT ends. -/
  | exportDone (t : Time) (i : Nat)
  /-- IMPORT_DONE (R318): An IMPORT ends and the instance enters SUSPENDED. -/
  | importDone (t : Time) (i : Nat) (image : CtxImage)
  /-- RES_RESTORE_TIMER (R311): Free capacity has covered a withdrawn reservation for 1 s and it is restored. -/
  | resRestoreTimer (t : Time)
  /-- MIG_DRAM_TO_HOST (R319): MIG_CMD mode 0 copies an instance's DRAM range to the host. -/
  | migDramToHost (t : Time) (p : Port) (i : Nat)
  /-- MIG_HOST_TO_DRAM (R319): MIG_CMD mode 1 copies host memory into an instance's DRAM range. -/
  | migHostToDram (t : Time) (p : Port) (i : Nat)
  /-- MIG_SNAPSHOT (R322): MIG_CMD mode 2 copies and clears the instance's dirty bitmap. -/
  | migSnapshot (t : Time) (p : Port) (i : Nat)
  /-- MIG_DONE (R322): A migration copy ends. -/
  | migDone (t : Time) (last : Option (Nat × List Byte))
  /-- INST_C0_RES_WRITE (R309): The secure world writes the secure reservation, refused if it exceeds free capacity. -/
  | instC0ResWrite (t : Time) (p : Port) (v : Word)
  /-- HANDOVER_START (R339): SEC_HO_CMD.GO starts the hand-over of an assignable block. -/
  | handoverStart (t : Time) (p : Port) (v : Word)
  /-- HANDOVER_RELEASE (R341): A block reaches its release point and its scrub starts. -/
  | handoverRelease (t : Time) (blk : Nat)
  /-- HANDOVER_SCRUB_END (R341): A block's scrub ends and it passes to the new world. -/
  | handoverScrubEnd (t : Time) (blk : Nat)
  /-- SEC_SUB_ENABLE (R330): SEC_SUB_CTRL.EN written 1 enables a secure submit ring after checks. -/
  | secSubEnable (t : Time) (p : Port) (r : Nat) (v : Word)
  /-- SEC_DOORBELL (R330): A write to SEC_SUB_TAIL rings a secure submit ring. -/
  | secDoorbell (t : Time) (p : Port) (r : Nat) (v : Word)
  /-- SVC_ENABLE (R333): SEC_SVC_CTRL.ENABLE written 1 enables the service ring after checks. -/
  | svcEnable (t : Time) (p : Port) (v : Word)
  /-- WM_DRAM_WRITE (R329): A write of WM_DRAM raises or lowers the DRAM watermark after checks. -/
  | wmDramWrite (t : Time) (p : Port) (v : Word)
  /-- WM_SDT_WRITE (R329): A write of WM_SDT moves the SDT watermark after checks. -/
  | wmSdtWrite (t : Time) (p : Port) (v : Word)
  /-- WM_SRAM_WRITE (R329): A write of WM_SRAM moves the SRAM watermark and empties tiles that change side. -/
  | wmSramWrite (t : Time) (p : Port) (v : Word)
  /-- JTAG_EXTEST_ENTRY (R348): Entry to EXTEST, CLAMP or HIGHZ zeroises secure SRAM, clears valid pages and resets every island. -/
  | jtagExtestEntry (entry : TapEntry)
  /-- JTAG_TEST_LOGIC_RESET (R348): The TAP passes through Test-Logic-Reset, releasing the hold in ENUMERATE. -/
  | jtagTestLogicReset (t : Time)
  /-- DBG_ACCESS (R349): A DBG_ACCESS read, write or halt is performed with the effective rights. -/
  | dbgAccess (t : Time) (op : DbgOp)
  /-- PERF_CLEAR (R350): PERF_CTRL.CLEAR sets every counter to 0. -/
  | perfClear (t : Time) (p : Port)
  /-- MEM_INIT_DONE (R369): Memory initialisation finishes training all set points and runs at the fastest valid one. -/
  | memInitDone (t : Time) (densities : List Nat) (trained : List (Option Nat))
  /-- IDLE_DRAIN_START (R360): No read has been queued for 32 cycles and an idle drain begins. -/
  | idleDrainStart (t : Time) (g : Nat)
  /-- REFRESH_DUE (R367): A per-bank-pair refresh falls due and is issued, postponed or forces the oldest owed one. -/
  | refreshDue (t : Time) (g : Nat) (urgentQueued : Bool)
  /-- REFRESH_ISSUE (R367): An owed refresh is issued once no urgent read to its pair is queued. -/
  | refreshIssue (t : Time) (g : Nat)
  /-- REFRESH_PULL_IN (R368): With no read queued the controller pulls in a refresh ahead of time. -/
  | refreshPullIn (t : Time) (g : Nat)
  /-- MR4_POLL (R366): Every 16 ms mode register 4 is read and the group's refresh rate may change. -/
  | mr4Poll (t : Time) (g : Nat) (temps : List Nat) (hot : NSet)
  /-- RETRAIN_STEP_DUE (R370): Every INTERVAL_MS a retraining step of the DQS oscillator falls due. -/
  | retrainStepDue (t : Time) (g : Nat) (urgentQueued : Bool)
  /-- MEM_FREQ_GO (R371): MEM_FREQ.GO requests the set point in TARGET. -/
  | memFreqGo (t : Time) (p : Port) (v : Word)
  /-- FREQ_SWITCH_DONE (R372): A set point switch ends and traffic resumes. -/
  | freqSwitchDone (t : Time)
  /-- FULL_TRAINING_DONE (R373): Full training of a set point ends with success or return to the previous set point. -/
  | fullTrainingDone (t : Time) (fail : Option Nat)
  /-- MEM_SVC_ACTION_DONE (R375): The SERVICE action of a memory group completes. -/
  | memSvcActionDone (t : Time) (g : Nat) (fail : Option Nat)
  /-- PAGE_FILL_DONE (R391): All 32 blocks of a filling page are written and its valid bit is set. -/
  | pageFillDone (t : Time) (page : Nat)
  /-- SWEEPER_READ (R395): The Sweeper reads a block in an idle cycle and acts on each word. -/
  | sweeperRead (t : Time) (g : Nat) (errs retry : List (Nat × Nat))
  /-- LAP_SLOW (R396): A lap runs longer than LAP_WARN_MIN minutes. -/
  | lapSlow (t : Time) (g : Nat)
  /-- RANGE_GO (R397): RNG_CTRL.GO starts a range pass after checks. -/
  | rangeGo (t : Time) (p : Port) (v : Word)
  /-- RANGE_ABORT (R398): RNG_CTRL.ABORT ends a range pass with CANCELLED. -/
  | rangeAbort (t : Time) (p : Port)
  /-- RANGE_DONE (R398): A range pass reads its last block and ends. -/
  | rangeDone (t : Time)
  /-- SCRUB_REWRITE (R399): A queued scrub rewrite reads and rewrites a block corrected as one operation. -/
  | scrubRewrite (t : Time) (g e : Nat) (errs retry : List (Nat × Nat))
  /-- SCRUB_REWRITE_PROMOTE (R399): 1 ms after queuing a scrub rewrite moves from rank 7 to rank 4. -/
  | scrubRewritePromote (t : Time) (g e : Nat)
  /-- LOG_MARK (R401): SWP_LOG_SEL.MARK marks a log entry for repair. -/
  | logMark (t : Time) (p : Port) (g e : Nat)
  /-- LOG_UNMARK (R401): SWP_LOG_SEL.UNMARK clears a log entry's mark. -/
  | logUnmark (t : Time) (p : Port) (g e : Nat)
  /-- LOG_FREE (R401): SWP_LOG_SEL.FREE frees a log entry. -/
  | logFree (t : Time) (p : Port) (g e : Nat)
  /-- REPAIR_DONE (R402): A post-package repair of a marked row ends. -/
  | repairDone (t : Time) (g e : Nat) (code : Nat)
  /-- SCAN_CYCLE_START (R411): A capacitive scan cycle starts at the present rate's period. -/
  | scanCycleStart (t : Time)
  /-- SCAN_CYCLE_END (R408): The mutual scan ends and object decisions, baselines, faults and noise are evaluated. -/
  | scanCycleEnd (t : Time) (selfs : List Nat) (muts : List (Nat × Nat)) (noise : Nat)
  /-- IDLE_RATE_STEP (R411): Idle time passes 1, 10 or 60 s and the scan rate steps down. -/
  | idleRateStep (t : Time)
  /-- HAP_TRIG_EDGE (R433): An enabled edge on HAP_TRIG triggers the channel's pin slot. -/
  | hapTrigEdge (t : Time) (ch : Nat) (rising : Bool)
  /-- HAP_PLAY (R433): HAP_CH_CTRL.PLAY triggers PLAY_SLOT. -/
  | hapPlay (t : Time) (p : Port) (ch : Nat) (v : Word)
  /-- HAP_STOP (R434): HAP_CH_CTRL.STOP moves KICK or SUSTAIN to BRAKE or discards a queued trigger. -/
  | hapStop (t : Time) (p : Port) (ch : Nat)
  /-- HAP_CLEAR (R433): HAP_CH_CTRL.CLEAR takes a channel from FAULT to IDLE. -/
  | hapClear (t : Time) (p : Port) (ch : Nat)
  /-- HAP_PHASE_END (R433): A kick, sustain or brake phase time ends and the channel moves on. -/
  | hapPhaseEnd (t : Time) (ch : Nat)
  /-- HAP_TIMED_START (R437): The HAP island's WALLTIME reaches a timed start and the effect is triggered. -/
  | hapTimedStart (t : Time) (ch : Nat)
  /-- HAP_DUTY_REACHED (R435): A running effect's DUTY_NOW reaches DUTY_PCT and it moves to BRAKE. -/
  | hapDutyReached (t : Time) (ch : Nat)
  /-- HAP_SHORT_DETECT (R436): Output current or a short is detected and the channel faults with outputs high-impedance. -/
  | hapShortDetect (t : Time) (ch : Nat)
  /-- HAP_OPEN_DETECT (R436): Current stays below 10 mA for 1 ms of drive and the channel faults open. -/
  | hapOpenDetect (t : Time) (ch : Nat)
  /-- BACK_EMF_SAMPLE (R436): Every 5 ms in SUSTAIN the bridge coasts and samples back-EMF for stall and reversal. -/
  | backEmfSample (t : Time) (ch : Nat) (mv : Int)
  /-- VDD_HAP_MEASURE (R435): Every 100 µs VDD_HAP is measured, stopping all drive if it falls below 2,900 mV. -/
  | vddHapMeasure (t : Time) (mv : Nat)
  /-- TDM_CLOCK_LOCK (R439): A target-mode TDM port sees four good frames and runs. -/
  | tdmClockLock (t : Time) (port : Nat)
  /-- TDM_NO_CLOCK (R439): Four frame periods pass without FSYNC and the port enters NO_CLOCK. -/
  | tdmNoClock (t : Time) (port : Nat)
  /-- CUE_START (R441): A cue starts at its frame, replacing the one playing. -/
  | cueStart (t : Time) (str : Nat)
  /-- CUE_END (R441): A cue passes its last sample and ends or loops. -/
  | cueEnd (t : Time) (str : Nat)
  /-- CUE_DATA_READ_DONE (R441): A cue's sample read completes, late or in error. -/
  | cueDataReadDone (t : Time) (str zeroed : Nat) (err : Bool)
  /-- AUD_STR_STOP (R441): AUD_STR_CTRL.STOP ends the playing cue and cancels pending ones. -/
  | audStrStop (t : Time) (p : Port) (str : Nat)
  /-- ALARM_PATTERN_STEP (R444): An alarm generator's ON_MS or OFF_MS period ends and the tone toggles. -/
  | alarmPatternStep (t : Time) (g : Nat)
  /-- DUCK_HOLD_EXPIRE (R443): HOLD_MS after the higher class falls silent, ducking is released over the ramp. -/
  | duckHoldExpire (t : Time) (str : Nat)
  /-- BIST_SRAM_MARCH (R456): BIST_CMD KIND 0 runs March C− on an SRAM macro and repairs it. -/
  | bistSramMarch (t : Time) (p : Port) (v : Word)
  /-- BIST_DRAM_MARCH (R457): BIST_CMD KIND 1 runs March C− over a memory group's DRAM. -/
  | bistDramMarch (t : Time) (p : Port) (v : Word)
  /-- BIST_DP_LOOPBACK (R459): BIST_CMD KIND 2 runs the DP lane loopback. -/
  | bistDpLoopback (t : Time) (p : Port) (v : Word)
  /-- BIST_PIXEL_PLL (R459): BIST_CMD KIND 3 checks a head's pixel PLL lock and jitter. -/
  | bistPixelPll (t : Time) (p : Port) (v : Word)
  /-- BIST_CHAIN_LOOPBACK (R459): BIST_CMD KIND 4 runs an internal chain port loopback. -/
  | bistChainLoopback (t : Time) (p : Port) (v : Word)
  /-- BIST_TOUCH_REF (R459): BIST_CMD KIND 5 measures the touch reference capacitors. -/
  | bistTouchRef (t : Time) (p : Port) (v : Word)
  /-- BIST_HAPTIC_BRIDGE (R459): BIST_CMD KIND 6 drives a haptic bridge into its internal load. -/
  | bistHapticBridge (t : Time) (p : Port) (v : Word)
  /-- BIST_TDM_LOOPBACK (R459): BIST_CMD KIND 7 runs a TDM port loopback. -/
  | bistTdmLoopback (t : Time) (p : Port) (v : Word)
  /-- BIST_TEMP_SENSORS (R459): BIST_CMD KIND 8 checks the temperature sensors against the band-gap. -/
  | bistTempSensors (t : Time) (p : Port) (v : Word)
  /-- BIST_ABORT (R452): BIST_CMD.ABORT ends a running test with CANCELLED. -/
  | bistAbort (t : Time) (p : Port)
  /-- BIST_ATTEMPT_DONE (R452): A test attempt ends, the test finishing or its analogue check retrying once. -/
  | bistAttemptDone (t : Time) (r : BistRes)
  /-- SRAM_SOFT_REPAIR_DONE (R454): The ENUMERATE March C− and soft repair of all macros completes. -/
  | sramSoftRepairDone (t : Time) (needs : List (Nat × Nat × Nat))
  /-- TG_ENABLE (R458): BIST_TG_CTRL.EN written 1 starts the memory traffic generator. -/
  | tgEnable (t : Time) (p : Port) (v : Word)
  /-- TG_DISABLE (R458): BIST_TG_CTRL.EN written 0 stops the traffic generator. -/
  | tgDisable (t : Time) (p : Port)
  /-- TG_WINDOW (R458): Every 100 ms the generator's delivered bandwidth is recorded. -/
  | tgWindow (t : Time) (mbps : Nat)
  /-- CND_SUBST_GO (R463): BIST_CND_SUBST.GO starts replacing an ACTIVE Conductor with the spare. -/
  | cndSubstGo (t : Time) (p : Port) (v : Word)
  /-- CND_SUBST_DONE (R463): The last list has moved to the spare and the substitution completes. -/
  | cndSubstDone (t : Time)
  /-- CND_FAULT (R464): A Conductor enters FAULT, its lists halt and the spare takes over. -/
  | cndFault (t : Time) (c : Nat)
  /-- UPDATE_GH_PATCH (R466): BIST_UPD_CTRL.GO with KIND 3 applies a Gatehouse patch. -/
  | updateGhPatch (t : Time) (p : Port) (v : Word)
  /-- UPDATE_CND_UCODE (R467): BIST_UPD_CTRL.GO with KIND 4 loads Conductor microcode into the spare. -/
  | updateCndUcode (t : Time) (p : Port) (v : Word)
  /-- UPDATE_APPLY_DONE (R466): An update finishes applying. -/
  | updateApplyDone (t : Time)
  /-- QSPI_READ (R477): QSPI_OP READ reads bytes from the boot flash. -/
  | qspiRead (t : Time) (p : Port) (v : Word)
  /-- QSPI_PROGRAM (R477): QSPI_OP PROGRAM programs a flash page. -/
  | qspiProgram (t : Time) (p : Port) (v : Word)
  /-- QSPI_ERASE (R477): QSPI_OP ERASE erases a 64 KiB sector. -/
  | qspiErase (t : Time) (p : Port) (v : Word)
  /-- QSPI_OP_COMPLETE (R477): A flash operation finishes when WIP clears. -/
  | qspiOpComplete (t : Time) (data : List Byte)
  /-- QSPI_OP_TIMEOUT (R477): A flash operation is still busy after 2 s and completes with TIMEOUT. -/
  | qspiOpTimeout (t : Time)
  /-- SUPPLY_UNDERVOLT (R489): VDD_CORE, VDD_SRAM or VDDA_COMP falls below its limit for 2 µs and the device holds itself in reset. -/
  | supplyUndervolt (t : Time) (rail : Nat)
  /-- SUPPLY_RESET_RELEASE (R489): 1 ms after every reset condition has ended the device releases its reset. -/
  | supplyResetRelease (t : Time)
  /-- THERMAL_TRIP (R503): A sensor reads 140 °C for 1 ms and the device enters reset with TRIPPED set. -/
  | thermalTrip (t : Time)
  /-- THERMAL_TRIP_END (R503): Every sensor reads below 125 °C and the device restarts as from RESET_N. -/
  | thermalTripEnd (t : Time)
  /-- MON_SAMPLE (R504): Every 100 µs the rail and temperature readings are refreshed and checked. -/
  | monSample (t : Time) (mv temps : List Nat)
  /-- TEMP_NORMAL_TIMER (R503): Tj has stayed below ALERT − HYST for 1 s. -/
  | tempNormalTimer (t : Time)
  /-- SMP_READ (R499): A secure port READ frame is received whole and its words are read. -/
  | smpRead (t : Time) (frame : List Byte)
  /-- SMP_WRITE (R499): A secure port WRITE frame is received whole and its words are written. -/
  | smpWrite (t : Time) (frame : List Byte)
  /-- SMP_CS_EARLY_RISE (R500): SMP_CS_N rises before the request CRC byte and nothing is performed. -/
  | smpCsEarlyRise (t : Time)
  /-- SMP_TIMEOUT (R499): A secure port request is not complete 100 µs after its CRC byte and returns TIMEOUT. -/
  | smpTimeout (t : Time) (frame : List Byte) (words : Nat)
  /-- GPIO_EDGE (R505): An enabled GPIO edge, held stable for 1 µs, raises GPIO_EDGE. -/
  | gpioEdge (t : Time) (pin : Nat) (rising : Bool)
  /-- PERST_N_RELEASE (R294): PERST_N rises, the PCI island reset ends, FUNCTION_RESET is raised and the link goes to Detect within 20 ms. -/
  | perstNRelease (t : Time)
  /-- PCIE_CONFIGURATION_REQUEST (R33): A PCIe configuration request arrives and is answered, with Configuration Request Retry Status in ENUMERATE, and writes such as Bus Master Enable take effect. -/
  | pcieConfigurationRequest (t : Time) (write : Bool) (reg be : Nat) (v : Word)
  /-- WRITE_BUFFER_BLOCK_WRITTEN (R360): A write-buffer entry's block is written to DRAM, freeing the entry, ending a drain at 24 or an idle drain when empty, and letting a waiting writer proceed. -/
  | writeBufferBlockWritten (t : Time) (g blk : Nat) (errs retry : List (Nat × Nat))
  /-- RETRAIN_STEP_POSTPONE_LIMIT (R370): A retraining step postponed by urgent reads for 10 ms moves to rank 1. -/
  | retrainStepPostponeLimit (t : Time) (g : Nat)
  /-- RETRAIN_STEP_END (R371): A DQS retraining step of at most 500 ns ends, and a frequency change left PENDING under R371 then applies. -/
  | retrainStepEnd (t : Time) (g : Nat) (drift : Option (Nat × Nat))
  /-- PROBE_RECEIVED (R240): A peer receives a delay probe, stamps t2 and sends the reply stamped t3. -/
  | probeReceived (t : Time) (portB : Bool) (rx tx : Int)
  /-- GENERATOR_START (R444): At the first TDM frame after EN applies, an alarm generator starts at phase 0. -/
  | generatorStart (t : Time) (g : Nat)
  deriving DecidableEq, Repr

end Sys2Proof
end

