-- ==== Sys2Proof/Decode.lean ====
section
/-! DEFINITION. The command that a word spells by the opcode table's bits: no row of the table gives bits, since the commands are
events and accesses and not encoded words. -/

namespace Sys2Proof

/-- The command spelled by the `nbits`-bit word `w`: none, for the opcode table gives no row an encoding. -/
def decodeTableWord (_nbits _w : Nat) : Option Instr := none

end Sys2Proof
end

