-- ==== Sys2Proof/Machine/Bits.lean ====
section
/-! DEFINITION. Bit fields (R7), saturating counts, little-endian byte order and the finite-map operations. -/

namespace Sys2Proof.Machine

/-- Bits `lo + len - 1 : lo` of a word, as a number (R7). -/
def bits (w : Word) (lo len : Nat) : Nat := (w.extractLsb' lo len).toNat

/-- The word `w` with bits `lo + len - 1 : lo` replaced by the low `len` bits of `v`. -/
def putBits (w : Word) (lo len v : Nat) : Word :=
  let m : Word := (BitVec.allOnes 32 >>> (32 - len))
  (w &&& ~~~(m <<< lo)) ||| (((BitVec.ofNat 32 v) &&& m) <<< lo)

/-- Bit `i` of a number. -/
def bit (n i : Nat) : Bool := (n / 2 ^ i) % 2 == 1

/-- `n` with bit `i` set or cleared. -/
def setBit (n i : Nat) (b : Bool) : Nat :=
  if bit n i then (if b then n else n - 2 ^ i) else (if b then n + 2 ^ i else n)

/-- The number of ones among the low `k` bits of `n`. -/
def popcount : Nat → Nat → Nat
  | 0, _ => 0
  | k + 1, n => (if bit n k then 1 else 0) + popcount k n

/-- A count that saturates at `2 ^ len - 1`. -/
def satAdd (len v n : Nat) : Nat := min (v + n) (2 ^ len - 1)

/-- The low 64 bits of a number as two words, low first. -/
def lo32 (n : Nat) : Word := BitVec.ofNat 32 n
def hi32 (n : Nat) : Word := BitVec.ofNat 32 (n / 4294967296)

/-- A signed number as an `len`-bit two's complement field, and back. -/
def ofInt (len : Nat) (i : Int) : Nat := (i % (2 ^ len : Int)).toNat
def toInt (len n : Nat) : Int := if n % 2 ^ len < 2 ^ (len - 1) then (n % 2 ^ len : Nat) else (n % 2 ^ len : Nat) - (2 ^ len : Int)

/-- Little-endian bytes of a number (R7): `k` of them. -/
def leBytes : Nat → Nat → List Byte
  | 0, _ => []
  | k + 1, n => BitVec.ofNat 8 n :: leBytes k (n / 256)

/-- The number that little-endian bytes hold (R7). -/
def ofLe : List Byte → Nat
  | [] => 0
  | b :: r => b.toNat + 256 * ofLe r

/-- Bytes of a list of words, each little-endian (R7). -/
def wordBytes (ws : List Word) : List Byte := ws.flatMap fun w => leBytes 4 w.toNat

/-- Words of a list of bytes, four at a time; a short tail is dropped. -/
def bytesWords : Nat → List Byte → List Word
  | 0, _ => []
  | k + 1, bs => if bs.length < 4 then [] else BitVec.ofNat 32 (ofLe (bs.take 4)) :: bytesWords k (bs.drop 4)

/-- Word `i` of a list, 0 past its end. -/
def nthW (ws : List Word) (i : Nat) : Word := ws.getD i 0#32

/-! Finite maps. -/

/-- The value at key `k`, or `d` where `k` is not listed. -/
def fget {α : Type} (d : α) : FMap α → Nat → α
  | [], _ => d
  | (k', v) :: r, k => if k = k' then v else fget d r k

/-- `m` with `v` at key `k`; keys stay in rising order. -/
def fset {α : Type} : FMap α → Nat → α → FMap α
  | [], k, v => [(k, v)]
  | (k', v') :: r, k, v =>
    if k < k' then (k, v) :: (k', v') :: r else if k = k' then (k, v) :: r else (k', v') :: fset r k v

/-- `m` without key `k`. -/
def fdel {α : Type} (m : FMap α) (k : Nat) : FMap α := m.filter fun p => p.1 ≠ k

/-- Whether key `k` is listed. -/
def fhas {α : Type} (m : FMap α) (k : Nat) : Bool := m.any fun p => p.1 == k

/-- `f` applied to the value at key `k`. -/
def fmod {α : Type} (d : α) (m : FMap α) (k : Nat) (f : α → α) : FMap α := fset m k (f (fget d m k))

/-! Number sets. -/

/-- `s` with `n`, in rising order. -/
def nadd : NSet → Nat → NSet
  | [], n => [n]
  | x :: r, n => if n < x then n :: x :: r else if n = x then x :: r else x :: nadd r n

/-- `s` without `n`. -/
def ndel (s : NSet) (n : Nat) : NSet := s.filter fun x => x ≠ n

/-- Fold a state change over the numbers `0 .. k-1`, in rising order. -/
def forNat {σ : Type} (k : Nat) (f : Nat → σ → σ) (s : σ) : σ := (List.range k).foldl (fun a i => f i a) s

/-- Fold a state change over a list. -/
def forEach {α σ : Type} (l : List α) (f : α → σ → σ) (s : σ) : σ := l.foldl (fun a x => f x a) s

end Sys2Proof.Machine
end

