-- ==== Sys2Proof/Machine/Ecc.lean ====
section
/-! DEFINITION. The DEC-TED code of a DRAM word (R380 to R384).  Bit j of a stored word is codeword position j (R380); bit 79
is P, the overall parity. -/

namespace Sys2Proof.Machine

/-- α^k in GF(2^7), as the bits b6..b0 of its polynomial (R382): α is a root of x^7 + x + 1. -/
def gfPow : Nat → Nat
  | 0 => 1
  | k + 1 => let p := gfPow k * 2; if p < 128 then p else (p - 128) ^^^ 3

/-- The logarithm of a field element that is not 0: its exponent, 0 to 126 (R383). -/
def gfLog (x : Nat) : Nat := ((List.range 127).find? fun k => gfPow k == x).getD 0

/-- s^3 (R383). -/
def gfCube (s : Nat) : Nat := if s = 0 then 0 else gfPow (3 * gfLog s % 127)

/-- The BCH check bits of a word and its poison bit (R381), from information bit 64 down. -/
def bchCheck (data : Nat) (poison : Bool) : Nat :=
  (List.range 65).reverse.foldl (fun c i =>
    let u := if i = 64 then poison else bit data i
    let fb := u != bit c 13
    let c := c * 2 % 16384
    if fb then c ^^^ 0x147D else c) 0

/-- The parity of the low `k` bits of a number. -/
def parity (k n : Nat) : Bool := popcount k n % 2 == 1

/-- The 16-bit check field (R381). -/
def checkField (data : Nat) (poison : Bool) : Nat :=
  let c := bchCheck data poison
  let p := (parity 64 data != poison) != parity 14 c
  (if poison then 32768 else 0) + (if p then 16384 else 0) + c

/-- The stored 80 bits by codeword position (R380). -/
def eccEncode (data : Nat) (poison : Bool) : Nat :=
  let f := checkField data poison
  f % 16384 + data * 16384 + (if poison then 2 ^ 78 else 0) + (if bit f 14 then 2 ^ 79 else 0)

/-- The data and the poison bit of 80 stored bits. -/
def eccData (cw : Nat) : Nat := cw / 16384 % 2 ^ 64
def eccPoison (cw : Nat) : Bool := bit cw 78

/-- S1 and S3 of a stored word (R382). -/
def synd1 (cw : Nat) : Nat := (List.range 79).foldl (fun a j => if bit cw j then a ^^^ gfPow j else a) 0
def synd3 (cw : Nat) : Nat := (List.range 79).foldl (fun a j => if bit cw j then a ^^^ gfPow (3 * j % 127) else a) 0

/-- The positions that decoding flips, or none where the word is uncorrectable (R383). -/
def eccFlips (cw : Nat) : Option (List Nat) :=
  let s1 := synd1 cw
  let s3 := synd3 cw
  let sp := parity 80 cw
  if s1 = 0 && s3 = 0 then some (if sp then [79] else [])
  else if s1 ≠ 0 && s3 = gfCube s1 then
    let j := gfLog s1
    if j > 78 then none else some (if sp then [j] else [j, 79])
  else if sp || s1 = 0 then none
  else
    let q := (gfLog (s3 ^^^ gfCube s1) + 127 - gfLog s1) % 127
    match (List.range 79).find? (fun j1 =>
        let x := s1 ^^^ gfPow j1
        x != 0 && (let j2 := gfLog x; decide (j1 < j2) && decide (j2 ≤ 78) && (j1 + j2) % 127 == q)) with
    | some j1 => some [j1, gfLog (s1 ^^^ gfPow j1)]
    | none => none

/-- A stored word with the positions `js` flipped. -/
def eccFlip (cw : Nat) (js : List Nat) : Nat := js.foldl (fun c j => c ^^^ 2 ^ j) cw

/-- The channel of the group that holds position `j` of word `k` of a block: 0 to 3 data, 4 check (R354, R380). -/
def eccChannel (k j : Nat) : Nat := if 14 ≤ j && j ≤ 77 then (8 * k + (j - 14) / 8) / 32 else 4

/-! The CRC-32 of IEEE 802.3 (R211), which signatures and chain messages use. -/

/-- One bit of the CRC engine (R211). -/
def crcBit (c : Nat) : Nat := if c % 2 = 1 then (c / 2) ^^^ 0xEDB88320 else c / 2
/-- A byte enters the CRC engine (R211). -/
def crcByte (c : Nat) (b : Byte) : Nat :=
  crcBit (crcBit (crcBit (crcBit (crcBit (crcBit (crcBit (crcBit (c ^^^ b.toNat))))))))
/-- The running CRC over bytes, and the CRC-32 of bytes (R211). -/
def crcRun (c : Nat) (bs : List Byte) : Nat := bs.foldl crcByte c
def crc32 (bs : List Byte) : Nat := crcRun 0xFFFFFFFF bs ^^^ 0xFFFFFFFF

end Sys2Proof.Machine
end

