-- ==== Sys2Proof/Config.lean ====
section
/-! DEFINITION. What a particular part and board fix (grade, fuses, memory density), and the values the manual
leaves open, as constants without a body. -/

namespace Sys2Proof.Config

/-- Grade XC instead of IC (R2): a part is one or the other; log entry 4. -/
opaque gradeXC : Bool

/-- The fused unit ID's bits and their number (R469); log entry 2. -/
opaque unitIdBits : BitVec 64
def unitId : Nat := unitIdBits.toNat

/-- DBG_FUSE.EN and DBG_FUSE.KILL (R347), which a part's fuses fix; log entry 2. -/
opaque fuseDebugEnBits : BitVec 4
def fuseDebugEn : Nat := fuseDebugEnBits.toNat
opaque fuseDebugKill : Bool

/-- PCI vendor ID, Skovel Devices' assigned ID, whose value the manual does not give (R290); log entry 2. -/
opaque pciVendorIdBits : BitVec 16
def pciVendorId : Nat := pciVendorIdBits.toNat

/-- Microcode version of a Conductor as it leaves the factory (BIST_CND_VER, Reset "—"); log entry 1. -/
opaque cndRomVersionBits : BitVec 16
def cndRomVersion : Nat := cndRomVersionBits.toNat

/-- A value the manual leaves open: nothing constrains it.  The step applies it to `State.freeCtr`, which it advances, so
that every use is a fresh value. -/
opaque freeValue : Nat → BitVec 64

/-- The bytes of a migrated context between its length and its CRC, by what it holds and the byte's number: R318 gives no layout; log
entry 29. -/
opaque ctxByte : List Nat → Nat → BitVec 8

/-- Skovel Devices' JEDEC manufacturer code, whose value the manual does not give (R348); log entry 2. -/
opaque jedecBits : BitVec 11
def jedecId : Nat := jedecBits.toNat

/-- Spare rows and columns of an SRAM macro that a part's fuses use (R454; BIST_SRAM_VIEW, Reset "—"); log entry 1. -/
opaque fuseRowBits : Nat → BitVec 3
opaque fuseColBits : Nat → BitVec 2
def fuseRows (m : Nat) : Nat := (fuseRowBits m).toNat % 5
def fuseCols (m : Nat) : Nat := (fuseColBits m).toNat % 3

/-- Where a PCI capability lies in configuration space, by its ID; the second is for extended capabilities (R290): no rule gives the places;
log entry 28. -/
opaque pciCapAt : Nat → Nat
opaque pciExtCapAt : Nat → Nat

/-- Whether a head of another unit is a member of coherence group `g` at a WALLTIME (R253): no message tells a unit that is not the
master. -/
opaque groupElsewhere : Nat → Nat → Bool

/-- Where two taps of a filter ROM entry are the largest, whether the second of them absorbs the rounding difference (R140
does not say): by axis length, ratio and phase. -/
opaque romTie : Nat → Nat → Nat → Bool

end Sys2Proof.Config
end

