-- ==== Sys2Proof/Machine/RegMap.lean ====
section
/-! DEFINITION. The register tables of the manual (chapters 01 to 16): for every register of every page its
offset, its array stride and count, its reset value (R10; a "cfg" field shows the factory default of R473),
and the bits of each access type (R57).  A field that a command of its own writes (a GO bit, an enable with a row
of its own) is listed in none of the plain masks. -/

namespace Sys2Proof.Machine

/-- A field of a register: offset of the register within its page, lowest bit, width (R7). -/
structure Fld where
  off : Nat
  lo  : Nat
  len : Nat
  deriving DecidableEq, Repr

/-- One register, or one array of `count` registers `stride` bytes apart: its reset value and, per access
type of R57, the bits a plain register write reaches; and the writable bits whose reset is "cfg" (R10). -/
structure RegRow where
  off    : Nat
  stride : Nat := 0
  count  : Nat := 1
  reset  : Nat := 0
  rw     : Nat := 0
  w1c    : Nat := 0
  rws    : Nat := 0
  rwl    : Nat := 0
  cfg    : Nat := 0
  secure : Bool := false
  deriving DecidableEq, Repr

/-- Registers of the SYS page . -/
def rowsSys : List RegRow :=
  [ { off := 0x40, reset := 0x80 },
    { off := 0x44 },
    { off := 0x48, rwl := 0x2, secure := true },
    { off := 0x50 },
    { off := 0x54 },
    { off := 0x58 } ]

/-- Registers of the common header (R59, every page). -/
def rowsHdr : List RegRow :=
  [ { off := 0x0, reset := 0xB0000 },
    { off := 0x4 },
    { off := 0x8, reset := 0x1, cfg := 0x1 },
    { off := 0xC },
    { off := 0x10 },
    { off := 0x14 },
    { off := 0x18 },
    { off := 0x1C },
    { off := 0x20 },
    { off := 0x24 },
    { off := 0x28 },
    { off := 0x2C },
    { off := 0x30 },
    { off := 0x34 },
    { off := 0x38 },
    { off := 0x3C } ]

/-- Registers of the JRN page . -/
def rowsJrn : List RegRow :=
  [ { off := 0x40, rw := 0xFFFFFFFF },
    { off := 0x44, rw := 0xFFFFFFFF },
    { off := 0x48, reset := 0x10000, rw := 0xFFFF001E },
    { off := 0x4C },
    { off := 0x50 },
    { off := 0x54 } ]

/-- Registers of the PLAZA page . -/
def rowsPlaza : List RegRow :=
  [ { off := 0x40, reset := 0x1, rw := 0x1 },
    { off := 0x44, reset := 0xC },
    { off := 0x48, reset := 0x7D000000 },
    { off := 0x4C, rw := 0x7 },
    { off := 0x50, rw := 0xF07 },
    { off := 0x60 },
    { off := 0x64 },
    { off := 0x68 },
    { off := 0x6C },
    { off := 0x70 },
    { off := 0x74 },
    { off := 0x78 },
    { off := 0x7C },
    { off := 0x100, stride := 0x10, count := 8, reset := 0x4, rws := 0x3F, cfg := 0x3F },
    { off := 0x104, stride := 0x10, count := 8, rws := 0x3FFFFFFF, cfg := 0x3FFFFFFF },
    { off := 0x108, stride := 0x10, count := 8, reset := 0x3FF003FF, rws := 0x3FFFFFFF, cfg := 0x3FFFFFFF },
    { off := 0x10C, stride := 0x10, count := 8, reset := 0x20080200, rws := 0x3FFFFFFF, cfg := 0x3FFFFFFF },
    { off := 0x180, stride := 0x4, count := 8 },
    { off := 0x1C0, rw := 0x7 },
    { off := 0x1C4 },
    { off := 0x1C8 },
    { off := 0x200, stride := 0x4, count := 16 },
    { off := 0x240 } ]

/-- Registers of the PLZ_SLICE page . -/
def rowsPlzSlice : List RegRow :=
  [ { off := 0x40 },
    { off := 0x44 },
    { off := 0x48 } ]

/-- Registers of the ARCADE page . -/
def rowsArcade : List RegRow :=
  [ { off := 0x40, reset := 0xFF04, rws := 0xFFFF, cfg := 0xFFFF },
    { off := 0x44, rws := 0xFFFFFFFF },
    { off := 0x48, rws := 0xFFFFFFFF },
    { off := 0x4C, rws := 0xFF },
    { off := 0x50, rws := 0xFFFFFFFF, secure := true },
    { off := 0x54, rws := 0xFFFFFFFF, secure := true },
    { off := 0x58, rws := 0xFF, secure := true },
    { off := 0x5C },
    { off := 0x80, stride := 0x10, count := 8 },
    { off := 0x84, stride := 0x10, count := 8 },
    { off := 0x88, stride := 0x10, count := 8 } ]

/-- Registers of the AVE page . -/
def rowsAve : List RegRow :=
  [ { off := 0x40, reset := 0x3, rws := 0x7, cfg := 0x3 },
    { off := 0x44, reset := 0xF0F, rws := 0x3F, cfg := 0x3F },
    { off := 0x48, reset := 0x20 },
    { off := 0x4C, rws := 0x3, cfg := 0x3 },
    { off := 0x50, rws := 0xFFFFFFFF, cfg := 0xFFFFFFFF },
    { off := 0x54 },
    { off := 0x58 },
    { off := 0x5C },
    { off := 0x60 },
    { off := 0x64 },
    { off := 0x68 },
    { off := 0x6C },
    { off := 0x70 },
    { off := 0x74 },
    { off := 0x78 },
    { off := 0x7C },
    { off := 0x80, reset := 0x2, rws := 0x1F, cfg := 0x1F },
    { off := 0x84 },
    { off := 0x88 } ]

/-- Registers of the AGE page . -/
def rowsAge : List RegRow :=
  [ { off := 0x40 },
    { off := 0x44, rws := 0x3FFFFFFF, cfg := 0x3FFFFFFF },
    { off := 0x48, reset := 0x3FFBFC00, rws := 0x3FFFFFFF, cfg := 0x3FFFFFFF },
    { off := 0x4C, rws := 0x3FFFFFFF, cfg := 0x3FFFFFFF },
    { off := 0x50, reset := 0x3FF00000, rws := 0x3FFFFFFF, cfg := 0x3FFFFFFF },
    { off := 0x58 },
    { off := 0x5C },
    { off := 0x60 },
    { off := 0x64 },
    { off := 0x68 },
    { off := 0x6C },
    { off := 0x70, rw := 0x3F },
    { off := 0x74 },
    { off := 0x78 },
    { off := 0x7C },
    { off := 0x80 },
    { off := 0x84 },
    { off := 0x88 },
    { off := 0x8C },
    { off := 0x90 },
    { off := 0x94 },
    { off := 0x98 },
    { off := 0x800, stride := 0x20, count := 64, rws := 0xFFFF003F, cfg := 0xFFFF003F },
    { off := 0x804, stride := 0x20, count := 64, rws := 0xFFFFFFFF, cfg := 0xFFFFFFFF },
    { off := 0x808, stride := 0x20, count := 64, rws := 0xFFFFFFFF, cfg := 0xFFFFFFFF },
    { off := 0x80C, stride := 0x20, count := 64, reset := 0xF4240, rws := 0x3FFFFFF, cfg := 0x3FFFFFF },
    { off := 0x810, stride := 0x20, count := 64, rws := 0xFFFFFFFF, cfg := 0xFFFFFFFF },
    { off := 0x814, stride := 0x20, count := 64, rws := 0xFFFFFFFF, cfg := 0xFFFFFFFF },
    { off := 0x818, stride := 0x20, count := 64 },
    { off := 0x81C, stride := 0x20, count := 64 } ]

/-- Registers of the TIME page . -/
def rowsTime : List RegRow :=
  [ { off := 0x40 },
    { off := 0x44 },
    { off := 0x48 },
    { off := 0x4C },
    { off := 0x50 },
    { off := 0x54, rw := 0xFFFFFFFF, secure := true },
    { off := 0x58, rw := 0xFFFFFFFF, secure := true },
    { off := 0x5C, secure := true },
    { off := 0x60, rw := 0xFFFF0007, cfg := 0xFFFF0003 },
    { off := 0x64 },
    { off := 0x68, rw := 0x3F } ]

/-- Registers of the CHN page . -/
def rowsChn : List RegRow :=
  [ { off := 0x40, reset := 0xC800 },
    { off := 0x44 },
    { off := 0x48 },
    { off := 0x4C, reset := 0x3, rw := 0x3 },
    { off := 0x50 },
    { off := 0x54 },
    { off := 0x58, rw := 0xFFFFFFFF, cfg := 0xFFFFFFFF },
    { off := 0x5C, reset := 0x10000 },
    { off := 0x60, reset := 0x1, rws := 0x3, cfg := 0x3 },
    { off := 0x64, reset := 0xFE502AB, rws := 0xFFFFFFFF, cfg := 0xFFFFFFFF },
    { off := 0x68 },
    { off := 0x6C },
    { off := 0x70 },
    { off := 0x74 },
    { off := 0x78 },
    { off := 0x7C, reset := 0x302EE0, rws := 0xF1FFFF, cfg := 0xF1FFFF },
    { off := 0x80, stride := 0x4, count := 8, rws := 0x7F, cfg := 0x7F },
    { off := 0xA0, rw := 0x3F1FFF },
    { off := 0xA4 },
    { off := 0xA8, rw := 0x3F },
    { off := 0xAC },
    { off := 0xB0 },
    { off := 0xB4 },
    { off := 0xB8 },
    { off := 0xBC },
    { off := 0xC0 },
    { off := 0xC4 },
    { off := 0x100, rw := 0x1F13FF },
    { off := 0x180, rw := 0x1F13FF, secure := true },
    { off := 0x104, rw := 0xFFFFFFFF },
    { off := 0x184, rw := 0xFFFFFFFF, secure := true },
    { off := 0x108 },
    { off := 0x188, secure := true },
    { off := 0x140, stride := 0x4, count := 16, rw := 0xFFFFFFFF },
    { off := 0x1C0, stride := 0x4, count := 16, rw := 0xFFFFFFFF, secure := true } ]

/-- Registers of the DPL page . -/
def rowsDpl : List RegRow :=
  [ { off := 0x40, reset := 0x4, rws := 0xF, cfg := 0x7 },
    { off := 0x44, reset := 0x1B, rws := 0x1F, cfg := 0x1F },
    { off := 0x48, reset := 0xE4, rws := 0xFFF, cfg := 0xFFF },
    { off := 0x4C },
    { off := 0x50, stride := 0x4, count := 4 },
    { off := 0x60, rw := 0x1F7FFFFF },
    { off := 0x64 },
    { off := 0x68, stride := 0x4, count := 4, rw := 0xFFFFFFFF },
    { off := 0x78 },
    { off := 0x7C, reset := 0xA3232C8, rws := 0xFFFFFFFF, cfg := 0xFFFFFFFF },
    { off := 0x80, reset := 0xC350C350, rws := 0xFFFFFFFF, cfg := 0xFFFFFFFF },
    { off := 0x84, reset := 0x1F4, rws := 0xFFFF, cfg := 0xFFFF },
    { off := 0x88 } ]

/-- Registers of the PCI page . -/
def rowsPci : List RegRow :=
  [ { off := 0x40 },
    { off := 0x400, stride := 0x4, count := 256, rw := 0x87FF } ]

/-- Registers of the INST page . -/
def rowsInst : List RegRow :=
  [ { off := 0x40, rw := 0xFFF },
    { off := 0x44, rw := 0xFFFFFFFF },
    { off := 0x48, rw := 0xFFFFFFFF },
    { off := 0x4C },
    { off := 0x50 },
    { off := 0x54 },
    { off := 0x58, cfg := 0x3FFFF, secure := true },
    { off := 0x60, stride := 0x4, count := 8 } ]

/-- Registers of the DMA page . -/
def rowsDma : List RegRow :=
  [ { off := 0x40, stride := 0x4, count := 4 },
    { off := 0x50, rw := 0xFFFFFFFF },
    { off := 0x54, rw := 0xFFFFFFFF },
    { off := 0x58, rw := 0xFFFFFFFF },
    { off := 0x5C, rw := 0xFFFFFFFF },
    { off := 0x60, rw := 0xFFFFFFFF },
    { off := 0x64, rw := 0xFF03 },
    { off := 0x68 } ]

/-- Registers of the SEC page . -/
def rowsSec : List RegRow :=
  [ { off := 0x40, rw := 0xFFFFFFFF },
    { off := 0x44, rw := 0xFFFFFFFF },
    { off := 0x48, rw := 0xFFFFFFFF },
    { off := 0x4C, rw := 0xFFFFFFFF },
    { off := 0x50, reset := 0x1000000, rw := 0xFFFF000E },
    { off := 0x54 },
    { off := 0x58, rw := 0x3FF },
    { off := 0x5C, rw := 0xFFFFFFFF },
    { off := 0x60, rw := 0xFFFFFFFF },
    { off := 0x64, rw := 0x1FFFFF },
    { off := 0x68 },
    { off := 0x70, rw := 0x3FFFF },
    { off := 0x74 },
    { off := 0x78, rw := 0xFFFFFFFF, cfg := 0xFFFFFFFF },
    { off := 0x7C, rw := 0xFFFFFFFF, cfg := 0xFFFFFFFF },
    { off := 0x80, rw := 0xFFFFFFFF, cfg := 0xFFFFFFFF },
    { off := 0x84, rw := 0xFFFFFFFF, cfg := 0xFFFFFFFF },
    { off := 0x88 },
    { off := 0x8C },
    { off := 0xA0, stride := 0x10, count := 2, rw := 0xFFFFFFFF },
    { off := 0xA4, stride := 0x10, count := 2, rw := 0xFFFFFFFF },
    { off := 0xA8, stride := 0x10, count := 2, rw := 0x7 },
    { off := 0xAC, stride := 0x10, count := 2 } ]

/-- Registers of the WMARK page . -/
def rowsWmark : List RegRow :=
  [ { off := 0x40, reset := 0x40, cfg := 0x7FFF },
    { off := 0x44, reset := 0x100, cfg := 0x1FFF },
    { off := 0x48, reset := 0x8, cfg := 0x7F },
    { off := 0x4C },
    { off := 0x50 },
    { off := 0x54 },
    { off := 0x58, w1c := 0x80000000 } ]

/-- Registers of the DEBUG page . -/
def rowsDebug : List RegRow :=
  [ { off := 0x40, rwl := 0xF },
    { off := 0x44 },
    { off := 0x48 },
    { off := 0x4C } ]

/-- Registers of the PERF page . -/
def rowsPerf : List RegRow :=
  [ { off := 0x40, rw := 0x3 },
    { off := 0x80, stride := 0x4, count := 32, rw := 0x1FFFF },
    { off := 0x100, stride := 0x8, count := 32 },
    { off := 0x104, stride := 0x8, count := 32 } ]

/-- Registers of the MEM page . -/
def rowsMem : List RegRow :=
  [ { off := 0x40 },
    { off := 0x44, rw := 0x7, cfg := 0x3 },
    { off := 0x48 },
    { off := 0x4C, reset := 0x555, rw := 0xFFF, cfg := 0xFFF },
    { off := 0x50 },
    { off := 0x54 },
    { off := 0x58, reset := 0x64, rw := 0xFF, cfg := 0xFF },
    { off := 0x5C, reset := 0xD500, rw := 0xFF03, cfg := 0xFF00 },
    { off := 0x60, reset := 0xFF, rw := 0xFF, cfg := 0xFF },
    { off := 0x64 },
    { off := 0x68 },
    { off := 0x6C },
    { off := 0x70 },
    { off := 0x74 },
    { off := 0x78 } ]

/-- Registers of the SWEEP page . -/
def rowsSweep : List RegRow :=
  [ { off := 0x40, reset := 0x5A00001, rw := 0xFFFF0001, cfg := 0xFFFF0001 },
    { off := 0x44 },
    { off := 0x48 },
    { off := 0x4C },
    { off := 0x50 },
    { off := 0x54 },
    { off := 0x58 },
    { off := 0x5C },
    { off := 0x60 },
    { off := 0x64, rw := 0x3F },
    { off := 0x68 },
    { off := 0x6C },
    { off := 0x70 },
    { off := 0x74 },
    { off := 0x78 },
    { off := 0x80, rw := 0xFFFFFFFF },
    { off := 0x84, rw := 0xFFFFFFFF },
    { off := 0x88, rw := 0xFFFFFFFF },
    { off := 0x8C, rw := 0xFFFFFFFF },
    { off := 0x90, rw := 0xFF },
    { off := 0x94 },
    { off := 0x98 },
    { off := 0x9C },
    { off := 0xA0 },
    { off := 0xA4 },
    { off := 0xA8 },
    { off := 0xAC },
    { off := 0xB0 },
    { off := 0xB4 } ]

/-- Registers of the TCH page . -/
def rowsTch : List RegRow :=
  [ { off := 0x40, reset := 0x180388, rws := 0x7F03FF, cfg := 0x7F03FF },
    { off := 0x44 },
    { off := 0x48, reset := 0x8B755364, rws := 0xFFFFFFFF, cfg := 0xFFFFFFFF },
    { off := 0x4C, reset := 0x180030, rws := 0xFFF0FFF, cfg := 0xFFF0FFF },
    { off := 0x50 },
    { off := 0x54, reset := 0xFF000400, rws := 0xFFFFFFFF, cfg := 0xFFFFFFFF },
    { off := 0x58 },
    { off := 0x5C },
    { off := 0x60, rws := 0xFFFFFFFF, cfg := 0xFFFFFFFF },
    { off := 0x64, rws := 0xFFFFFFFF, cfg := 0xFFFFFFFF },
    { off := 0x68 },
    { off := 0x6C },
    { off := 0x70 },
    { off := 0x74, rw := 0x1F011F },
    { off := 0x78 },
    { off := 0x7C },
    { off := 0x80, stride := 0x4, count := 8 },
    { off := 0xA0, reset := 0x200008, rws := 0xFFFF00FF, cfg := 0xFFFF00FF },
    { off := 0xA4, rws := 0xFFFF, cfg := 0xFFFF },
    { off := 0xA8, rw := 0x1 },
    { off := 0xAC },
    { off := 0xB0 },
    { off := 0x100, stride := 0x10, count := 40, reset := 0x4220000, rws := 0xFFFF1F73, cfg := 0xFFFF1F73 },
    { off := 0x104, stride := 0x10, count := 40, rws := 0x1F1F1F1F, cfg := 0x1F1F1F1F },
    { off := 0x108, stride := 0x10, count := 40, rws := 0x1F1F1F1F, cfg := 0x1F1F1F1F },
    { off := 0x10C, stride := 0x10, count := 40, reset := 0x500078, rws := 0xFFFFFFFF, cfg := 0xFFFFFFFF },
    { off := 0x400, stride := 0x4, count := 40 } ]

/-- Registers of the HAP page . -/
def rowsHap : List RegRow :=
  [ { off := 0x40 },
    { off := 0x80, stride := 0x20, count := 4, reset := 0x11940BB8, rws := 0x1FFF1FFF, cfg := 0x1FFF1FFF },
    { off := 0x84, stride := 0x20, count := 4, reset := 0x27100028, rws := 0xFFFF003F, cfg := 0xFFFF003F },
    { off := 0x88, stride := 0x20, count := 4, reset := 0x3207D0, rws := 0x7FFFFF, cfg := 0x7FFFFF },
    { off := 0x8C, stride := 0x20, count := 4, reset := 0x8, rw := 0x1F000000, rws := 0x1F0F, cfg := 0x1F0F },
    { off := 0x90, stride := 0x20, count := 4 },
    { off := 0x94, stride := 0x20, count := 4 },
    { off := 0x98, stride := 0x20, count := 4 },
    { off := 0x200, stride := 0x10, count := 32, rws := 0x3F1FFF, cfg := 0x3F1FFF },
    { off := 0x208, stride := 0x10, count := 32, rws := 0x3F1FFF, cfg := 0x3F1FFF },
    { off := 0x204, stride := 0x10, count := 32, rws := 0xFFFF1FFF, cfg := 0xFFFF1FFF } ]

/-- Registers of the AUD page . -/
def rowsAud : List RegRow :=
  [ { off := 0x40, stride := 0x10, count := 2, reset := 0x168, rws := 0xFFF, cfg := 0xFFF },
    { off := 0x44, stride := 0x10, count := 2 },
    { off := 0x48, stride := 0x10, count := 2 },
    { off := 0x100, stride := 0x10, count := 16, rws := 0xFF07, cfg := 0xFF07 },
    { off := 0x104, stride := 0x10, count := 16 },
    { off := 0x108, stride := 0x10, count := 16 },
    { off := 0x10C, stride := 0x10, count := 16 },
    { off := 0x200, stride := 0x10, count := 4, reset := 0xC0308, rws := 0xFFFF0F, cfg := 0xFFFF0F },
    { off := 0x204, stride := 0x10, count := 4, reset := 0x3E8, rws := 0x3FFF, cfg := 0x3FFF },
    { off := 0x208, stride := 0x10, count := 4, reset := 0x1F401F4, rws := 0xFFFFFFFF, cfg := 0xFFFFFFFF },
    { off := 0x300, reset := 0xFA1418, rws := 0xFFFFFFFF, cfg := 0xFFFFFFFF } ]

/-- Registers of the BIST page . -/
def rowsBist : List RegRow :=
  [ { off := 0x40, rw := 0xFFFFF },
    { off := 0x44 },
    { off := 0x48 },
    { off := 0x4C, rw := 0xF },
    { off := 0x50 },
    { off := 0x54 },
    { off := 0x58 },
    { off := 0x5C, rw := 0xFF },
    { off := 0x60 },
    { off := 0x70, reset := 0x100, rw := 0x1F0 },
    { off := 0x74, rw := 0xFFFFFFFF },
    { off := 0x78, rw := 0xFFFFFFFF },
    { off := 0x7C, rw := 0xFFFF },
    { off := 0x80 },
    { off := 0x84 },
    { off := 0x90 },
    { off := 0x94, rw := 0xF },
    { off := 0x98 },
    { off := 0x9C, rw := 0xFFFFFFFF, secure := true },
    { off := 0xA0, rw := 0xFFFFFFFF, secure := true },
    { off := 0xA4, rw := 0xF07, secure := true } ]

/-- Registers of the QSPI page . -/
def rowsQspi : List RegRow :=
  [ { off := 0x40 },
    { off := 0x44 },
    { off := 0x48 },
    { off := 0x4C, reset := 0x1, rwl := 0x1, cfg := 0x1 },
    { off := 0x50, rw := 0x1FF03 },
    { off := 0x54, rw := 0x1FFFFFF },
    { off := 0x58 },
    { off := 0x100, stride := 0x4, count := 64, rw := 0xFFFFFFFF } ]

/-- Registers of the MON page . -/
def rowsMon : List RegRow :=
  [ { off := 0x40, w1c := 0x200 },
    { off := 0x44, reset := 0x591, rw := 0xFFF, cfg := 0xFFF },
    { off := 0x80, stride := 0x4, count := 6 },
    { off := 0x100, stride := 0x4, count := 13 } ]

/-- Registers of the GPIO page . -/
def rowsGpio : List RegRow :=
  [ { off := 0x40, rw := 0xFFFFFFFF },
    { off := 0x44, rw := 0xFFFFFFFF },
    { off := 0x48 },
    { off := 0x4C, rw := 0xFFFFFFFF },
    { off := 0x50, rw := 0xFFFFFFFF },
    { off := 0x54, rw := 0xFFFFFFFF },
    { off := 0x58, rw := 0xFFFFFFFF },
    { off := 0x80, stride := 0x4, count := 4 } ]

/-- The register rows of page `p`, beside its header (R54). -/
def pageRows (p : Nat) : List RegRow :=
  if p = 0 then rowsSys else if p = 1 then rowsTime else if p ≤ 10 then []
  else if p = 11 then rowsPci else if p = 12 then rowsInst else if p = 13 then rowsDma
  else if p ≤ 15 then rowsMem else if p ≤ 17 then rowsSweep else if p < 32 then []
  else if p = 32 then rowsPlaza else if p ≤ 37 then rowsPlzSlice else if p = 38 then rowsArcade
  else if p = 39 then [] else if p ≤ 47 then rowsAve else if p ≤ 55 then rowsAge else if p ≤ 63 then rowsDpl
  else if p = 64 then rowsChn else if p < 72 then [] else if p = 72 then rowsSec else if p = 73 then rowsWmark
  else if p = 74 then rowsDebug else if p = 75 then rowsPerf else if p = 76 then rowsGpio
  else if p ≤ 78 then rowsJrn else if p = 79 then rowsBist else if p < 96 then []
  else if p = 96 then rowsTch else if p = 97 then rowsHap else if p = 98 then rowsAud
  else if p = 99 then rowsQspi else if p = 100 then rowsMon else []

end Sys2Proof.Machine

/-! The named fields, under the manual's own names. -/
namespace Sys2Proof.Machine.R

/-! SYS -/
abbrev SYS_STATE_MODE : Fld := ⟨0x40, 0, 3⟩
abbrev SYS_STATE_CFG_DEFAULTED : Fld := ⟨0x40, 3, 1⟩
abbrev SYS_STATE_CFG_COPY : Fld := ⟨0x40, 4, 2⟩
abbrev SYS_STATE_ADDR_VALID : Fld := ⟨0x40, 6, 1⟩
abbrev SYS_STATE_TRANSITION : Fld := ⟨0x40, 7, 1⟩
abbrev SYS_STATE_CHAIN_ADDR : Fld := ⟨0x40, 8, 10⟩
abbrev SYS_STATE_SEC_READY : Fld := ⟨0x40, 18, 1⟩
abbrev SYS_STATE_D2D_UP : Fld := ⟨0x40, 19, 1⟩
abbrev SYS_STATE_SERVICE_COUNT : Fld := ⟨0x40, 20, 12⟩
abbrev SYS_MODE_REQ_TARGET : Fld := ⟨0x44, 0, 3⟩
abbrev SYS_MODE_REQ_RESULT : Fld := ⟨0x44, 8, 8⟩
abbrev SYS_MODE_REQ_BUSY : Fld := ⟨0x44, 16, 1⟩
abbrev SYS_SEC_CTRL_SEC_READY : Fld := ⟨0x48, 0, 1⟩
abbrev SYS_SEC_CTRL_NW_QUIESCE_OK : Fld := ⟨0x48, 1, 1⟩
abbrev SYS_SEC_CTRL_DEVICE_RESET : Fld := ⟨0x48, 2, 1⟩
abbrev SYS_MODE_TIME_LO_TIME : Fld := ⟨0x50, 0, 32⟩
abbrev SYS_MODE_TIME_HI_TIME : Fld := ⟨0x54, 0, 32⟩
abbrev SYS_D2D_STATUS_LINK_UP : Fld := ⟨0x58, 0, 1⟩
abbrev SYS_D2D_STATUS_REPLAY_COUNT : Fld := ⟨0x58, 16, 16⟩
/-! page header -/
abbrev PAGE_ID_TYPE : Fld := ⟨0x0, 0, 8⟩
abbrev PAGE_ID_INSTANCE : Fld := ⟨0x0, 8, 4⟩
abbrev PAGE_ID_VERSION : Fld := ⟨0x0, 12, 12⟩
abbrev PAGE_ID_INDEX : Fld := ⟨0x0, 24, 8⟩
abbrev PAGE_CAPS_SERVICE : Fld := ⟨0x4, 0, 1⟩
abbrev PAGE_CAPS_TEST : Fld := ⟨0x4, 1, 1⟩
abbrev PAGE_CAPS_SPARE : Fld := ⟨0x4, 2, 1⟩
abbrev PAGE_CAPS_SHADOW : Fld := ⟨0x4, 3, 1⟩
abbrev PAGE_CAPS_SECURE_ONLY : Fld := ⟨0x4, 4, 1⟩
abbrev PAGE_CAPS_ASSIGNABLE : Fld := ⟨0x4, 5, 1⟩
abbrev PAGE_CAPS_BLOCK : Fld := ⟨0x4, 8, 24⟩
abbrev PAGE_CTRL_ENABLE : Fld := ⟨0x8, 0, 1⟩
abbrev PAGE_CTRL_SERVICE_REQ : Fld := ⟨0x8, 1, 1⟩
abbrev PAGE_CTRL_TEST_REQ : Fld := ⟨0x8, 2, 1⟩
abbrev PAGE_CTRL_SOFT_RESET : Fld := ⟨0x8, 3, 1⟩
abbrev PAGE_CTRL_CLR_COUNTS : Fld := ⟨0x8, 4, 1⟩
abbrev PAGE_STATE_STATE : Fld := ⟨0xC, 0, 3⟩
abbrev PAGE_STATE_REASON : Fld := ⟨0xC, 8, 8⟩
abbrev EVT_RAW_RAW : Fld := ⟨0x10, 0, 32⟩
abbrev EVT_STATUS_STATUS : Fld := ⟨0x14, 0, 32⟩
abbrev EVT_ENABLE_ENABLE : Fld := ⟨0x18, 0, 32⟩
abbrev EVT_MISS_COUNT : Fld := ⟨0x1C, 0, 24⟩
abbrev EVT_MISS_LAST_BIT : Fld := ⟨0x1C, 24, 5⟩
abbrev ERR_CAPTURE_CODE : Fld := ⟨0x20, 0, 8⟩
abbrev ERR_CAPTURE_DETAIL : Fld := ⟨0x20, 8, 16⟩
abbrev ERR_CAPTURE_VALID : Fld := ⟨0x20, 31, 1⟩
abbrev ERR_COUNT_ERRORS : Fld := ⟨0x24, 0, 16⟩
abbrev ERR_COUNT_TRANSIENT : Fld := ⟨0x24, 16, 16⟩
abbrev LAST_EVT_TIME_LO_TIME : Fld := ⟨0x28, 0, 32⟩
abbrev LAST_EVT_TIME_HI_TIME : Fld := ⟨0x2C, 0, 32⟩
abbrev COMMIT_GO : Fld := ⟨0x30, 0, 1⟩
abbrev COMMIT_ABORT : Fld := ⟨0x30, 1, 1⟩
abbrev COMMIT_STATUS_STATE : Fld := ⟨0x34, 0, 2⟩
abbrev COMMIT_STATUS_RESULT : Fld := ⟨0x34, 8, 8⟩
abbrev OWNER_WORLD : Fld := ⟨0x38, 0, 1⟩
abbrev OWNER_INSTANCE : Fld := ⟨0x38, 8, 8⟩
abbrev OWNER_INST_VALID : Fld := ⟨0x38, 16, 1⟩
abbrev OWNER_HANDOVER : Fld := ⟨0x38, 17, 2⟩
abbrev LOCK_LOCKED : Fld := ⟨0x3C, 0, 1⟩
/-! JRN -/
abbrev JRN_BASE_LO_BASE : Fld := ⟨0x40, 0, 32⟩
abbrev JRN_BASE_HI_BASE : Fld := ⟨0x44, 0, 32⟩
abbrev JRN_CTRL_ENABLE : Fld := ⟨0x48, 0, 1⟩
abbrev JRN_CTRL_SIZE : Fld := ⟨0x48, 1, 4⟩
abbrev JRN_CTRL_THRESH : Fld := ⟨0x48, 16, 16⟩
abbrev JRN_WR_INDEX : Fld := ⟨0x4C, 0, 19⟩
abbrev JRN_RD_INDEX : Fld := ⟨0x50, 0, 19⟩
abbrev JRN_LOST_COUNT : Fld := ⟨0x54, 0, 32⟩
/-! PLAZA -/
abbrev PLZ_CTRL_AUTO_SUBST : Fld := ⟨0x40, 0, 1⟩
abbrev PLZ_STATUS_ACTIVE : Fld := ⟨0x44, 0, 3⟩
abbrev PLZ_STATUS_SPARE_READY : Fld := ⟨0x44, 3, 1⟩
abbrev PLZ_LOAD_LOAD : Fld := ⟨0x48, 0, 16⟩
abbrev PLZ_LOAD_BUDGET : Fld := ⟨0x48, 16, 16⟩
abbrev PLZ_SUBST_SLICE : Fld := ⟨0x4C, 0, 3⟩
abbrev PLZ_SUBST_GO : Fld := ⟨0x4C, 8, 1⟩
abbrev PLZ_SUBST_PENDING : Fld := ⟨0x4C, 9, 1⟩
abbrev PLZ_SUBST_RESULT : Fld := ⟨0x4C, 16, 8⟩
abbrev PLZ_PLANE_SEL_HEAD : Fld := ⟨0x50, 0, 3⟩
abbrev PLZ_PLANE_SEL_PLANE : Fld := ⟨0x50, 8, 4⟩
abbrev PLZ_PLANE_VIEW0_HANDLE : Fld := ⟨0x60, 0, 32⟩
abbrev PLZ_PLANE_VIEW1_ENABLE : Fld := ⟨0x64, 0, 1⟩
abbrev PLZ_PLANE_VIEW1_STATIC : Fld := ⟨0x64, 1, 1⟩
abbrev PLZ_PLANE_VIEW1_ALPHA_MODE : Fld := ⟨0x64, 2, 2⟩
abbrev PLZ_PLANE_VIEW1_KEY_EN : Fld := ⟨0x64, 4, 1⟩
abbrev PLZ_PLANE_VIEW1_FLAT : Fld := ⟨0x64, 5, 1⟩
abbrev PLZ_PLANE_VIEW1_Z : Fld := ⟨0x64, 8, 4⟩
abbrev PLZ_PLANE_VIEW1_CSC : Fld := ⟨0x64, 12, 2⟩
abbrev PLZ_PLANE_VIEW1_GLOBAL_ALPHA : Fld := ⟨0x64, 16, 8⟩
abbrev PLZ_PLANE_VIEW2_DST : Fld := ⟨0x68, 0, 32⟩
abbrev PLZ_PLANE_VIEW3_DST : Fld := ⟨0x6C, 0, 32⟩
abbrev PLZ_PLANE_VIEW4_SRC : Fld := ⟨0x70, 0, 32⟩
abbrev PLZ_PLANE_VIEW5_SRC : Fld := ⟨0x74, 0, 32⟩
abbrev PLZ_PLANE_VIEW6_KEY : Fld := ⟨0x78, 0, 32⟩
abbrev PLZ_PLANE_VIEW7_FRAME : Fld := ⟨0x7C, 0, 32⟩
abbrev PLZ_LEAD_LEAD (i : Nat) : Fld := ⟨0x100 + 0x10 * i, 0, 6⟩
abbrev PLZ_BG_B (i : Nat) : Fld := ⟨0x104 + 0x10 * i, 0, 10⟩
abbrev PLZ_BG_G (i : Nat) : Fld := ⟨0x104 + 0x10 * i, 10, 10⟩
abbrev PLZ_BG_R (i : Nat) : Fld := ⟨0x104 + 0x10 * i, 20, 10⟩
abbrev PLZ_ERR_B (i : Nat) : Fld := ⟨0x108 + 0x10 * i, 0, 10⟩
abbrev PLZ_ERR_G (i : Nat) : Fld := ⟨0x108 + 0x10 * i, 10, 10⟩
abbrev PLZ_ERR_R (i : Nat) : Fld := ⟨0x108 + 0x10 * i, 20, 10⟩
abbrev PLZ_VAC_B (i : Nat) : Fld := ⟨0x10C + 0x10 * i, 0, 10⟩
abbrev PLZ_VAC_G (i : Nat) : Fld := ⟨0x10C + 0x10 * i, 10, 10⟩
abbrev PLZ_VAC_R (i : Nat) : Fld := ⟨0x10C + 0x10 * i, 20, 10⟩
abbrev PLZ_HEAD_LOAD_LOAD (i : Nat) : Fld := ⟨0x180 + 0x4 * i, 0, 16⟩
abbrev PLZ_HEAD_LOAD_LINE_COST (i : Nat) : Fld := ⟨0x180 + 0x4 * i, 16, 16⟩
abbrev PLZ_ACCT_SEL_HEAD : Fld := ⟨0x1C0, 0, 3⟩
abbrev PLZ_ACCT_FRAME_LO_FRAME : Fld := ⟨0x1C4, 0, 32⟩
abbrev PLZ_ACCT_FRAME_HI_FRAME : Fld := ⟨0x1C8, 0, 32⟩
abbrev PLZ_ACCT_PLANE_BLOCKS (i : Nat) : Fld := ⟨0x200 + 0x4 * i, 0, 32⟩
abbrev PLZ_ACCT_LATE_LINES : Fld := ⟨0x240, 0, 16⟩
abbrev PLZ_ACCT_LATE_ERRORS : Fld := ⟨0x240, 16, 16⟩
/-! PLZ_SLICE -/
abbrev SLC_ROLE_ROLE : Fld := ⟨0x40, 0, 2⟩
abbrev SLC_SPANS_SPANS : Fld := ⟨0x44, 0, 32⟩
abbrev SLC_PARITY_ERRORS : Fld := ⟨0x48, 0, 16⟩
/-! ARCADE -/
abbrev ARC_CTRL_STATIC_FRAMES : Fld := ⟨0x40, 0, 8⟩
abbrev ARC_CTRL_HEAD_EN : Fld := ⟨0x40, 8, 8⟩
abbrev ARC_CTRL_FLUSH : Fld := ⟨0x40, 16, 8⟩
abbrev ARC_NS_BASE_LO_BASE : Fld := ⟨0x44, 0, 32⟩
abbrev ARC_NS_BASE_HI_BASE : Fld := ⟨0x48, 0, 32⟩
abbrev ARC_NS_SIZE_SIZE : Fld := ⟨0x4C, 0, 8⟩
abbrev ARC_S_BASE_LO_BASE : Fld := ⟨0x50, 0, 32⟩
abbrev ARC_S_BASE_HI_BASE : Fld := ⟨0x54, 0, 32⟩
abbrev ARC_S_SIZE_SIZE : Fld := ⟨0x58, 0, 8⟩
abbrev ARC_USE_SRAM_TILES : Fld := ⟨0x5C, 0, 11⟩
abbrev ARC_USE_DRAM_TILES : Fld := ⟨0x5C, 15, 16⟩
abbrev ARC_STAT0_SRAM_HITS (i : Nat) : Fld := ⟨0x80 + 0x10 * i, 0, 16⟩
abbrev ARC_STAT0_DRAM_HITS (i : Nat) : Fld := ⟨0x80 + 0x10 * i, 16, 16⟩
abbrev ARC_STAT1_CAPTURES (i : Nat) : Fld := ⟨0x84 + 0x10 * i, 0, 16⟩
abbrev ARC_STAT1_INVALIDATED (i : Nat) : Fld := ⟨0x84 + 0x10 * i, 16, 16⟩
abbrev ARC_STAT2_FRAME (i : Nat) : Fld := ⟨0x88 + 0x10 * i, 0, 32⟩
/-! AVE -/
abbrev AVE_CTRL_HEAD_EN : Fld := ⟨0x40, 0, 1⟩
abbrev AVE_CTRL_BPC : Fld := ⟨0x40, 1, 1⟩
abbrev AVE_CTRL_REALIGN : Fld := ⟨0x40, 2, 1⟩
abbrev AVE_MODE_MODE_ID : Fld := ⟨0x44, 0, 6⟩
abbrev AVE_MODE_ACTIVE_ID : Fld := ⟨0x44, 8, 6⟩
abbrev AVE_STATUS_HEAD_STATE : Fld := ⟨0x48, 0, 3⟩
abbrev AVE_STATUS_LOCKED : Fld := ⟨0x48, 3, 1⟩
abbrev AVE_STATUS_SOURCE : Fld := ⟨0x48, 4, 2⟩
abbrev AVE_STATUS_SLIPPING : Fld := ⟨0x48, 6, 1⟩
abbrev AVE_STATUS_IN_VBLANK : Fld := ⟨0x48, 7, 1⟩
abbrev AVE_STATUS_OUT_LINE : Fld := ⟨0x48, 16, 12⟩
abbrev AVE_SYNC_SRC : Fld := ⟨0x4C, 0, 2⟩
abbrev AVE_SYNC_OFS_PIXEL_OFS : Fld := ⟨0x50, 0, 16⟩
abbrev AVE_SYNC_OFS_LINE_OFS : Fld := ⟨0x50, 16, 16⟩
abbrev AVE_SYNC_STATUS_GL_PRESENT : Fld := ⟨0x54, 0, 1⟩
abbrev AVE_SYNC_STATUS_GL_POL : Fld := ⟨0x54, 1, 1⟩
abbrev AVE_SYNC_STATUS_GL_HALF : Fld := ⟨0x54, 2, 1⟩
abbrev AVE_SYNC_STATUS_CH_PRESENT : Fld := ⟨0x54, 3, 1⟩
abbrev AVE_SYNC_STATUS_CH_HALF : Fld := ⟨0x54, 4, 1⟩
abbrev AVE_SYNC_STATUS_PHASE_ERR : Fld := ⟨0x54, 16, 16⟩
abbrev AVE_SYNC_RATE_GL_PPM : Fld := ⟨0x58, 0, 16⟩
abbrev AVE_SYNC_RATE_CH_PPM : Fld := ⟨0x58, 16, 16⟩
abbrev AVE_PLL_OFFSET : Fld := ⟨0x5C, 0, 32⟩
abbrev AVE_FRAME_COUNT_LO_COUNT : Fld := ⟨0x60, 0, 32⟩
abbrev AVE_FRAME_COUNT_HI_COUNT : Fld := ⟨0x64, 0, 32⟩
abbrev AVE_FLIP_TIME_LO_TIME : Fld := ⟨0x68, 0, 32⟩
abbrev AVE_FLIP_TIME_HI_TIME : Fld := ⟨0x6C, 0, 32⟩
abbrev AVE_FLIP_FRAME_LO_FRAME : Fld := ⟨0x70, 0, 32⟩
abbrev AVE_FLIP_FRAME_HI_FRAME : Fld := ⟨0x74, 0, 32⟩
abbrev AVE_FRAME_TIME_LO_TIME : Fld := ⟨0x78, 0, 32⟩
abbrev AVE_FRAME_TIME_HI_TIME : Fld := ⟨0x7C, 0, 32⟩
abbrev AVE_LBUF_URGENT : Fld := ⟨0x80, 0, 5⟩
abbrev AVE_LBUF_STAT_MIN_AHEAD : Fld := ⟨0x84, 0, 6⟩
abbrev AVE_LBUF_STAT_URGENT_LINES : Fld := ⟨0x84, 16, 16⟩
abbrev AVE_LOCK_STAT_LOCK_MS : Fld := ⟨0x88, 0, 16⟩
abbrev AVE_LOCK_STAT_LOCK_LOSSES : Fld := ⟨0x88, 16, 16⟩
/-! AGE -/
abbrev AGE_STATUS_BLANKED : Fld := ⟨0x40, 0, 1⟩
abbrev AGE_STATUS_ARMED : Fld := ⟨0x40, 1, 1⟩
abbrev AGE_STATUS_STALE_NOW : Fld := ⟨0x40, 8, 7⟩
abbrev AGE_STATUS_LATCHED_NOW : Fld := ⟨0x40, 16, 7⟩
abbrev AGE_HATCH_A_B : Fld := ⟨0x44, 0, 10⟩
abbrev AGE_HATCH_A_G : Fld := ⟨0x44, 10, 10⟩
abbrev AGE_HATCH_A_R : Fld := ⟨0x44, 20, 10⟩
abbrev AGE_HATCH_B_B : Fld := ⟨0x48, 0, 10⟩
abbrev AGE_HATCH_B_G : Fld := ⟨0x48, 10, 10⟩
abbrev AGE_HATCH_B_R : Fld := ⟨0x48, 20, 10⟩
abbrev AGE_ALARM_A_B : Fld := ⟨0x4C, 0, 10⟩
abbrev AGE_ALARM_A_G : Fld := ⟨0x4C, 10, 10⟩
abbrev AGE_ALARM_A_R : Fld := ⟨0x4C, 20, 10⟩
abbrev AGE_ALARM_B_B : Fld := ⟨0x50, 0, 10⟩
abbrev AGE_ALARM_B_G : Fld := ⟨0x50, 10, 10⟩
abbrev AGE_ALARM_B_R : Fld := ⟨0x50, 20, 10⟩
abbrev AGE_STALE_MAP_LO_MAP : Fld := ⟨0x58, 0, 32⟩
abbrev AGE_STALE_MAP_HI_MAP : Fld := ⟨0x5C, 0, 32⟩
abbrev AGE_LATCH_MAP_LO_MAP : Fld := ⟨0x60, 0, 32⟩
abbrev AGE_LATCH_MAP_HI_MAP : Fld := ⟨0x64, 0, 32⟩
abbrev AGE_RELEASE_LO_RELEASE : Fld := ⟨0x68, 0, 32⟩
abbrev AGE_RELEASE_HI_RELEASE : Fld := ⟨0x6C, 0, 32⟩
abbrev AGE_SEL_REGION : Fld := ⟨0x70, 0, 6⟩
abbrev AGE_VIEW_FRAME_LO_FRAME : Fld := ⟨0x74, 0, 32⟩
abbrev AGE_VIEW_FRAME_HI_FRAME : Fld := ⟨0x78, 0, 32⟩
abbrev AGE_VIEW_CT_LO_CT : Fld := ⟨0x7C, 0, 32⟩
abbrev AGE_VIEW_CT_HI_CT : Fld := ⟨0x80, 0, 32⟩
abbrev AGE_VIEW_GLASS_LO_GLASS : Fld := ⟨0x84, 0, 32⟩
abbrev AGE_VIEW_GLASS_HI_GLASS : Fld := ⟨0x88, 0, 32⟩
abbrev AGE_VIEW_AGE_AGE_US : Fld := ⟨0x8C, 0, 32⟩
abbrev AGE_VIEW_STATE_STALE : Fld := ⟨0x90, 0, 1⟩
abbrev AGE_VIEW_STATE_NO_CONTENT : Fld := ⟨0x90, 1, 1⟩
abbrev AGE_VIEW_STATE_OUT_OF_AREA : Fld := ⟨0x90, 2, 1⟩
abbrev AGE_VIEW_STATE_SIG_STATE : Fld := ⟨0x90, 4, 2⟩
abbrev AGE_VIEW_STATE_MATCH : Fld := ⟨0x90, 6, 1⟩
abbrev AGE_VIEW_STATE_SUBSTITUTED : Fld := ⟨0x90, 7, 1⟩
abbrev AGE_VIEW_STATE_OLDEST_PLANE : Fld := ⟨0x90, 8, 4⟩
abbrev AGE_VIEW_STATE_OLDEST_INST : Fld := ⟨0x90, 16, 8⟩
abbrev AGE_VIEW_STATE_OLDEST_VALID : Fld := ⟨0x90, 24, 1⟩
abbrev AGE_VIEW_STALE_FRAMES_FRAMES : Fld := ⟨0x94, 0, 32⟩
abbrev AGE_VIEW_SIG_COUNTS_TRANSIENT : Fld := ⟨0x98, 0, 16⟩
abbrev AGE_VIEW_SIG_COUNTS_LASTING : Fld := ⟨0x98, 16, 16⟩
abbrev RGN_CTRL_ENABLE (i : Nat) : Fld := ⟨0x800 + 0x20 * i, 0, 1⟩
abbrev RGN_CTRL_AGE_EN (i : Nat) : Fld := ⟨0x800 + 0x20 * i, 1, 1⟩
abbrev RGN_CTRL_COMPARE_EN (i : Nat) : Fld := ⟨0x800 + 0x20 * i, 2, 1⟩
abbrev RGN_CTRL_EXPECT_B_EN (i : Nat) : Fld := ⟨0x800 + 0x20 * i, 3, 1⟩
abbrev RGN_CTRL_ACTION (i : Nat) : Fld := ⟨0x800 + 0x20 * i, 4, 2⟩
abbrev RGN_CTRL_PLANE_MASK (i : Nat) : Fld := ⟨0x800 + 0x20 * i, 16, 16⟩
abbrev RGN_TL_X0 (i : Nat) : Fld := ⟨0x804 + 0x20 * i, 0, 16⟩
abbrev RGN_TL_Y0 (i : Nat) : Fld := ⟨0x804 + 0x20 * i, 16, 16⟩
abbrev RGN_BR_X1 (i : Nat) : Fld := ⟨0x808 + 0x20 * i, 0, 16⟩
abbrev RGN_BR_Y1 (i : Nat) : Fld := ⟨0x808 + 0x20 * i, 16, 16⟩
abbrev RGN_MAX_AGE_MAX_AGE_US (i : Nat) : Fld := ⟨0x80C + 0x20 * i, 0, 26⟩
abbrev RGN_EXPECT_A_EXPECT (i : Nat) : Fld := ⟨0x810 + 0x20 * i, 0, 32⟩
abbrev RGN_EXPECT_B_EXPECT (i : Nat) : Fld := ⟨0x814 + 0x20 * i, 0, 32⟩
abbrev RGN_SIG_SIG (i : Nat) : Fld := ⟨0x818 + 0x20 * i, 0, 32⟩
abbrev RGN_FRAME_FRAME (i : Nat) : Fld := ⟨0x81C + 0x20 * i, 0, 32⟩
/-! TIME -/
abbrev TIME_STATUS_STATE : Fld := ⟨0x40, 0, 3⟩
abbrev TIME_STATUS_PPS_PRESENT : Fld := ⟨0x40, 3, 1⟩
abbrev TIME_NOW_LO_TIME : Fld := ⟨0x44, 0, 32⟩
abbrev TIME_NOW_HI_TIME : Fld := ⟨0x48, 0, 32⟩
abbrev TIME_OFFSET_OFFSET : Fld := ⟨0x4C, 0, 32⟩
abbrev TIME_FREQ_FREQ : Fld := ⟨0x50, 0, 32⟩
abbrev TIME_SET_LO_VALUE : Fld := ⟨0x54, 0, 32⟩
abbrev TIME_SET_HI_VALUE : Fld := ⟨0x58, 0, 32⟩
abbrev TIME_SET_CTRL_GO : Fld := ⟨0x5C, 0, 1⟩
abbrev TIME_SET_CTRL_RESULT : Fld := ⟨0x5C, 8, 8⟩
abbrev TIME_PPS_CTRL_EN : Fld := ⟨0x60, 0, 1⟩
abbrev TIME_PPS_CTRL_POL : Fld := ⟨0x60, 1, 1⟩
abbrev TIME_PPS_CTRL_STEP_EN : Fld := ⟨0x60, 2, 1⟩
abbrev TIME_PPS_CTRL_DELAY_NS : Fld := ⟨0x60, 16, 16⟩
abbrev TIME_PPS_ERR_ERR : Fld := ⟨0x64, 0, 32⟩
abbrev TIME_MARK_OUT_EN : Fld := ⟨0x68, 0, 1⟩
abbrev TIME_MARK_OUT_PIN : Fld := ⟨0x68, 1, 5⟩
/-! CHN -/
abbrev CHN_STATUS_ADDR : Fld := ⟨0x40, 0, 10⟩
abbrev CHN_STATUS_ADDR_VALID : Fld := ⟨0x40, 10, 1⟩
abbrev CHN_STATUS_MASTER : Fld := ⟨0x40, 11, 1⟩
abbrev CHN_STATUS_TOPOLOGY : Fld := ⟨0x40, 12, 2⟩
abbrev CHN_STATUS_UP_PORT : Fld := ⟨0x40, 14, 2⟩
abbrev CHN_STATUS_HOPS : Fld := ⟨0x40, 16, 10⟩
abbrev CHN_PORT_STATUS_A_STATE : Fld := ⟨0x44, 0, 3⟩
abbrev CHN_PORT_STATUS_A_ROLE : Fld := ⟨0x44, 3, 2⟩
abbrev CHN_PORT_STATUS_A_RX_INVERTED : Fld := ⟨0x44, 5, 1⟩
abbrev CHN_PORT_STATUS_A_FAULT : Fld := ⟨0x44, 6, 2⟩
abbrev CHN_PORT_STATUS_A_PEER_ADDR : Fld := ⟨0x44, 8, 10⟩
abbrev CHN_PORT_STATUS_A_PEER_VALID : Fld := ⟨0x44, 18, 1⟩
abbrev CHN_PORT_STATUS_A_HELD_SELF : Fld := ⟨0x44, 19, 1⟩
abbrev CHN_PORT_STATUS_B_STATE : Fld := ⟨0x48, 0, 3⟩
abbrev CHN_PORT_STATUS_B_ROLE : Fld := ⟨0x48, 3, 2⟩
abbrev CHN_PORT_STATUS_B_RX_INVERTED : Fld := ⟨0x48, 5, 1⟩
abbrev CHN_PORT_STATUS_B_FAULT : Fld := ⟨0x48, 6, 2⟩
abbrev CHN_PORT_STATUS_B_PEER_ADDR : Fld := ⟨0x48, 8, 10⟩
abbrev CHN_PORT_STATUS_B_PEER_VALID : Fld := ⟨0x48, 18, 1⟩
abbrev CHN_PORT_STATUS_B_HELD_SELF : Fld := ⟨0x48, 19, 1⟩
abbrev CHN_PORT_CTRL_A_EN : Fld := ⟨0x4C, 0, 1⟩
abbrev CHN_PORT_CTRL_B_EN : Fld := ⟨0x4C, 1, 1⟩
abbrev CHN_PORT_CTRL_A_RETRAIN : Fld := ⟨0x4C, 2, 1⟩
abbrev CHN_PORT_CTRL_B_RETRAIN : Fld := ⟨0x4C, 3, 1⟩
abbrev CHN_DELAY_A_DELAY : Fld := ⟨0x50, 0, 20⟩
abbrev CHN_DELAY_B_DELAY : Fld := ⟨0x54, 0, 20⟩
abbrev CHN_ASYM_ASYM_A : Fld := ⟨0x58, 0, 16⟩
abbrev CHN_ASYM_ASYM_B : Fld := ⟨0x58, 16, 16⟩
abbrev CHN_COUNT_UNITS : Fld := ⟨0x5C, 0, 11⟩
abbrev CHN_COUNT_NEXT_ADDR : Fld := ⟨0x5C, 16, 11⟩
abbrev CHN_MARK_CTRL_MARK_EN : Fld := ⟨0x60, 0, 1⟩
abbrev CHN_MARK_CTRL_SRC : Fld := ⟨0x60, 1, 1⟩
abbrev CHN_MARK_PERIOD_PERIOD : Fld := ⟨0x64, 0, 32⟩
abbrev CHN_MARK_SEQ_LO_SEQ : Fld := ⟨0x68, 0, 32⟩
abbrev CHN_MARK_SEQ_HI_SEQ : Fld := ⟨0x6C, 0, 32⟩
abbrev CHN_MARK_TIME_LO_TIME : Fld := ⟨0x70, 0, 32⟩
abbrev CHN_MARK_TIME_HI_TIME : Fld := ⟨0x74, 0, 32⟩
abbrev CHN_MARK_STAT_LATE : Fld := ⟨0x78, 0, 16⟩
abbrev CHN_MARK_STAT_GAPS : Fld := ⟨0x78, 16, 16⟩
abbrev CHN_WALL_CFG_VOTE_US : Fld := ⟨0x7C, 0, 17⟩
abbrev CHN_WALL_CFG_DEFER_LIMIT : Fld := ⟨0x7C, 20, 4⟩
abbrev CHN_HEAD_GROUP_GROUP (i : Nat) : Fld := ⟨0x80 + 0x4 * i, 0, 6⟩
abbrev CHN_HEAD_GROUP_MEMBER (i : Nat) : Fld := ⟨0x80 + 0x4 * i, 6, 1⟩
abbrev CHN_HEAD_GROUP_EXCLUDED (i : Nat) : Fld := ⟨0x80 + 0x4 * i, 8, 1⟩
abbrev CHN_HEAD_GROUP_READY (i : Nat) : Fld := ⟨0x80 + 0x4 * i, 9, 1⟩
abbrev CHN_HEAD_GROUP_PRESENT (i : Nat) : Fld := ⟨0x80 + 0x4 * i, 10, 1⟩
abbrev CHN_WALL_CMD_MEMBER : Fld := ⟨0xA0, 0, 13⟩
abbrev CHN_WALL_CMD_GROUP : Fld := ⟨0xA0, 16, 6⟩
abbrev CHN_WALL_CMD_READMIT : Fld := ⟨0xA0, 24, 1⟩
abbrev CHN_WALL_RESULT_RESULT : Fld := ⟨0xA4, 0, 8⟩
abbrev CHN_WALL_SEL_GROUP : Fld := ⟨0xA8, 0, 6⟩
abbrev CHN_WALL_VIEW0_MEMBERS : Fld := ⟨0xAC, 0, 14⟩
abbrev CHN_WALL_VIEW0_EXCLUDED : Fld := ⟨0xAC, 16, 14⟩
abbrev CHN_WALL_VIEW1_READY : Fld := ⟨0xB0, 0, 14⟩
abbrev CHN_WALL_VIEW1_DEFERS : Fld := ⟨0xB0, 16, 8⟩
abbrev CHN_WALL_ROUND_LO_ROUND : Fld := ⟨0xB4, 0, 32⟩
abbrev CHN_WALL_ROUND_HI_ROUND : Fld := ⟨0xB8, 0, 32⟩
abbrev CHN_WALL_TAG_TAG : Fld := ⟨0xBC, 0, 32⟩
abbrev CHN_CRC_A_TRANSIENT : Fld := ⟨0xC0, 0, 16⟩
abbrev CHN_CRC_A_LASTING : Fld := ⟨0xC0, 16, 16⟩
abbrev CHN_CRC_B_TRANSIENT : Fld := ⟨0xC4, 0, 16⟩
abbrev CHN_CRC_B_LASTING : Fld := ⟨0xC4, 16, 16⟩
abbrev MB_CMD_DST : Fld := ⟨0x100, 0, 10⟩
abbrev MB_CMD_WRITE : Fld := ⟨0x100, 12, 1⟩
abbrev MB_CMD_COUNT : Fld := ⟨0x100, 16, 5⟩
abbrev MB_CMD_GO : Fld := ⟨0x100, 31, 1⟩
abbrev MBS_CMD_DST : Fld := ⟨0x180, 0, 10⟩
abbrev MBS_CMD_WRITE : Fld := ⟨0x180, 12, 1⟩
abbrev MBS_CMD_COUNT : Fld := ⟨0x180, 16, 5⟩
abbrev MBS_CMD_GO : Fld := ⟨0x180, 31, 1⟩
abbrev MB_OFFSET_OFFSET : Fld := ⟨0x104, 0, 32⟩
abbrev MBS_OFFSET_OFFSET : Fld := ⟨0x184, 0, 32⟩
abbrev MB_STATUS_BUSY : Fld := ⟨0x108, 0, 1⟩
abbrev MB_STATUS_STATUS : Fld := ⟨0x108, 8, 8⟩
abbrev MB_STATUS_WORDS : Fld := ⟨0x108, 16, 5⟩
abbrev MBS_STATUS_BUSY : Fld := ⟨0x188, 0, 1⟩
abbrev MBS_STATUS_STATUS : Fld := ⟨0x188, 8, 8⟩
abbrev MBS_STATUS_WORDS : Fld := ⟨0x188, 16, 5⟩
abbrev MB_DATA_DATA (i : Nat) : Fld := ⟨0x140 + 0x4 * i, 0, 32⟩
abbrev MBS_DATA_DATA (i : Nat) : Fld := ⟨0x1C0 + 0x4 * i, 0, 32⟩
/-! DPL -/
abbrev DPL_CTRL_EDP : Fld := ⟨0x40, 0, 1⟩
abbrev DPL_CTRL_PANEL_ON : Fld := ⟨0x40, 1, 1⟩
abbrev DPL_CTRL_AUTO_POL : Fld := ⟨0x40, 2, 1⟩
abbrev DPL_CTRL_HPD_FORCE : Fld := ⟨0x40, 3, 1⟩
abbrev DPL_CTRL_RETRAIN : Fld := ⟨0x40, 4, 1⟩
abbrev DPL_LINK_CFG_MAX_RATE : Fld := ⟨0x44, 0, 2⟩
abbrev DPL_LINK_CFG_MAX_LANES : Fld := ⟨0x44, 2, 2⟩
abbrev DPL_LINK_CFG_FALLBACK_EN : Fld := ⟨0x44, 4, 1⟩
abbrev DPL_LANE_MAP_MAP : Fld := ⟨0x48, 0, 8⟩
abbrev DPL_LANE_MAP_TX_INV : Fld := ⟨0x48, 8, 4⟩
abbrev DPL_STATUS_LINK_STATE : Fld := ⟨0x4C, 0, 3⟩
abbrev DPL_STATUS_RATE : Fld := ⟨0x4C, 3, 2⟩
abbrev DPL_STATUS_LANES : Fld := ⟨0x4C, 5, 2⟩
abbrev DPL_STATUS_HPD : Fld := ⟨0x4C, 7, 1⟩
abbrev DPL_STATUS_POL_FOUND : Fld := ⟨0x4C, 8, 4⟩
abbrev DPL_STATUS_AUX_FAULT : Fld := ⟨0x4C, 12, 2⟩
abbrev DPL_STATUS_HPD_STUCK : Fld := ⟨0x4C, 14, 2⟩
abbrev DPL_STATUS_LANE_OPEN : Fld := ⟨0x4C, 16, 4⟩
abbrev DPL_STATUS_LANE_SHORT : Fld := ⟨0x4C, 20, 4⟩
abbrev DPL_STATUS_FAIL_REASON : Fld := ⟨0x4C, 24, 8⟩
abbrev DPL_SINK_CAPS_DPCD (i : Nat) : Fld := ⟨0x50 + 0x4 * i, 0, 32⟩
abbrev DPL_AUX_CMD_ADDR : Fld := ⟨0x60, 0, 20⟩
abbrev DPL_AUX_CMD_REQ : Fld := ⟨0x60, 20, 3⟩
abbrev DPL_AUX_CMD_LEN : Fld := ⟨0x60, 24, 5⟩
abbrev DPL_AUX_CMD_GO : Fld := ⟨0x60, 31, 1⟩
abbrev DPL_AUX_STATUS_BUSY : Fld := ⟨0x64, 0, 1⟩
abbrev DPL_AUX_STATUS_STATUS : Fld := ⟨0x64, 8, 8⟩
abbrev DPL_AUX_STATUS_BYTES : Fld := ⟨0x64, 16, 5⟩
abbrev DPL_AUX_DATA_DATA (i : Nat) : Fld := ⟨0x68 + 0x4 * i, 0, 32⟩
abbrev DPL_AUX_STAT_TRANSIENT : Fld := ⟨0x78, 0, 16⟩
abbrev DPL_AUX_STAT_LASTING : Fld := ⟨0x78, 16, 16⟩
abbrev DPL_PANEL_SEQ_T_HPD_MS : Fld := ⟨0x7C, 0, 8⟩
abbrev DPL_PANEL_SEQ_T_BL_ON : Fld := ⟨0x7C, 8, 8⟩
abbrev DPL_PANEL_SEQ_T_BL_OFF : Fld := ⟨0x7C, 16, 8⟩
abbrev DPL_PANEL_SEQ_T_VDD_OFF : Fld := ⟨0x7C, 24, 8⟩
abbrev DPL_PANEL_PWM_PERIOD : Fld := ⟨0x80, 0, 16⟩
abbrev DPL_PANEL_PWM_DUTY : Fld := ⟨0x80, 16, 16⟩
abbrev DPL_PANEL_MISC_MIN_OFF_MS : Fld := ⟨0x84, 0, 16⟩
abbrev DPL_PANEL_MISC_STATE : Fld := ⟨0x84, 16, 3⟩
abbrev DPL_TRAIN_STAT_LAST_US : Fld := ⟨0x88, 0, 16⟩
abbrev DPL_TRAIN_STAT_CONFIGS : Fld := ⟨0x88, 16, 8⟩
abbrev DPL_TRAIN_STAT_TRAININGS : Fld := ⟨0x88, 24, 8⟩
/-! PCI -/
abbrev PCI_LINK_UP : Fld := ⟨0x40, 0, 1⟩
abbrev PCI_LINK_SPEED : Fld := ⟨0x40, 1, 3⟩
abbrev PCI_LINK_WIDTH : Fld := ⟨0x40, 4, 4⟩
abbrev PCI_LINK_DOWNS : Fld := ⟨0x40, 16, 16⟩
abbrev PCI_PAGE_VEC_VEC (i : Nat) : Fld := ⟨0x400 + 0x4 * i, 0, 11⟩
abbrev PCI_PAGE_VEC_EN (i : Nat) : Fld := ⟨0x400 + 0x4 * i, 15, 1⟩
/-! INST -/
abbrev INST_CMD_INSTANCE : Fld := ⟨0x40, 0, 8⟩
abbrev INST_CMD_OP : Fld := ⟨0x40, 8, 4⟩
abbrev INST_CMD_GO : Fld := ⟨0x40, 31, 1⟩
abbrev INST_CMD_ARG_LO_ADDR : Fld := ⟨0x44, 0, 32⟩
abbrev INST_CMD_ARG_HI_ADDR : Fld := ⟨0x48, 0, 32⟩
abbrev INST_CMD_STATUS_BUSY : Fld := ⟨0x4C, 0, 1⟩
abbrev INST_CMD_STATUS_RESULT : Fld := ⟨0x4C, 8, 8⟩
abbrev INST_CAPACITY_MBPS : Fld := ⟨0x50, 0, 18⟩
abbrev INST_RES_TOTAL_MBPS : Fld := ⟨0x54, 0, 18⟩
abbrev INST_C0_RES_MBPS : Fld := ⟨0x58, 0, 18⟩
abbrev INST_SHED_MAP_MAP (i : Nat) : Fld := ⟨0x60 + 0x4 * i, 0, 32⟩
/-! DMA -/
abbrev DMA_CHAN_BUSY (i : Nat) : Fld := ⟨0x40 + 0x4 * i, 0, 1⟩
abbrev DMA_CHAN_SECURE (i : Nat) : Fld := ⟨0x40 + 0x4 * i, 1, 1⟩
abbrev DMA_CHAN_INSTANCE (i : Nat) : Fld := ⟨0x40 + 0x4 * i, 8, 8⟩
abbrev DMA_CHAN_CHUNKS (i : Nat) : Fld := ⟨0x40 + 0x4 * i, 16, 16⟩
abbrev MIG_DRAM_LO_ADDR : Fld := ⟨0x50, 0, 32⟩
abbrev MIG_DRAM_HI_ADDR : Fld := ⟨0x54, 0, 32⟩
abbrev MIG_HOST_LO_ADDR : Fld := ⟨0x58, 0, 32⟩
abbrev MIG_HOST_HI_ADDR : Fld := ⟨0x5C, 0, 32⟩
abbrev MIG_LEN_BYTES : Fld := ⟨0x60, 0, 32⟩
abbrev MIG_CMD_MODE : Fld := ⟨0x64, 0, 2⟩
abbrev MIG_CMD_INSTANCE : Fld := ⟨0x64, 8, 8⟩
abbrev MIG_CMD_GO : Fld := ⟨0x64, 31, 1⟩
abbrev MIG_STATUS_BUSY : Fld := ⟨0x68, 0, 1⟩
abbrev MIG_STATUS_RESULT : Fld := ⟨0x68, 8, 8⟩
/-! SEC -/
abbrev SEC_SVC_BASE_LO_BASE : Fld := ⟨0x40, 0, 32⟩
abbrev SEC_SVC_BASE_HI_BASE : Fld := ⟨0x44, 0, 32⟩
abbrev SEC_ARG_BASE_LO_BASE : Fld := ⟨0x48, 0, 32⟩
abbrev SEC_ARG_BASE_HI_BASE : Fld := ⟨0x4C, 0, 32⟩
abbrev SEC_SVC_CTRL_ENABLE : Fld := ⟨0x50, 0, 1⟩
abbrev SEC_SVC_CTRL_SIZE : Fld := ⟨0x50, 1, 3⟩
abbrev SEC_SVC_CTRL_LIMIT : Fld := ⟨0x50, 16, 16⟩
abbrev SEC_SVC_WR_INDEX : Fld := ⟨0x54, 0, 10⟩
abbrev SEC_SVC_RD_INDEX : Fld := ⟨0x58, 0, 10⟩
abbrev SEC_REPLY_ID_REQ_ID : Fld := ⟨0x5C, 0, 32⟩
abbrev SEC_REPLY_VALUE_VALUE : Fld := ⟨0x60, 0, 32⟩
abbrev SEC_REPLY_STATUS : Fld := ⟨0x64, 0, 8⟩
abbrev SEC_REPLY_LEN : Fld := ⟨0x64, 8, 13⟩
abbrev SEC_REPLY_GO : Fld := ⟨0x64, 31, 1⟩
abbrev SEC_REPLY_RESULT_RESULT : Fld := ⟨0x68, 0, 8⟩
abbrev SEC_HO_CMD_BLOCK_ID : Fld := ⟨0x70, 0, 16⟩
abbrev SEC_HO_CMD_TO_WORLD : Fld := ⟨0x70, 16, 1⟩
abbrev SEC_HO_CMD_FORCE : Fld := ⟨0x70, 17, 1⟩
abbrev SEC_HO_CMD_GO : Fld := ⟨0x70, 31, 1⟩
abbrev SEC_HO_STATUS_BUSY : Fld := ⟨0x74, 0, 1⟩
abbrev SEC_HO_STATUS_RESULT : Fld := ⟨0x74, 8, 8⟩
abbrev SEC_RELEASE_OK_LO_RELEASE_OK : Fld := ⟨0x78, 0, 32⟩
abbrev SEC_RELEASE_OK_HI_RELEASE_OK : Fld := ⟨0x7C, 0, 32⟩
abbrev SEC_ACCEPT_OK_LO_ACCEPT_OK : Fld := ⟨0x80, 0, 32⟩
abbrev SEC_ACCEPT_OK_HI_ACCEPT_OK : Fld := ⟨0x84, 0, 32⟩
abbrev SEC_OWN_MAP_LO_SECURE : Fld := ⟨0x88, 0, 32⟩
abbrev SEC_OWN_MAP_HI_SECURE : Fld := ⟨0x8C, 0, 32⟩
abbrev SEC_SUB_BASE_LO_BASE (i : Nat) : Fld := ⟨0xA0 + 0x10 * i, 0, 32⟩
abbrev SEC_SUB_BASE_HI_BASE (i : Nat) : Fld := ⟨0xA4 + 0x10 * i, 0, 32⟩
abbrev SEC_SUB_CTRL_SIZE (i : Nat) : Fld := ⟨0xA8 + 0x10 * i, 0, 3⟩
abbrev SEC_SUB_CTRL_EN (i : Nat) : Fld := ⟨0xA8 + 0x10 * i, 3, 1⟩
abbrev SEC_SUB_TAIL_TAIL (i : Nat) : Fld := ⟨0xAC + 0x10 * i, 0, 14⟩
abbrev SEC_SUB_TAIL_HEAD (i : Nat) : Fld := ⟨0xAC + 0x10 * i, 16, 14⟩
/-! WMARK -/
abbrev WM_DRAM_LEVEL : Fld := ⟨0x40, 0, 15⟩
abbrev WM_SDT_LEVEL : Fld := ⟨0x44, 0, 13⟩
abbrev WM_SRAM_LEVEL : Fld := ⟨0x48, 0, 7⟩
abbrev WM_STATUS_RESULT : Fld := ⟨0x4C, 0, 8⟩
abbrev WM_VIOL_ADDR_LO_ADDR : Fld := ⟨0x50, 0, 32⟩
abbrev WM_VIOL_ADDR_HI_ADDR : Fld := ⟨0x54, 0, 32⟩
abbrev WM_VIOL_INFO_AGENT : Fld := ⟨0x58, 0, 4⟩
abbrev WM_VIOL_INFO_INSTANCE : Fld := ⟨0x58, 8, 8⟩
abbrev WM_VIOL_INFO_INST_VALID : Fld := ⟨0x58, 16, 1⟩
abbrev WM_VIOL_INFO_VALID : Fld := ⟨0x58, 31, 1⟩
/-! DEBUG -/
abbrev DBG_CTRL_SEC_INV : Fld := ⟨0x40, 0, 1⟩
abbrev DBG_CTRL_SEC_NONINV : Fld := ⟨0x40, 1, 1⟩
abbrev DBG_CTRL_NS_INV : Fld := ⟨0x40, 2, 1⟩
abbrev DBG_CTRL_NS_NONINV : Fld := ⟨0x40, 3, 1⟩
abbrev DBG_FUSE_EN : Fld := ⟨0x44, 0, 4⟩
abbrev DBG_FUSE_KILL : Fld := ⟨0x44, 4, 1⟩
abbrev DBG_EFFECTIVE_EN : Fld := ⟨0x48, 0, 4⟩
abbrev DBG_STATUS_CND_HALTED : Fld := ⟨0x4C, 0, 9⟩
abbrev DBG_STATUS_GH_HALTED : Fld := ⟨0x4C, 9, 1⟩
/-! PERF -/
abbrev PERF_CTRL_EN : Fld := ⟨0x40, 0, 1⟩
abbrev PERF_CTRL_FREEZE : Fld := ⟨0x40, 1, 1⟩
abbrev PERF_CTRL_CLEAR : Fld := ⟨0x40, 2, 1⟩
abbrev PERF_SEL_EVENT (i : Nat) : Fld := ⟨0x80 + 0x4 * i, 0, 8⟩
abbrev PERF_SEL_INSTANCE (i : Nat) : Fld := ⟨0x80 + 0x4 * i, 8, 8⟩
abbrev PERF_SEL_INST_EN (i : Nat) : Fld := ⟨0x80 + 0x4 * i, 16, 1⟩
abbrev PERF_CNT_LO_COUNT (i : Nat) : Fld := ⟨0x100 + 0x8 * i, 0, 32⟩
abbrev PERF_CNT_HI_COUNT (i : Nat) : Fld := ⟨0x104 + 0x8 * i, 0, 16⟩
/-! MEM -/
abbrev MEM_CFG_DENSITY : Fld := ⟨0x40, 0, 2⟩
abbrev MEM_CFG_CAP_GIB : Fld := ⟨0x40, 8, 6⟩
abbrev MEM_FREQ_TARGET : Fld := ⟨0x44, 0, 2⟩
abbrev MEM_FREQ_FULL_OK : Fld := ⟨0x44, 2, 1⟩
abbrev MEM_FREQ_GO : Fld := ⟨0x44, 3, 1⟩
abbrev MEM_FREQ_CURRENT : Fld := ⟨0x44, 4, 2⟩
abbrev MEM_FREQ_PENDING : Fld := ⟨0x44, 6, 1⟩
abbrev MEM_FREQ_BUSY : Fld := ⟨0x44, 7, 1⟩
abbrev MEM_FREQ_RESULT : Fld := ⟨0x44, 8, 8⟩
abbrev MEM_FREQ_VALID : Fld := ⟨0x44, 16, 4⟩
abbrev MEM_STATUS_REF_RATE : Fld := ⟨0x48, 0, 2⟩
abbrev MEM_STATUS_OWED : Fld := ⟨0x48, 4, 5⟩
abbrev MEM_STATUS_SELF_REFRESH : Fld := ⟨0x48, 9, 1⟩
abbrev MEM_STATUS_TRAINING : Fld := ⟨0x48, 10, 1⟩
abbrev MEM_STATUS_WBUF_OCC : Fld := ⟨0x48, 16, 7⟩
abbrev MEM_STATUS_DRAINING : Fld := ⟨0x48, 23, 1⟩
abbrev MEM_REF_CFG_TEMP_THR : Fld := ⟨0x4C, 0, 8⟩
abbrev MEM_REF_CFG_HYST : Fld := ⟨0x4C, 8, 4⟩
abbrev MEM_TEMP_LO_DATA : Fld := ⟨0x50, 0, 32⟩
abbrev MEM_TEMP_HI_CHECK : Fld := ⟨0x54, 0, 8⟩
abbrev MEM_RETRAIN_INTERVAL_MS : Fld := ⟨0x58, 0, 8⟩
abbrev MEM_RETRAIN_STEPS : Fld := ⟨0x58, 16, 16⟩
abbrev MEM_SVC_ACTION : Fld := ⟨0x5C, 0, 2⟩
abbrev MEM_SVC_KEEP : Fld := ⟨0x5C, 8, 8⟩
abbrev MEM_SVC_PROGRESS : Fld := ⟨0x5C, 16, 7⟩
abbrev MEM_PASR_KEEP : Fld := ⟨0x60, 0, 8⟩
abbrev MEM_PASR_FORCED : Fld := ⟨0x60, 8, 8⟩
abbrev MEM_RT_CAP_MBPS : Fld := ⟨0x64, 0, 18⟩
abbrev MEM_RD_BLOCKS_BLOCKS : Fld := ⟨0x68, 0, 32⟩
abbrev MEM_WR_BLOCKS_BLOCKS : Fld := ⟨0x6C, 0, 32⟩
abbrev MEM_URGENT_MAX_CYC : Fld := ⟨0x70, 0, 16⟩
abbrev MEM_REF_STAT_SPLITS : Fld := ⟨0x74, 0, 16⟩
abbrev MEM_REF_STAT_MAX_OWED : Fld := ⟨0x74, 16, 4⟩
abbrev MEM_WBUF_STAT_DRAINS : Fld := ⟨0x78, 0, 16⟩
abbrev MEM_WBUF_STAT_STALLS : Fld := ⟨0x78, 16, 16⟩
/-! SWEEP -/
abbrev SWP_CTRL_EN : Fld := ⟨0x40, 0, 1⟩
abbrev SWP_CTRL_LAP_WARN_MIN : Fld := ⟨0x40, 16, 16⟩
abbrev SWP_POS_LO_ADDR : Fld := ⟨0x44, 0, 32⟩
abbrev SWP_POS_HI_ADDR : Fld := ⟨0x48, 0, 32⟩
abbrev SWP_LAP_MS_MS : Fld := ⟨0x4C, 0, 32⟩
abbrev SWP_LAPS_LAPS : Fld := ⟨0x50, 0, 32⟩
abbrev SWP_ECC_CORR_WORDS : Fld := ⟨0x54, 0, 32⟩
abbrev SWP_ECC_UNCORR_TRANSIENT : Fld := ⟨0x58, 0, 16⟩
abbrev SWP_ECC_UNCORR_LASTING : Fld := ⟨0x58, 16, 16⟩
abbrev SWP_POISON_WRITES : Fld := ⟨0x5C, 0, 16⟩
abbrev SWP_POISON_READS : Fld := ⟨0x5C, 16, 16⟩
abbrev SWP_LOG_STAT_USED : Fld := ⟨0x60, 0, 7⟩
abbrev SWP_LOG_STAT_DROPPED : Fld := ⟨0x60, 16, 16⟩
abbrev SWP_LOG_SEL_INDEX : Fld := ⟨0x64, 0, 6⟩
abbrev SWP_LOG_SEL_MARK : Fld := ⟨0x64, 8, 1⟩
abbrev SWP_LOG_SEL_UNMARK : Fld := ⟨0x64, 9, 1⟩
abbrev SWP_LOG_SEL_FREE : Fld := ⟨0x64, 10, 1⟩
abbrev SWP_LOG_ADDR_LO_ADDR : Fld := ⟨0x68, 0, 32⟩
abbrev SWP_LOG_ADDR_HI_ADDR : Fld := ⟨0x6C, 0, 32⟩
abbrev SWP_LOG_INFO_STATE : Fld := ⟨0x70, 0, 3⟩
abbrev SWP_LOG_INFO_MARKED : Fld := ⟨0x70, 3, 1⟩
abbrev SWP_LOG_INFO_COUNT : Fld := ⟨0x70, 4, 4⟩
abbrev SWP_LOG_INFO_CHANNEL : Fld := ⟨0x70, 8, 3⟩
abbrev SWP_LOG_INFO_POSITION : Fld := ⟨0x70, 16, 7⟩
abbrev SWP_LOG_INFO_REPAIR : Fld := ⟨0x70, 24, 8⟩
abbrev SWP_LOG_TIME_LO_TIME : Fld := ⟨0x74, 0, 32⟩
abbrev SWP_LOG_TIME_HI_TIME : Fld := ⟨0x78, 0, 32⟩
abbrev RNG_START_LO_ADDR : Fld := ⟨0x80, 0, 32⟩
abbrev RNG_START_HI_ADDR : Fld := ⟨0x84, 0, 32⟩
abbrev RNG_END_LO_ADDR : Fld := ⟨0x88, 0, 32⟩
abbrev RNG_END_HI_ADDR : Fld := ⟨0x8C, 0, 32⟩
abbrev RNG_CTRL_PACE : Fld := ⟨0x90, 0, 8⟩
abbrev RNG_CTRL_GO : Fld := ⟨0x90, 8, 1⟩
abbrev RNG_CTRL_ABORT : Fld := ⟨0x90, 9, 1⟩
abbrev RNG_STATUS_BUSY : Fld := ⟨0x94, 0, 1⟩
abbrev RNG_STATUS_SECURE : Fld := ⟨0x94, 1, 1⟩
abbrev RNG_STATUS_RESULT : Fld := ⟨0x94, 8, 8⟩
abbrev RNG_CORR_WORDS : Fld := ⟨0x98, 0, 32⟩
abbrev RNG_UNCORR_LASTING : Fld := ⟨0x9C, 0, 16⟩
abbrev RNG_UNCORR_TRANSIENT : Fld := ⟨0x9C, 16, 16⟩
abbrev RNG_FIRST_LO_ADDR : Fld := ⟨0xA0, 0, 32⟩
abbrev RNG_FIRST_HI_ADDR : Fld := ⟨0xA4, 0, 32⟩
abbrev RNG_LAST_LO_ADDR : Fld := ⟨0xA8, 0, 32⟩
abbrev RNG_LAST_HI_ADDR : Fld := ⟨0xAC, 0, 32⟩
abbrev RNG_TIME_US_US : Fld := ⟨0xB0, 0, 32⟩
abbrev VALID_PAGES_PAGES : Fld := ⟨0xB4, 0, 24⟩
/-! TCH -/
abbrev TCH_CTRL_SCAN_EN : Fld := ⟨0x40, 0, 1⟩
abbrev TCH_CTRL_AVG : Fld := ⟨0x40, 1, 4⟩
abbrev TCH_CTRL_NOISE_AVG : Fld := ⟨0x40, 5, 4⟩
abbrev TCH_CTRL_IDLE_EN : Fld := ⟨0x40, 9, 1⟩
abbrev TCH_CTRL_NOISE_GAIN : Fld := ⟨0x40, 16, 7⟩
abbrev TCH_STATUS_RATE : Fld := ⟨0x44, 0, 2⟩
abbrev TCH_STATUS_NOISE_MODE : Fld := ⟨0x44, 2, 1⟩
abbrev TCH_STATUS_SCANNING : Fld := ⟨0x44, 3, 1⟩
abbrev TCH_STATUS_FREQ : Fld := ⟨0x44, 4, 2⟩
abbrev TCH_STATUS_CYCLE_US : Fld := ⟨0x44, 16, 16⟩
abbrev TCH_FREQ_F0 : Fld := ⟨0x48, 0, 8⟩
abbrev TCH_FREQ_F1 : Fld := ⟨0x48, 8, 8⟩
abbrev TCH_FREQ_F2 : Fld := ⟨0x48, 16, 8⟩
abbrev TCH_FREQ_F3 : Fld := ⟨0x48, 24, 8⟩
abbrev TCH_NOISE_ENTER : Fld := ⟨0x4C, 0, 12⟩
abbrev TCH_NOISE_EXIT : Fld := ⟨0x4C, 16, 12⟩
abbrev TCH_NOISE_STAT_LAST : Fld := ⟨0x50, 0, 12⟩
abbrev TCH_NOISE_STAT_ENTRIES : Fld := ⟨0x50, 16, 16⟩
abbrev TCH_FAULT_THR_OPEN_THR : Fld := ⟨0x54, 0, 16⟩
abbrev TCH_FAULT_THR_SHORT_THR : Fld := ⟨0x54, 16, 16⟩
abbrev TCH_OPEN_MAP_MAP : Fld := ⟨0x58, 0, 32⟩
abbrev TCH_SHORT_MAP_MAP : Fld := ⟨0x5C, 0, 32⟩
abbrev TCH_ROLE_LO_ROLE0 : Fld := ⟨0x60, 0, 2⟩
abbrev TCH_ROLE_LO_ROLE1 : Fld := ⟨0x60, 2, 2⟩
abbrev TCH_ROLE_LO_ROLE2 : Fld := ⟨0x60, 4, 2⟩
abbrev TCH_ROLE_LO_ROLE3 : Fld := ⟨0x60, 6, 2⟩
abbrev TCH_ROLE_LO_ROLE4 : Fld := ⟨0x60, 8, 2⟩
abbrev TCH_ROLE_LO_ROLE5 : Fld := ⟨0x60, 10, 2⟩
abbrev TCH_ROLE_LO_ROLE6 : Fld := ⟨0x60, 12, 2⟩
abbrev TCH_ROLE_LO_ROLE7 : Fld := ⟨0x60, 14, 2⟩
abbrev TCH_ROLE_LO_ROLE8 : Fld := ⟨0x60, 16, 2⟩
abbrev TCH_ROLE_LO_ROLE9 : Fld := ⟨0x60, 18, 2⟩
abbrev TCH_ROLE_LO_ROLE10 : Fld := ⟨0x60, 20, 2⟩
abbrev TCH_ROLE_LO_ROLE11 : Fld := ⟨0x60, 22, 2⟩
abbrev TCH_ROLE_LO_ROLE12 : Fld := ⟨0x60, 24, 2⟩
abbrev TCH_ROLE_LO_ROLE13 : Fld := ⟨0x60, 26, 2⟩
abbrev TCH_ROLE_LO_ROLE14 : Fld := ⟨0x60, 28, 2⟩
abbrev TCH_ROLE_LO_ROLE15 : Fld := ⟨0x60, 30, 2⟩
abbrev TCH_ROLE_HI_ROLE0 : Fld := ⟨0x64, 0, 2⟩
abbrev TCH_ROLE_HI_ROLE1 : Fld := ⟨0x64, 2, 2⟩
abbrev TCH_ROLE_HI_ROLE2 : Fld := ⟨0x64, 4, 2⟩
abbrev TCH_ROLE_HI_ROLE3 : Fld := ⟨0x64, 6, 2⟩
abbrev TCH_ROLE_HI_ROLE4 : Fld := ⟨0x64, 8, 2⟩
abbrev TCH_ROLE_HI_ROLE5 : Fld := ⟨0x64, 10, 2⟩
abbrev TCH_ROLE_HI_ROLE6 : Fld := ⟨0x64, 12, 2⟩
abbrev TCH_ROLE_HI_ROLE7 : Fld := ⟨0x64, 14, 2⟩
abbrev TCH_ROLE_HI_ROLE8 : Fld := ⟨0x64, 16, 2⟩
abbrev TCH_ROLE_HI_ROLE9 : Fld := ⟨0x64, 18, 2⟩
abbrev TCH_ROLE_HI_ROLE10 : Fld := ⟨0x64, 20, 2⟩
abbrev TCH_ROLE_HI_ROLE11 : Fld := ⟨0x64, 22, 2⟩
abbrev TCH_ROLE_HI_ROLE12 : Fld := ⟨0x64, 24, 2⟩
abbrev TCH_ROLE_HI_ROLE13 : Fld := ⟨0x64, 26, 2⟩
abbrev TCH_ROLE_HI_ROLE14 : Fld := ⟨0x64, 28, 2⟩
abbrev TCH_ROLE_HI_ROLE15 : Fld := ⟨0x64, 30, 2⟩
abbrev TCH_PROV_MAP_MAP : Fld := ⟨0x68, 0, 32⟩
abbrev TCH_TOUCH_MAP_LO_MAP : Fld := ⟨0x6C, 0, 32⟩
abbrev TCH_TOUCH_MAP_HI_MAP : Fld := ⟨0x70, 0, 8⟩
abbrev TCH_VIEW_SEL_RX : Fld := ⟨0x74, 0, 5⟩
abbrev TCH_VIEW_SEL_MUTUAL : Fld := ⟨0x74, 8, 1⟩
abbrev TCH_VIEW_SEL_TX : Fld := ⟨0x74, 16, 5⟩
abbrev TCH_VIEW_RAW : Fld := ⟨0x78, 0, 16⟩
abbrev TCH_VIEW_BASE : Fld := ⟨0x78, 16, 16⟩
abbrev TCH_VIEW_DELTA_DELTA : Fld := ⟨0x7C, 0, 16⟩
abbrev TCH_VIEW_DELTA_PROV : Fld := ⟨0x7C, 16, 1⟩
abbrev TCH_GRP_OWN_WORLD (i : Nat) : Fld := ⟨0x80 + 0x4 * i, 0, 1⟩
abbrev TCH_GRP_OWN_INSTANCE (i : Nat) : Fld := ⟨0x80 + 0x4 * i, 8, 8⟩
abbrev TCH_GRP_OWN_INST_VALID (i : Nat) : Fld := ⟨0x80 + 0x4 * i, 16, 1⟩
abbrev TCH_GRP_OWN_HANDOVER (i : Nat) : Fld := ⟨0x80 + 0x4 * i, 17, 2⟩
abbrev TCH_BASE_CFG_TRACK : Fld := ⟨0xA0, 0, 8⟩
abbrev TCH_BASE_CFG_NEG_THR : Fld := ⟨0xA0, 16, 16⟩
abbrev TCH_HOLD_MAX_HOLD : Fld := ⟨0xA4, 0, 16⟩
abbrev TCH_SVC_ACTION : Fld := ⟨0xA8, 0, 1⟩
abbrev TCH_CYCLES_CYCLES : Fld := ⟨0xAC, 0, 32⟩
abbrev TCH_STAT_DROPPED : Fld := ⟨0xB0, 0, 16⟩
abbrev TCH_STAT_FAULTS : Fld := ⟨0xB0, 16, 16⟩
abbrev OBJ_CFG_TYPE (i : Nat) : Fld := ⟨0x100 + 0x10 * i, 0, 2⟩
abbrev OBJ_CFG_SEGS (i : Nat) : Fld := ⟨0x100 + 0x10 * i, 4, 3⟩
abbrev OBJ_CFG_TX (i : Nat) : Fld := ⟨0x100 + 0x10 * i, 8, 5⟩
abbrev OBJ_CFG_DEB_ON (i : Nat) : Fld := ⟨0x100 + 0x10 * i, 16, 4⟩
abbrev OBJ_CFG_DEB_OFF (i : Nat) : Fld := ⟨0x100 + 0x10 * i, 20, 4⟩
abbrev OBJ_CFG_MOVE_MIN (i : Nat) : Fld := ⟨0x100 + 0x10 * i, 24, 8⟩
abbrev OBJ_RX_LO_RX0 (i : Nat) : Fld := ⟨0x104 + 0x10 * i, 0, 5⟩
abbrev OBJ_RX_LO_RX1 (i : Nat) : Fld := ⟨0x104 + 0x10 * i, 8, 5⟩
abbrev OBJ_RX_LO_RX2 (i : Nat) : Fld := ⟨0x104 + 0x10 * i, 16, 5⟩
abbrev OBJ_RX_LO_RX3 (i : Nat) : Fld := ⟨0x104 + 0x10 * i, 24, 5⟩
abbrev OBJ_RX_HI_RX0 (i : Nat) : Fld := ⟨0x108 + 0x10 * i, 0, 5⟩
abbrev OBJ_RX_HI_RX1 (i : Nat) : Fld := ⟨0x108 + 0x10 * i, 8, 5⟩
abbrev OBJ_RX_HI_RX2 (i : Nat) : Fld := ⟨0x108 + 0x10 * i, 16, 5⟩
abbrev OBJ_RX_HI_RX3 (i : Nat) : Fld := ⟨0x108 + 0x10 * i, 24, 5⟩
abbrev OBJ_THR_SELF_THR (i : Nat) : Fld := ⟨0x10C + 0x10 * i, 0, 16⟩
abbrev OBJ_THR_MUT_THR (i : Nat) : Fld := ⟨0x10C + 0x10 * i, 16, 16⟩
abbrev OBJ_STATE_STATE (i : Nat) : Fld := ⟨0x400 + 0x4 * i, 0, 3⟩
abbrev OBJ_STATE_CANDIDATE (i : Nat) : Fld := ⟨0x400 + 0x4 * i, 3, 1⟩
abbrev OBJ_STATE_AT_START (i : Nat) : Fld := ⟨0x400 + 0x4 * i, 4, 1⟩
abbrev OBJ_STATE_PROV (i : Nat) : Fld := ⟨0x400 + 0x4 * i, 5, 1⟩
abbrev OBJ_STATE_POS (i : Nat) : Fld := ⟨0x400 + 0x4 * i, 16, 16⟩
/-! HAP -/
abbrev HAP_STATUS_VDD_MV : Fld := ⟨0x40, 0, 13⟩
abbrev HAP_STATUS_LOW : Fld := ⟨0x40, 16, 1⟩
abbrev HAP_CH_LIM_VMAX_MV (i : Nat) : Fld := ⟨0x80 + 0x20 * i, 0, 13⟩
abbrev HAP_CH_LIM_VKICK_MV (i : Nat) : Fld := ⟨0x80 + 0x20 * i, 16, 13⟩
abbrev HAP_CH_TIME_KICK_MAX_MS (i : Nat) : Fld := ⟨0x84 + 0x20 * i, 0, 6⟩
abbrev HAP_CH_TIME_TMAX_MS (i : Nat) : Fld := ⟨0x84 + 0x20 * i, 16, 16⟩
abbrev HAP_CH_THERM_WIN_MS (i : Nat) : Fld := ⟨0x88 + 0x20 * i, 0, 16⟩
abbrev HAP_CH_THERM_DUTY_PCT (i : Nat) : Fld := ⟨0x88 + 0x20 * i, 16, 7⟩
abbrev HAP_CH_CTRL_TRIG_EN (i : Nat) : Fld := ⟨0x8C + 0x20 * i, 0, 1⟩
abbrev HAP_CH_CTRL_TRIG_EDGE (i : Nat) : Fld := ⟨0x8C + 0x20 * i, 1, 2⟩
abbrev HAP_CH_CTRL_AUTO_POL (i : Nat) : Fld := ⟨0x8C + 0x20 * i, 3, 1⟩
abbrev HAP_CH_CTRL_TRIG_SLOT (i : Nat) : Fld := ⟨0x8C + 0x20 * i, 8, 5⟩
abbrev HAP_CH_CTRL_PLAY (i : Nat) : Fld := ⟨0x8C + 0x20 * i, 16, 1⟩
abbrev HAP_CH_CTRL_STOP (i : Nat) : Fld := ⟨0x8C + 0x20 * i, 17, 1⟩
abbrev HAP_CH_CTRL_CLEAR (i : Nat) : Fld := ⟨0x8C + 0x20 * i, 18, 1⟩
abbrev HAP_CH_CTRL_PLAY_SLOT (i : Nat) : Fld := ⟨0x8C + 0x20 * i, 24, 5⟩
abbrev HAP_CH_STATUS_STATE (i : Nat) : Fld := ⟨0x90 + 0x20 * i, 0, 3⟩
abbrev HAP_CH_STATUS_QUEUED (i : Nat) : Fld := ⟨0x90 + 0x20 * i, 3, 1⟩
abbrev HAP_CH_STATUS_POL_SWAP (i : Nat) : Fld := ⟨0x90 + 0x20 * i, 4, 1⟩
abbrev HAP_CH_STATUS_FAULT (i : Nat) : Fld := ⟨0x90 + 0x20 * i, 5, 3⟩
abbrev HAP_CH_STATUS_DUTY_NOW (i : Nat) : Fld := ⟨0x90 + 0x20 * i, 8, 7⟩
abbrev HAP_CH_STATUS_TIMED (i : Nat) : Fld := ⟨0x90 + 0x20 * i, 15, 1⟩
abbrev HAP_CH_STATUS_SLOT (i : Nat) : Fld := ⟨0x90 + 0x20 * i, 16, 5⟩
abbrev HAP_CH_OWN_WORD (i : Nat) : Fld := ⟨0x94 + 0x20 * i, 0, 32⟩
abbrev HAP_CH_STAT_EFFECTS (i : Nat) : Fld := ⟨0x98 + 0x20 * i, 0, 16⟩
abbrev HAP_CH_STAT_REFUSED (i : Nat) : Fld := ⟨0x98 + 0x20 * i, 16, 16⟩
abbrev HAP_SLOT_KICK_MV (i : Nat) : Fld := ⟨0x200 + 0x10 * i, 0, 13⟩
abbrev HAP_SLOT_KICK_MS (i : Nat) : Fld := ⟨0x200 + 0x10 * i, 16, 6⟩
abbrev HAP_SLOT_BRK_MV (i : Nat) : Fld := ⟨0x208 + 0x10 * i, 0, 13⟩
abbrev HAP_SLOT_BRK_MS (i : Nat) : Fld := ⟨0x208 + 0x10 * i, 16, 6⟩
abbrev HAP_SLOT_SUS_MV (i : Nat) : Fld := ⟨0x204 + 0x10 * i, 0, 13⟩
abbrev HAP_SLOT_SUS_MS (i : Nat) : Fld := ⟨0x204 + 0x10 * i, 16, 16⟩
/-! AUD -/
abbrev AUD_PORT_CFG_EN (i : Nat) : Fld := ⟨0x40 + 0x10 * i, 0, 1⟩
abbrev AUD_PORT_CFG_TARGET (i : Nat) : Fld := ⟨0x40 + 0x10 * i, 1, 1⟩
abbrev AUD_PORT_CFG_WIDTH (i : Nat) : Fld := ⟨0x40 + 0x10 * i, 2, 2⟩
abbrev AUD_PORT_CFG_RATE (i : Nat) : Fld := ⟨0x40 + 0x10 * i, 4, 4⟩
abbrev AUD_PORT_CFG_MCLK (i : Nat) : Fld := ⟨0x40 + 0x10 * i, 8, 2⟩
abbrev AUD_PORT_CFG_FS_POL (i : Nat) : Fld := ⟨0x40 + 0x10 * i, 10, 1⟩
abbrev AUD_PORT_CFG_DELAY (i : Nat) : Fld := ⟨0x40 + 0x10 * i, 11, 1⟩
abbrev AUD_PORT_STATUS_STATE (i : Nat) : Fld := ⟨0x44 + 0x10 * i, 0, 2⟩
abbrev AUD_PORT_STAT_UNDERRUNS (i : Nat) : Fld := ⟨0x48 + 0x10 * i, 0, 16⟩
abbrev AUD_PORT_STAT_CLIPS (i : Nat) : Fld := ⟨0x48 + 0x10 * i, 16, 16⟩
abbrev AUD_STR_CFG_PORT (i : Nat) : Fld := ⟨0x100 + 0x10 * i, 0, 1⟩
abbrev AUD_STR_CFG_FMT (i : Nat) : Fld := ⟨0x100 + 0x10 * i, 1, 2⟩
abbrev AUD_STR_CFG_SLOTS (i : Nat) : Fld := ⟨0x100 + 0x10 * i, 8, 8⟩
abbrev AUD_STR_CTRL_STOP (i : Nat) : Fld := ⟨0x104 + 0x10 * i, 0, 1⟩
abbrev AUD_STR_STATUS_STATE (i : Nat) : Fld := ⟨0x108 + 0x10 * i, 0, 2⟩
abbrev AUD_STR_STATUS_PENDING (i : Nat) : Fld := ⟨0x108 + 0x10 * i, 2, 3⟩
abbrev AUD_STR_STATUS_CLASS (i : Nat) : Fld := ⟨0x108 + 0x10 * i, 8, 2⟩
abbrev AUD_STR_STATUS_DUCK (i : Nat) : Fld := ⟨0x108 + 0x10 * i, 16, 8⟩
abbrev AUD_STR_OWN_WORD (i : Nat) : Fld := ⟨0x10C + 0x10 * i, 0, 32⟩
abbrev ALM_CTRL_EN (i : Nat) : Fld := ⟨0x200 + 0x10 * i, 0, 1⟩
abbrev ALM_CTRL_WAVE (i : Nat) : Fld := ⟨0x200 + 0x10 * i, 1, 1⟩
abbrev ALM_CTRL_PORT (i : Nat) : Fld := ⟨0x200 + 0x10 * i, 2, 1⟩
abbrev ALM_CTRL_SECURE (i : Nat) : Fld := ⟨0x200 + 0x10 * i, 3, 1⟩
abbrev ALM_CTRL_SLOTS (i : Nat) : Fld := ⟨0x200 + 0x10 * i, 8, 8⟩
abbrev ALM_CTRL_LEVEL (i : Nat) : Fld := ⟨0x200 + 0x10 * i, 16, 8⟩
abbrev ALM_TONE_FREQ_HZ (i : Nat) : Fld := ⟨0x204 + 0x10 * i, 0, 14⟩
abbrev ALM_PATTERN_ON_MS (i : Nat) : Fld := ⟨0x208 + 0x10 * i, 0, 16⟩
abbrev ALM_PATTERN_OFF_MS (i : Nat) : Fld := ⟨0x208 + 0x10 * i, 16, 16⟩
abbrev AUD_DUCK_ATTEN : Fld := ⟨0x300, 0, 8⟩
abbrev AUD_DUCK_RAMP_MS : Fld := ⟨0x300, 8, 8⟩
abbrev AUD_DUCK_HOLD_MS : Fld := ⟨0x300, 16, 16⟩
/-! BIST -/
abbrev BIST_CMD_PAGE : Fld := ⟨0x40, 0, 8⟩
abbrev BIST_CMD_UNIT : Fld := ⟨0x40, 8, 8⟩
abbrev BIST_CMD_KIND : Fld := ⟨0x40, 16, 4⟩
abbrev BIST_CMD_ABORT : Fld := ⟨0x40, 30, 1⟩
abbrev BIST_CMD_GO : Fld := ⟨0x40, 31, 1⟩
abbrev BIST_STATUS_BUSY : Fld := ⟨0x44, 0, 1⟩
abbrev BIST_STATUS_STATE : Fld := ⟨0x44, 1, 2⟩
abbrev BIST_STATUS_RESULT : Fld := ⟨0x44, 8, 8⟩
abbrev BIST_DETAIL_DETAIL : Fld := ⟨0x48, 0, 32⟩
abbrev BIST_FAIL_SEL_INDEX : Fld := ⟨0x4C, 0, 4⟩
abbrev BIST_FAIL_ADDR_LO_ADDR : Fld := ⟨0x50, 0, 32⟩
abbrev BIST_FAIL_ADDR_HI_ADDR : Fld := ⟨0x54, 0, 32⟩
abbrev BIST_FAIL_INFO_POSITION : Fld := ⟨0x58, 0, 7⟩
abbrev BIST_FAIL_INFO_CHANNEL : Fld := ⟨0x58, 8, 3⟩
abbrev BIST_FAIL_INFO_COUNT : Fld := ⟨0x58, 16, 5⟩
abbrev BIST_SRAM_SEL_MACRO : Fld := ⟨0x5C, 0, 8⟩
abbrev BIST_SRAM_VIEW_FUSE_ROWS : Fld := ⟨0x60, 0, 3⟩
abbrev BIST_SRAM_VIEW_SOFT_ROWS : Fld := ⟨0x60, 3, 3⟩
abbrev BIST_SRAM_VIEW_COLS : Fld := ⟨0x60, 6, 2⟩
abbrev BIST_SRAM_VIEW_UNREPAIRABLE : Fld := ⟨0x60, 8, 1⟩
abbrev BIST_TG_CTRL_EN : Fld := ⟨0x70, 0, 1⟩
abbrev BIST_TG_CTRL_STREAMS : Fld := ⟨0x70, 4, 5⟩
abbrev BIST_TG_BASE_LO_ADDR : Fld := ⟨0x74, 0, 32⟩
abbrev BIST_TG_BASE_HI_ADDR : Fld := ⟨0x78, 0, 32⟩
abbrev BIST_TG_LEN_MIB : Fld := ⟨0x7C, 0, 16⟩
abbrev BIST_TG_MBPS_MBPS : Fld := ⟨0x80, 0, 18⟩
abbrev BIST_TG_MIN_MBPS : Fld := ⟨0x84, 0, 18⟩
abbrev BIST_CND_ROLE_ROLE0 : Fld := ⟨0x90, 0, 2⟩
abbrev BIST_CND_ROLE_ROLE1 : Fld := ⟨0x90, 2, 2⟩
abbrev BIST_CND_ROLE_ROLE2 : Fld := ⟨0x90, 4, 2⟩
abbrev BIST_CND_ROLE_ROLE3 : Fld := ⟨0x90, 6, 2⟩
abbrev BIST_CND_ROLE_ROLE4 : Fld := ⟨0x90, 8, 2⟩
abbrev BIST_CND_ROLE_ROLE5 : Fld := ⟨0x90, 10, 2⟩
abbrev BIST_CND_ROLE_ROLE6 : Fld := ⟨0x90, 12, 2⟩
abbrev BIST_CND_ROLE_ROLE7 : Fld := ⟨0x90, 14, 2⟩
abbrev BIST_CND_ROLE_ROLE8 : Fld := ⟨0x90, 16, 2⟩
abbrev BIST_CND_SUBST_CND : Fld := ⟨0x94, 0, 4⟩
abbrev BIST_CND_SUBST_GO : Fld := ⟨0x94, 8, 1⟩
abbrev BIST_CND_SUBST_PENDING : Fld := ⟨0x94, 9, 1⟩
abbrev BIST_CND_SUBST_RESULT : Fld := ⟨0x94, 16, 8⟩
abbrev BIST_CND_VER_VERSION : Fld := ⟨0x98, 0, 16⟩
abbrev BIST_UPD_SRC_LO_ADDR : Fld := ⟨0x9C, 0, 32⟩
abbrev BIST_UPD_SRC_HI_ADDR : Fld := ⟨0xA0, 0, 32⟩
abbrev BIST_UPD_CTRL_KIND : Fld := ⟨0xA4, 0, 3⟩
abbrev BIST_UPD_CTRL_CND : Fld := ⟨0xA4, 8, 4⟩
abbrev BIST_UPD_CTRL_RESULT : Fld := ⟨0xA4, 16, 8⟩
abbrev BIST_UPD_CTRL_GO : Fld := ⟨0xA4, 31, 1⟩
/-! QSPI -/
abbrev QSPI_STATUS_CHECK_A : Fld := ⟨0x40, 0, 4⟩
abbrev QSPI_STATUS_CHECK_B : Fld := ⟨0x40, 4, 4⟩
abbrev QSPI_SEQ_SEQUENCE : Fld := ⟨0x44, 0, 32⟩
abbrev QSPI_APPLY_ERR_COUNT : Fld := ⟨0x48, 0, 16⟩
abbrev QSPI_APPLY_ERR_FIRST : Fld := ⟨0x48, 16, 16⟩
abbrev QSPI_CTRL_NW_WRITE_OK : Fld := ⟨0x4C, 0, 1⟩
abbrev QSPI_OP_OP : Fld := ⟨0x50, 0, 2⟩
abbrev QSPI_OP_LEN : Fld := ⟨0x50, 8, 9⟩
abbrev QSPI_OP_GO : Fld := ⟨0x50, 31, 1⟩
abbrev QSPI_ADDR_ADDR : Fld := ⟨0x54, 0, 25⟩
abbrev QSPI_OP_STATUS_BUSY : Fld := ⟨0x58, 0, 1⟩
abbrev QSPI_OP_STATUS_RESULT : Fld := ⟨0x58, 8, 8⟩
abbrev QSPI_DATA_DATA (i : Nat) : Fld := ⟨0x100 + 0x4 * i, 0, 32⟩
/-! MON -/
abbrev MON_STATUS_TJ : Fld := ⟨0x40, 0, 8⟩
abbrev MON_STATUS_ALERT : Fld := ⟨0x40, 8, 1⟩
abbrev MON_STATUS_TRIPPED : Fld := ⟨0x40, 9, 1⟩
abbrev MON_STATUS_BANK_BAD : Fld := ⟨0x40, 10, 5⟩
abbrev MON_STATUS_RAIL_OUT : Fld := ⟨0x40, 16, 13⟩
abbrev MON_TEMP_CFG_ALERT : Fld := ⟨0x44, 0, 8⟩
abbrev MON_TEMP_CFG_HYST : Fld := ⟨0x44, 8, 4⟩
abbrev MON_TEMP_TEMP (i : Nat) : Fld := ⟨0x80 + 0x4 * i, 0, 8⟩
abbrev MON_TEMP_MAX (i : Nat) : Fld := ⟨0x80 + 0x4 * i, 8, 8⟩
abbrev MON_RAIL_MV (i : Nat) : Fld := ⟨0x100 + 0x4 * i, 0, 13⟩
abbrev MON_RAIL_LOW (i : Nat) : Fld := ⟨0x100 + 0x4 * i, 13, 1⟩
abbrev MON_RAIL_HIGH (i : Nat) : Fld := ⟨0x100 + 0x4 * i, 14, 1⟩
abbrev MON_RAIL_FAULTS (i : Nat) : Fld := ⟨0x100 + 0x4 * i, 16, 16⟩
/-! GPIO -/
abbrev GPIO_DIR_OUT : Fld := ⟨0x40, 0, 32⟩
abbrev GPIO_OUT_LEVEL : Fld := ⟨0x44, 0, 32⟩
abbrev GPIO_IN_LEVEL : Fld := ⟨0x48, 0, 32⟩
abbrev GPIO_PULL_PULL0 : Fld := ⟨0x4C, 0, 2⟩
abbrev GPIO_PULL_PULL1 : Fld := ⟨0x4C, 2, 2⟩
abbrev GPIO_PULL_PULL2 : Fld := ⟨0x4C, 4, 2⟩
abbrev GPIO_PULL_PULL3 : Fld := ⟨0x4C, 6, 2⟩
abbrev GPIO_PULL_PULL4 : Fld := ⟨0x4C, 8, 2⟩
abbrev GPIO_PULL_PULL5 : Fld := ⟨0x4C, 10, 2⟩
abbrev GPIO_PULL_PULL6 : Fld := ⟨0x4C, 12, 2⟩
abbrev GPIO_PULL_PULL7 : Fld := ⟨0x4C, 14, 2⟩
abbrev GPIO_PULL_PULL8 : Fld := ⟨0x4C, 16, 2⟩
abbrev GPIO_PULL_PULL9 : Fld := ⟨0x4C, 18, 2⟩
abbrev GPIO_PULL_PULL10 : Fld := ⟨0x4C, 20, 2⟩
abbrev GPIO_PULL_PULL11 : Fld := ⟨0x4C, 22, 2⟩
abbrev GPIO_PULL_PULL12 : Fld := ⟨0x4C, 24, 2⟩
abbrev GPIO_PULL_PULL13 : Fld := ⟨0x4C, 26, 2⟩
abbrev GPIO_PULL_PULL14 : Fld := ⟨0x4C, 28, 2⟩
abbrev GPIO_PULL_PULL15 : Fld := ⟨0x4C, 30, 2⟩
abbrev GPIO_PULL_HI_PULL0 : Fld := ⟨0x50, 0, 2⟩
abbrev GPIO_PULL_HI_PULL1 : Fld := ⟨0x50, 2, 2⟩
abbrev GPIO_PULL_HI_PULL2 : Fld := ⟨0x50, 4, 2⟩
abbrev GPIO_PULL_HI_PULL3 : Fld := ⟨0x50, 6, 2⟩
abbrev GPIO_PULL_HI_PULL4 : Fld := ⟨0x50, 8, 2⟩
abbrev GPIO_PULL_HI_PULL5 : Fld := ⟨0x50, 10, 2⟩
abbrev GPIO_PULL_HI_PULL6 : Fld := ⟨0x50, 12, 2⟩
abbrev GPIO_PULL_HI_PULL7 : Fld := ⟨0x50, 14, 2⟩
abbrev GPIO_PULL_HI_PULL8 : Fld := ⟨0x50, 16, 2⟩
abbrev GPIO_PULL_HI_PULL9 : Fld := ⟨0x50, 18, 2⟩
abbrev GPIO_PULL_HI_PULL10 : Fld := ⟨0x50, 20, 2⟩
abbrev GPIO_PULL_HI_PULL11 : Fld := ⟨0x50, 22, 2⟩
abbrev GPIO_PULL_HI_PULL12 : Fld := ⟨0x50, 24, 2⟩
abbrev GPIO_PULL_HI_PULL13 : Fld := ⟨0x50, 26, 2⟩
abbrev GPIO_PULL_HI_PULL14 : Fld := ⟨0x50, 28, 2⟩
abbrev GPIO_PULL_HI_PULL15 : Fld := ⟨0x50, 30, 2⟩
abbrev GPIO_EDGE_EN_RISE : Fld := ⟨0x54, 0, 32⟩
abbrev GPIO_EDGE_EN_F_FALL : Fld := ⟨0x58, 0, 32⟩
abbrev GPIO_OWN_WORD (i : Nat) : Fld := ⟨0x80 + 0x4 * i, 0, 32⟩

end Sys2Proof.Machine.R
end

