-- ==== Sys2Proof/Machine/State.lean ====
section
/-! DEFINITION. The state of the block: plain data.  Every register software can see, page headers and window registers
included, lives in `State.regs`, keyed by its BAR 0 offset (R51) or, for BAR 2 windows, by `winBase` plus its offset;
an offset that is not listed reads its reset value.  The other fields are the state the manual describes beside registers. -/

namespace Sys2Proof.Machine

open Sys2Proof

/-- No command of the model ends in a fault: the block never hangs (R13). -/
inductive Fault where
  /-- Raised by nothing; it stands here because the interface asks for a type of faults.  Safe. -/
  | none
  deriving DecidableEq, Repr

/-- Why the model has no meaning for a command. -/
inductive Refusal where
  /-- Raised by `exec` for a command whose meaning is not written.  Safe. -/
  | notModelled (mnemonic : String)
  deriving DecidableEq, Repr

/-- A half-open rectangle (R12). -/
structure Rect where
  x0 : Nat := 0
  y0 : Nat := 0
  x1 : Nat := 0
  y1 : Nat := 0
  deriving DecidableEq, Repr

/-- An entry of the Surface Descriptor Table (R83); STATE is coded as in word 2. -/
structure Sdt where
  base : Nat := 0          -- BASE, bytes (R83)
  format : Nat := 0        -- FORMAT (R89)
  state : Nat := 0         -- 0 FREE, 1 ALLOCATED, 2 LIVE, 3 RETIRING (R92)
  secure : Bool := false   -- WORLD (R85)
  inst : Nat := 0          -- INSTANCE (R83)
  width : Nat := 0         -- WIDTH (R90)
  height : Nat := 0        -- HEIGHT (R90)
  stride : Nat := 0        -- STRIDE (R90)
  gen : Nat := 0           -- GEN (R84, R94)
  ct : Nat := 0            -- CONTENT_TIME (R109)
  seq : Nat := 0           -- SEQ (R109)
  lastRead : FMap Nat := []  -- per head, the last frame that read the surface (R93, R103)
  leftAt : FMap Nat := []  -- per head, when that frame's last active line left the raster (R93, R103)
  torn : Bool := false     -- a device write has reached its footprint while it was RETIRING (R158)
  retCmd : Option Nat := none  -- the RETIRE_SURFACE command in progress that retires it (R97)
  deriving DecidableEq, Repr

/-- The settings of a plane (R107) and the surface it shows. -/
structure PlaneCfg where
  enable : Bool := false
  static : Bool := false
  alpha : Nat := 0         -- ALPHA_MODE (R135)
  keyEn : Bool := false
  z : Nat := 0
  dst : Rect := {}
  src : Rect := {}
  galpha : Nat := 0
  csc : Nat := 0
  key : Nat := 0
  surf : Option Nat := none  -- SDT index of the bound surface (R109)
  deriving DecidableEq, Repr

/-- A flip staged by FLIP with HOLD (R111): its owner (an instance, or 256 for the secure world), the settings and the surface it
will commit, and its content time. -/
structure Held where
  owner : Nat
  cfg : PlaneCfg
  ct : Nat
  wall : Bool := false       -- released by FLIP_WALL into the wall vote (R111)
  voted : Option Nat := none -- round of the COMMIT that has come for it (R256)
  deriving DecidableEq, Repr

/-- A commit of a plane not yet applied (R110, R186): when it was made, the settings, and whether it holds a flip with its
content time. -/
structure PlCommit where
  at_ : Nat
  cfg : PlaneCfg
  flip : Bool
  ct : Nat
  deriving DecidableEq, Repr

/-- A plane of a head (R106): the active state, the committed shadow, the settings staged by SET_PLANE, the held flips, and the
commits not yet applied, oldest first. -/
structure Plane where
  act : PlaneCfg := {}       -- active state (R126)
  com : PlaneCfg := {}       -- committed shadow (R110)
  stg : Option PlaneCfg := none  -- settings staged by SET_PLANE without APPLY (R108)
  held : List Held := []     -- held flips, oldest first (R111)
  queue : List PlCommit := []  -- commits not yet applied (R110)
  ct : Nat := 0              -- content time of the plane (R202)
  hasCt : Bool := false      -- whether a FLIP ever applied to the plane (R203)
  changed : Nat := 0         -- frame in which the active state last changed (VIEW[7], R148)
  deriving DecidableEq, Repr

/-- A tile of the Arcade (R149): the state, the slot it holds, the oldest content time and the planes in it. -/
structure Tile where
  valid : Bool := false      -- VALID, else CAPTURING; EMPTY tiles are not listed (R149)
  slot : Nat := 0            -- SRAM slots 0 to 1535, then normal spill slots from 65536, secure spill slots from 131072 (R153)
  bad : Bool := false        -- a late span, an error-coloured pixel or a tile error fell in it (R149)
  rows : NSet := []          -- lines of the tile written so far (R149)
  ct : Option Nat := none    -- oldest content time (R152)
  planes : NSet := []        -- flatten-set planes that cover it (R203)
  pix : FMap Nat := []       -- stored pixel words by offset in the tile (R147)
  deriving DecidableEq, Repr

/-- What a head's island holds beside its registers (chapter 05). -/
structure Head where
  enterAt : Nat := 0         -- entry to LOCKING or RELOCK (R182)
  good : Nat := 0            -- consecutive aligned frame starts within ±4 pixel periods (R181)
  bad : Nat := 0             -- consecutive aligned frame starts beyond 64 pixel periods (R181)
  black : Nat := 0           -- full black frames sent since RELOCK began (R170)
  barred : NSet := []        -- sources treated as absent after LOCK_TIMEOUT (R182)
  frameAt : Nat := 0         -- WALLTIME of the last frame start sent (R168)
  sending : Bool := false    -- frames are being sent (R170)
  blackFrame : Bool := false -- the present frame is sent black (R172)
  oldMode : Nat := 0         -- MODE_ID + BPC × 0x100 in force before a change (R190)
  modeChanged : Bool := false  -- MODE_CHANGED is due at the first counted frame (R190)
  commits : Nat := 0         -- commits applied at the last vertical blank (R198)
  flips : Bool := false      -- a commit that changes plane or page state applied there (R189)
  lines : Nat := 0           -- lines of the present frame as it will be sent (R198)
  slipDone : Nat := 0        -- lines SLIP realignment has added so far (R184)
  slipFrames : Nat := 0      -- frames taken so far (R184)
  settled : Bool := false    -- with FREE in use, the PLL has settled (R170)
  relockDue : Bool := false  -- RELOCK at the next vertical blank (R185, R190)
  goRun : Bool := false      -- RUN at the next frame start, commits having applied (R170)
  showMode : Nat := 0        -- device mode taken at the last vertical blank, which the frame shows (R33, R34)
  sent : Bool := false       -- the present frame is sent on the link (R271)
  pulling : Bool := false    -- SLIP realignment has less than a line left, which the PLL pulls (R184)
  keptLock : Bool := false   -- lock is declared at the next aligned frame start, having been held through SERVICE (R170)
  wasLocked : Bool := false  -- the PLL held lock through SERVICE (R170)
  hoBlank : Bool := false    -- the vertical blank that starts HANDOVER has passed (R341)
  flush : Bool := false      -- ARC_CTRL.FLUSH waits for the vertical blank (R150)
  release : NSet := []       -- regions released by AGE_RELEASE at the next frame start (R214)
  minAhead : Nat := 34       -- fewest lines ahead so far in this frame (AVE_LBUF_STAT)
  urgentLines : Nat := 0     -- lines of this frame with urgent reads (AVE_LBUF_STAT)
  lateLines : NSet := []     -- lines of this frame with a late span (PLZ_ACCT_LATE)
  errors : Nat := 0          -- lasting fetch errors in this frame (PLZ_ACCT_LATE)
  blocks : FMap Nat := []    -- blocks read per plane in this frame (PLZ_ACCT_PLANE)
  arcHits : Nat := 0         -- tiles served from SRAM in this frame (ARC_STAT)
  arcSpill : Nat := 0        -- tiles served from spill in this frame (ARC_STAT)
  captures : Nat := 0        -- tiles that became VALID (ARC_STAT)
  invalidated : Nat := 0     -- tiles made EMPTY (ARC_STAT)
  acct : List Nat := []      -- accounting of the last completed frame: frame, lines, errors, then 16 plane counts
  bgSince : Nat := 0         -- frame in which PLZ_BG last changed (R148)
  deriving DecidableEq, Repr

/-- A sync source as one head sees it (R176). -/
structure Sync where
  last : Option Nat := none  -- last active edge
  ivs : List Nat := []       -- the last four intervals, newest first, ns
  expect : Nat := 0          -- interval at which the source qualified, ns
  since : Nat := 0           -- since when it is present (R178)
  deriving DecidableEq, Repr

/-- A safety region's run-time state (chapter 06). -/
structure Region where
  stale : Bool := false      -- stale flag (R206)
  sig : Nat := 0             -- SIG_STATE: 0 MATCHING, 1 SUSPECT, 2 MISMATCHED, 3 LATCHED (R214)
  blankHead : Bool := false  -- latched with ACTION BLANK_HEAD (R215)
  armed : Bool := false      -- the latch acts: a frame has started since (R215)
  outOfArea : Bool := false  -- OUT_OF_AREA (R200)
  ct : Option Nat := none    -- content time fixed for the frame (R203)
  plane : Nat := 0           -- OLDEST_PLANE (R203)
  inst : Option Nat := none  -- OLDEST_INST (R207)
  checked : Bool := false    -- checked in the present frame (R200)
  subst : Bool := false      -- a pixel of it was substituted in the present frame (R213)
  crc : Nat := 0xFFFFFFFF    -- running CRC of the present frame (R211)
  ageUs : Nat := 0           -- age computed in the present frame (R205)
  glass : Nat := 0           -- glass time of the present frame (R210)
  noContent : Bool := false  -- NO_CONTENT (R204)
  -- results of the last checked frame (R220)
  vFrame : Nat := 0
  vCt : Nat := 0
  vGlass : Nat := 0
  vAge : Nat := 0
  vMatch : Bool := false
  vSubst : Bool := false
  vSig : Nat := 0
  vStale : Bool := false
  vPlane : Nat := 0
  vInst : Option Nat := none
  staleFrames : Nat := 0     -- AGE_VIEW_STALE_FRAMES
  transient : Nat := 0       -- AGE_VIEW_SIG_COUNTS.TRANSIENT
  lasting : Nat := 0         -- AGE_VIEW_SIG_COUNTS.LASTING
  deriving DecidableEq, Repr

/-- What a list is doing (R96, R112, R317). -/
inductive ListSt where
  | idle                     -- no list of the ring is running
  | running
  | wait                     -- at a command it waits for; `ListRun.wait` names it
  | aside                    -- the wait is set aside; the deadline holds the time that remains (R317)
  deriving DecidableEq, Repr

/-- What a waiting list waits for (R97, R112, R118, R119). -/
inductive WaitFor where
  | nothing
  | frame (h target : Nat)
  | time (target : Nat)
  | fence (key value : Nat)
  | command (id : Nat)       -- a command of the list in progress (SYNC, or Always)
  | gatehouse (service : Nat) -- a vendor service not yet answered (R337)
  | call (reqId : Nat)       -- a customer service call (R333)
  | handover (blk : Nat)     -- a vendor hand-over in progress (R337)
  deriving DecidableEq, Repr

/-- The list of one submit ring (R304): 4 × instance + ring, or 1024 + ring for the secure rings (R330). -/
structure ListRun where
  st : ListSt := .idle
  serial : Nat := 0          -- number of the list, so that its commands know it: the model's own
  cnd : Nat := 0             -- the Conductor that runs it (R96)
  startAt : Nat := 0         -- when it was taken (R307)
  words : List Word := []    -- the list's words (R95)
  tag : Nat := 0             -- TAG of its slot (R303)
  pc : Nat := 0              -- word index of the next command (R95)
  idx : Nat := 0             -- word index of the command waited for
  wait : WaitFor := .nothing
  deadline : Option Nat := none  -- when a wait times out (R112)
  result : Nat := 0          -- result kept while the instance is suspended (R336)
  resume : Option Nat := none  -- a completion kept for RESUME: its status (R336)
  deriving DecidableEq, Repr

/-- A command that has executed and not completed (R97). -/
structure Cmd where
  q : Nat := 0               -- ring of its list
  serial : Nat := 0          -- its list's number
  cnd : Nat := 0             -- Conductor
  idx : Nat := 0             -- word index of its header
  op : Nat := 0              -- OPCODE
  tag : Nat := 0             -- TAG of its list
  notify : Bool := false     -- NOTIFY (R103)
  key : Nat := 0             -- head × 16 + plane, region, channel or stream
  surf : Nat := 0            -- destination SDT index (R114); the region of SET_REGION_AGE
  base : Nat := 0            -- address of the first destination byte (R114)
  stride : Nat := 0          -- bytes from one destination line to the next
  row : Nat := 0             -- destination bytes of a line
  total : Nat := 0           -- destination bytes of the command
  done : Nat := 0            -- destination bytes written so far (R307)
  data : List Byte := []     -- source bytes of COPY_RECT, pixel bytes of FILL (R114)
  host : Nat := 0            -- host address of UPLOAD (R114)
  pitch : Nat := 0           -- SRC_PITCH (R114)
  phase : Nat := 0           -- plane commands: 0 committed, 1 held, 2 released into the wall vote, 3 staged (R108, R110, R111); 4, 5 see `res`
  at_ : Nat := 0             -- when its commit was made (R186)
  res : Nat := 0             -- phase 4: its result, its bytes written and some of the writes waiting (R97); phase 5: the round of its COMMIT (R256)
  deriving DecidableEq, Repr

/-- A call of a service, whose DEADLINE stands while it is set aside (R336). -/
def WaitFor.isCall : WaitFor → Bool
  | .call _ | .gatehouse _ | .handover _ => true
  | _ => false

/-- A call of a customer service (R333). -/
structure Call where
  q : Nat := 0               -- ring of the calling list
  slot : Nat := 0            -- slot of the service ring
  service : Nat := 0
  argLen : Nat := 0
  arg : Nat := 0             -- address of the guest's argument block
  deadline : Nat := 0
  open_ : Bool := true       -- waiting for a reply
  replied : Option (Nat × Nat) := none  -- a reply that arrived while suspended: status, value (R336)
  deriving DecidableEq, Repr

/-- What an instance holds beside its table entry and window registers (chapter 09). -/
structure Inst where
  resetAt : Nat := 0         -- when RESETTING was entered (R313)
  suspending : Bool := false -- SUSPEND given, SUSPENDED not yet entered (R317)
  holds : Bool := false      -- its reservation is held (R309)
  fitSince : Option Nat := none  -- since when free capacity covers a withdrawn reservation (R311)
  lostAt : Nat := 0          -- WALLTIME of the first record lost from its event ring (R305)
  heldRecs : List (List Word) := []  -- records held while the PCIe link is down (R295)
  cndDeficit : Int := 0      -- Conductor deficit, ns (R307)
  dmaDeficit : Int := 0      -- DMA deficit, bytes (R307)
  share : Nat := 0           -- SHARE as the present round took it (R308)
  exporting : Bool := false  -- an EXPORT is in progress (R318)
  importing : Bool := false  -- an IMPORT is in progress (R318)
  ctxAt : Nat := 0           -- the address of its context (R318)
  deriving DecidableEq, Repr

/-- The migration copy in progress, as MIG_CMD.GO found its registers (R319). -/
structure Mig where
  mode : Nat := 0            -- 0 DRAM to host, 1 host to DRAM, 2 snapshot
  inst : Nat := 0
  dram : Nat := 0            -- device address of what is copied
  host : Nat := 0
  len : Nat := 0             -- bytes
  moved : Nat := 0           -- bytes moved so far, in chunks (R319)
  deriving DecidableEq, Repr

/-- A hand-over in progress (R339 to R341). -/
structure Handover where
  toSecure : Bool := false
  scrubbing : Bool := false
  oldSecure : Bool := false
  oldInst : Nat := 0
  oldInstValid : Bool := false
  fromCmd : Bool := false    -- started by SEC_HO_CMD
  q : Option Nat := none     -- the list whose MCALL started it
  deriving DecidableEq, Repr

/-- An entry of a group's write buffer (R359): the bytes present, by offset in the block. -/
structure WbEntry where
  bytes : FMap Byte := []
  normal : Bool := false     -- an agent that is not secure has written to it (R350)
  deriving DecidableEq, Repr

/-- An access to a companion page that waits while the die-to-die link retrains (R17). -/
inductive HeldAcc where
  | write (port : Port) (off be : Nat) (v : Word)  -- a register write
  | smp (frame : List Byte) (limit : Nat)          -- a request of the secure management port (R498)
  | mailbox (sec put : Bool) (off cnt : Nat) (ws : List Word)  -- a mailbox request that this unit serves to itself (R249)
  | message (m : List Byte)                        -- a management message (R250)
  | debug (op : DbgOp)                             -- a debug access (R349)
  deriving DecidableEq, Repr

/-- Who makes a device write to DRAM: the command in progress whose bytes they are (R97), the instance for which it is made (R299,
R313), whether a migration copy makes it (R319), whether the write is marked in a dirty bitmap (R316),
and whether a secure agent makes it (R350). -/
structure Writer where
  cmd : Option Nat := none
  inst : Option Nat := none
  mig : Bool := false
  marks : Bool := false
  sec : Bool := false
  stalled : Bool := false
  deriving DecidableEq, Repr

/-- A write that waits for a free write-buffer entry or a free page fill (R359, R391). -/
structure WWait where
  addr : Nat
  data : List Byte
  by_ : Writer := {}
  deriving DecidableEq, Repr

/-- What a command has brought about and is settled at its end. -/
inductive Deferred where
  | ring (i a : Nat)                                  -- an event ring write of instance i that could not be issued (R293)
  | log (i a : Nat)                                   -- a log write of instance i that could not be issued (R293, R315)
  | logFull (i : Nat)                                 -- LOG_OVF has been set (R315)
  | blocked (agent inst : Option Nat) (a : Nat)       -- an access that the DRAM watermark blocked, by requester code (R325)
  | beyond (a n : Nat)                                -- an access that reached the capacity (R355)
  | landed (id : Nat)                                 -- the last waiting write of a command entered the buffer (R97, R359)
  deriving DecidableEq, Repr

/-- A page being filled (R391): the blocks of it already written. -/
structure Fill where
  page : Nat
  deriving DecidableEq, Repr

/-- What a memory group holds beside its registers (chapter 11). -/
structure MemGrp where
  owed : List Nat := []      -- owed refreshes, oldest first, by bank pair (R367)
  pulled : List Nat := []    -- refreshes pulled in, by bank pair (R368)
  nextPair : Nat := 0        -- bank pair of the next refresh that falls due (R365)
  refAt : Option Nat := none -- when a refresh last fell due (R365)
  outAt : Option Nat := none -- when an owed refresh was last issued (R367)
  mr4At : Option Nat := none -- when mode register 4 was last read (R366)
  stepLast : Option Nat := none -- when a retraining step last fell due (R370)
  forced : Bool := false     -- the oldest owed refresh is at rank 1 (R367)
  idleDrain : Bool := false  -- an idle drain runs (R360)
  cool : Nat := 0            -- consecutive reads below the threshold (R366)
  nrange : Nat := 0          -- consecutive reads with no channel over twice the base rate (R366)
  stepDue : Bool := false    -- a retraining step is due (R370)
  stepAt : Nat := 0          -- when it fell due (R370)
  stepForced : Bool := false -- it has moved to rank 1 (R370)
  stepRuns : Bool := false   -- a retraining step runs (R370)
  svcRuns : Option Nat := none -- the SERVICE action that runs (R375)
  reqSp : Nat := 0           -- set point of the request in progress or pending (R371)
  deriving DecidableEq, Repr

/-- An entry of a Sweeper log (R399), coded as SWP_LOG_INFO. -/
structure LogEnt where
  state : Nat := 0           -- 0 FREE, 1 COUNTING, 2 REWRITTEN, 3 LASTING, 4 UNCORR
  addr : Nat := 0
  count : Nat := 0
  channel : Nat := 0
  position : Nat := 0
  marked : Bool := false
  repair : Nat := 0
  at_ : Nat := 0             -- WALLTIME of the last correction or failure
  queued : Bool := false     -- a scrub rewrite is queued
  queuedAt : Nat := 0        -- since when (R399)
  urgent : Bool := false     -- it has moved to rank 4
  deriving DecidableEq, Repr

/-- What a Sweeper holds beside its registers (R394 to R396). -/
structure Sweep where
  lapAt : Nat := 0           -- start of the lap (R396)
  slow : Bool := false       -- LAP_SLOW was raised in this lap
  deriving DecidableEq, Repr

/-- A block read that is made a second time (R71, R387). -/
structure Retry where
  req : MemReq
  blk : Nat
  words : List Nat           -- words uncorrectable on the first attempt
  poison : List Nat          -- words poisoned on the first attempt
  cancelled : Bool := false  -- its group has entered SERVICE, TEST, OFF or INIT since (R73)
  deriving DecidableEq, Repr

/-- The range pass (R397, R398). -/
structure Range where
  startAt : Nat := 0
  stop : Nat := 0                -- END of the pass in progress, in bytes
  next : List (Nat × Nat) := []  -- the block from which each group reads on
  readAt : List (Nat × Nat) := []  -- when each group last issued a block
  deriving DecidableEq, Repr

/-- A chain port (chapter 07). -/
structure ChPort where
  signal : Bool := false     -- signal is present (R226)
  peerId : Option Nat := none      -- unit ID of the last TRAIN message (R227)
  peerMaster : Option Nat := none  -- the master it names (R227)
  peerHops : Option Nat := none    -- its hop count; none: no path to a master (R227)
  peerDown : Bool := false   -- whether the peer takes the link as DOWNSTREAM (R227)
  since : Nat := 0           -- when the port entered its state (R226)
  retry : Option Nat := none -- when a port that failed to align may train again (R226)
  sent : Option (Option (Nat × Nat)) := none  -- the last TRAIN message sent: master and hop count, if the unit has a path (R227)
  txSeq : Nat := 0           -- LSEQ of the next message sent (R237)
  rxSeq : Option Nat := none -- LSEQ of the last good message received (R239)
  unacked : List (List Byte × Bool) := []  -- messages sent and not answered, and whether retransmitted (R239)
  reach : FMap Nat := []     -- addresses learned through the port, with hops (R236)
  probe : Option Int := none -- t1 of the delay probe in flight, in 10 ps (R240)
  deriving DecidableEq, Repr

/-- A scheduled chain mark (R245, R246). -/
structure Mark where
  seq : Nat
  time : Nat
  restart : Bool := false
  deriving DecidableEq, Repr

/-- A member as the master's table holds it (R252 to R257). -/
structure Member where
  present : Bool := false
  excluded : Bool := false
  ready : Option Nat := none -- TAG of its standing READY
  misses : Nat := 0          -- consecutive DEFERs blamed on it (R257)
  deriving DecidableEq, Repr

/-- A coherence group as the master holds it. -/
structure Group where
  mem : FMap Member := []    -- by MEMBER number (R237)
  defers : Nat := 0          -- consecutive DEFERs (CHN_WALL_VIEW1)
  last : Option (Nat × Nat) := none  -- last committed round and its tag (R260)
  voted : Option Nat := none -- last round voted (R255)
  deriving DecidableEq, Repr

/-- What a head of this unit holds for its group (R254 to R261). -/
structure HeadWall where
  ready : Option (Nat × Nat) := none   -- group and TAG of the standing READY
  owner : Nat := 256         -- the list owner whose held flips it releases
  commits : List (Nat × Bool) := []  -- rounds of COMMITs received, and whether mark N + 1 has been fired (R256)
  silent : Nat := 0          -- marks since the group was last named (R261)
  joined : Bool := false     -- JOIN has been sent for the present membership (R252, R253)
  excl : NSet := []          -- groups in which the head is excluded (R258)
  deriving DecidableEq, Repr

/-- What a link layer sends while it trains (R269): a DPCD write, or a training pattern sequence. -/
inductive LinkOut where
  | dpcd (head addr value : Nat)
  | tps (head n : Nat)
  deriving DecidableEq, Repr

/-- What a DisplayPort link layer holds beside its registers (chapter 08). -/
structure Dp where
  hpdLow : Bool := true      -- HPD has been low for more than 2 ms (R280)
  failAt : Nat := 0          -- entry to FAILED (R268)
  irq : Option (List Byte) := none  -- an IRQ_HPD held until the step or the training ends, with DPCD 0x200 to 0x205 (R278)
  cfgs : List (Nat × Nat) := []  -- configurations of this training, from the present one: rate code and lanes (R267)
  tried : Nat := 0           -- configurations tried
  searched : Bool := false   -- the polarity search has run in this training (R272)
  trainAt : Nat := 0         -- start of the training
  terms : Nat := 0           -- physical lanes that sensed termination when last sensed (R282)
  bistOpen : Nat := 0        -- lanes held open by the self-test (R460)
  capsKnown : Bool := false  -- a sink has been read since RESET_N (R266)
  capsFails : Nat := 0       -- consecutive capability reads that failed with no lane terminated (R280)
  stuckSince : Option Nat := none  -- since when lanes 0 and 1 sense termination with HPD low (R280)
  vddFell : Option Nat := none  -- when VDD_EN last fell (R284)
  panelAt : Nat := 0         -- entry to the panel state (R284)
  firstFrame : Option Nat := none  -- first frame sent since VIDEO_WAIT (R284)
  swErr : Bool := false      -- the software request has had a transaction error (R276)
  swDefers : Nat := 0        -- DEFERs of the software request (R276)
  swWait : Bool := false     -- it waits 400 µs after a DEFER (R276)
  llErr : Bool := false      -- the same of the link layer's transaction
  llDefers : Nat := 0
  llWait : Bool := false
  auxShort : Bool := false   -- the AUX common mode is abnormal (R281)
  deriving DecidableEq, Repr
/-- A capacitive baseline (R417 to R420) with its last raw count, keyed by electrode or by 1024 + TX × 32 + RX. -/
structure Base where
  raw : Nat := 0
  val : Nat := 0
  prov : Bool := false       -- provisional (R419)
  stored : Bool := false     -- taken from a stored or held baseline (R419)
  neg : Nat := 0             -- consecutive cycles with the delta at or below −NEG_THR (R418)
  deriving DecidableEq, Repr

/-- An electrode's condition: 0 in range, 1 open, 2 shorted, and for how many consecutive cycles (R421). -/
structure Elec where
  cond : Nat := 0
  n : Nat := 0
  deriving DecidableEq, Repr

/-- A touch object's counts (R415). -/
structure TchObj where
  agree : Nat := 0           -- consecutive cycles with agreement
  water : Nat := 0           -- consecutive cycles with water
  off : Nat := 0             -- consecutive cycles below the release level
  since : Nat := 0           -- entry to TOUCHED
  start : Nat := 0           -- agreement in each of the first cycles since scanning started (R419)
  deriving DecidableEq, Repr

/-- The capacitive front end (chapter 13). -/
structure Touch where
  inCycle : Bool := false    -- a scan cycle is in progress
  startAt : Nat := 0         -- start of the last cycle (R411)
  n : Nat := 0               -- cycles ended since scanning started (R419)
  idle : Option Nat := none  -- end of the cycle since which no object is TOUCHED or a candidate (R411)
  enter : Nat := 0           -- consecutive quiet scans at or above ENTER (R412)
  exit_ : Nat := 0           -- consecutive quiet scans below EXIT (R412)
  track : Nat := 0           -- cycles since the last tracking step (R417)
  keep : Bool := false       -- the baselines held when scanning stopped serve as stored ones (R427)
  recal : Nat := 0           -- cycles of a recalibration still to come (R429)
  sums : FMap Nat := []      -- raw counts summed in it
  dropped : Nat := 0         -- reports dropped in this loss of the die-to-die link (R425)
  held : Bool := false       -- SERVICE holds scanning stopped (R429)
  deriving DecidableEq, Repr

/-- A haptic trigger that waits: its slot, the HAPTIC_PLAY that made it, its start (R433, R437). -/
structure HapTrig where
  slot : Nat
  cmd : Option Nat := none
  start : Nat := 0
  deriving DecidableEq, Repr

/-- A haptic channel beside its registers (chapter 14). -/
structure HapCh where
  queued : Option HapTrig := none  -- queued trigger (R433)
  timed : Option HapTrig := none   -- pending timed start (R437)
  phaseAt : Nat := 0         -- start of the running phase
  drive : Bool := false      -- the phase drives a level that is not 0 (R435)
  full : Option Nat := none  -- since when it drives 1,000 mV or more without a break (R436)
  hist : List (Nat × Nat) := []  -- past drive intervals (R435)
  stall : Nat := 0           -- consecutive samples below 10 % (R436)
  rev : Nat := 0             -- consecutive samples of the wrong sign (R436)
  thenFault : Bool := false  -- FAULT follows the brake, after a stall (R433)
  swapNext : Bool := false   -- POL_SWAP toggles from the next effect (R436)
  deriving DecidableEq, Repr

/-- A cue (R440, R441). -/
structure Cue where
  cmd : Option Nat := none   -- its AUDIO_CUE, not yet completed
  addr : Nat := 0
  len : Nat := 0
  gain : Nat := 0
  loop : Bool := false
  timed : Bool := false
  start : Nat := 0
  late : Bool := false       -- its START had passed, or the port had no clock when it fell due (R441, R446)
  ready : Bool := false      -- its first 4 KiB have been read (R440)
  begun : Nat := 0           -- WALLTIME of its first frame
  zeroed : Nat := 0          -- samples zeroed
  under : Bool := false      -- UNDERRUN has been raised
  owner : Nat := 256         -- instance, 256 the secure world
  deriving DecidableEq, Repr

/-- An audio stream (chapter 14). -/
structure Strm where
  play : Option Cue := none
  pend : List Cue := []      -- pending timed cues, oldest first, and a cue that starts at the next frame
  stopAt : Bool := false     -- the playing cue ends at the next frame (R441)
  duckFrom : Nat := 0        -- attenuation when the present ramp began, in 0.5 dB (R443)
  duckTo : Nat := 0
  duckAt : Nat := 0
  duckHold : Option Nat := none  -- release of the duck (R443)
  deriving DecidableEq, Repr

/-- An alarm generator (R444). -/
structure Alarm where
  on : Bool := false         -- in its on-time
  at_ : Nat := 0             -- start of the present on-time or off-time
  deriving DecidableEq, Repr
/-- An SRAM macro (R453 to R456). -/
structure Macro where
  rows : Nat := 0            -- spare rows used by soft repair
  cols : Nat := 0            -- spare columns used by soft repair
  bad : Bool := false        -- UNREPAIRABLE
  deriving DecidableEq, Repr

set_option maxRecDepth 2048

/-- The block. -/
structure State where
  pending : List Instr := []   -- commands waiting, first in first out: the model's own queue
  walltime : Nat := 0          -- WALLTIME, TIME island copy, ns (R24, R25)
  freeCtr : Nat := 0           -- uses of `Config.freeValue` so far: the model's own
  regs : FMap Word := []       -- every register software sees, by offset (R51, R55); unlisted: its reset value (R10)
  shadow : FMap Word := []     -- shadow values of RWS fields, by offset (R57); unlisted: as the active value
  loHeld : FMap Word := []     -- LO words written and waiting for HI (R56)
  latch : FMap Word := []      -- HI words latched by a read of LO, by port × 2^40 + offset (R56)
  seqs : FMap Nat := []        -- island sequence numbers (R27)
  skew : FMap Int := []        -- offset of an island's local copy of WALLTIME from `walltime`, ns (R24, R26)
  localMin : FMap Nat := []    -- per island, its local copy of WALLTIME when its clock period last changed: the copy never shows less (R24, R25)
  jrnGap : FMap Nat := []      -- per journal page, WALLTIME of the first lost record (R80)
  commitAt : FMap Nat := []    -- per page, time of the COMMIT.GO not yet applied (R63, R186)
  plzWait : NSet := []         -- heads whose part of the PLAZA commit has not ended (R164)
  plzRes : List Nat := []      -- codes of the parts that ended (R164)
  onlyR18 : FMap Nat := []     -- companion pages that R18 alone keeps in FAULT, with the state each had or has been given since (R18)
  enterCtx : Nat := 0          -- mode before the transition in progress (R34)
  quiescing : Bool := false    -- entry to QUIESCE in progress (R39)
  d2dDownAt : Option Nat := none  -- since when the die-to-die link is down (R18)
  d2dTrying : Bool := false    -- the die-to-die link retrains (R17, R19)
  d2dFailed : Bool := false    -- a retraining has failed since the link went down (R18)
  d2dTryAt : Nat := 0          -- start of the last retraining (R19)
  d2dHeld : List HeldAcc := [] -- accesses to companion pages that wait for the retraining, oldest first (R17)
  strapMaster : Bool := true   -- CHAIN_MASTER strap (R37)
  hostOut : List (Nat × Nat × List Byte) := []  -- writes to host memory issued: PASID + 1 or 0 for the manager, address, bytes (R292)
  reply : List Word := []      -- data returned by the last read command (aperture, configuration, DBG_ACCESS)
  dram : List Host.Cell := []  -- device DRAM; an unlisted byte reads 0 (R390)
  poison : NSet := []          -- addresses of poisoned words (R385)
  validPg : NSet := []         -- page-valid bitmap (R389)
  fills : List Fill := []      -- pages being filled (R391)
  wbuf : FMap WbEntry := []    -- write buffers, by block (R359)
  wwait : List WWait := []     -- writes waiting (R359, R391)
  memRetry : List Retry := []  -- reads whose first attempt was uncorrectable (R387)
  mem : FMap MemGrp := []      -- memory groups
  logs : FMap LogEnt := []     -- Sweeper logs, 64 × group + entry (R399)
  sweep : FMap Sweep := []     -- Sweepers
  range : Range := {}          -- range pass
  sdt : FMap Sdt := []         -- Surface Descriptor Table (R83)
  lists : FMap ListRun := []   -- running lists by ring (R304)
  cmds : FMap Cmd := []        -- commands in progress by number (R97)
  nextCmd : Nat := 0           -- next command number
  nextList : Nat := 0          -- next list number
  fences : FMap Nat := []      -- fences, 32 × instance + f, secure from 8192 (R118)
  calls : FMap Call := []      -- service calls by REQ_ID (R333)
  nextReq : Nat := 0           -- next REQ_ID (R333)
  insts : FMap Inst := []      -- instances
  vacate : FMap NSet := []     -- per head, instances to vacate at the next vertical blank (R312, R310)
  unvacate : FMap NSet := []   -- per head, instances whose vacated fill is removed there (R302, R311)
  vacated : FMap NSet := []    -- per head, instances whose windows show the vacated fill (R131)
  vacRects : FMap (List Rect) := []  -- 256 × head + instance: the windows over which the vacated fill stands, as the entry gave them when it came (R312)
  handovers : FMap Handover := []  -- hand-overs in progress by BLOCK_ID (R340)
  ghVersion : Nat := 0         -- Gatehouse patch level (R337)
  tapReset : Bool := false     -- a DBG_ACCESS has followed the last Test-Logic-Reset (R349)
  jtagHold : Bool := false     -- held in ENUMERATE after EXTEST, CLAMP or HIGHZ (R348)
  tapIr : TapInstr := .idcode  -- instruction of the TAP (R348)
  haltReq : NSet := []         -- Conductor halts pending until a secure list ends (R349)
  stepReq : NSet := []         -- halted Conductors that may run one more command (R349)
  planes : FMap Plane := []    -- planes, 16 × head + plane (R106)
  heads : FMap Head := []      -- heads
  syncs : FMap Sync := []      -- sync sources, 2 × head for GENLOCK_IN, 2 × head + 1 for CHAIN (R176)
  glPin : List (Nat × Bool) := []  -- GENLOCK_IN: the last edges, newest first, with whether each was rising (R177)
  spans : FMap (List Nat) := []  -- spans composed and not yet sent: (head × 8192 + line) × 32 + span, component words (R125)
  spanQ : NSet := []           -- spans released that no slice has taken (R125)
  flight : NSet := []          -- spans that slices are composing (R125, R160, R162)
  slcLast : NSet := []         -- slices replaced that still finish their span in flight (R160)
  regions : FMap Region := []  -- safety regions, 64 × head + region
  tiles : FMap Tile := []      -- Arcade tiles, 8192 × head + tile in raster order (R149)
  lineOut : FMap (List Nat) := []  -- per head, the pixel words of the last line sent (R201, R212)
  msaOut : FMap (Nat × List Nat) := []  -- per head, the main stream attributes last sent: frame; kHz, HA, HT, HFP, HS, VA, VT, VFP, VS, polarities, bits per component (R264)
  linkOut : List LinkOut := []  -- DPCD writes and training patterns of the link layers (R269)
  badBlocks : FMap NSet := []  -- 16 × head + plane: blocks whose fetch failed for good in this frame (R159)
  tileLost : FMap (Nat × Nat) := []  -- 8192 × head + tile: slot and line of a tile that a read error has emptied in this frame (R156)
  tileBad : FMap NSet := []    -- 8192 × head + tile: pixel offsets of the tile read in error in this frame (R156)
  deferred : List Deferred := []  -- what is settled at the end of the present command (R97, R293, R315, R325, R355)
  hostIn : List (Nat × Nat × Nat) := []  -- reads of host memory issued: PASID + 1 or 0 for the manager, address, bytes (R292)
  rrNext : Nat := 0            -- lowest instance that the present round of R307 has still to visit (R307)
  qcancelAt : Option Nat := none  -- time of the accepted QUIESCE request (R39)
  img : FMap Word := []        -- values the applied configuration image gave "cfg" fields, by offset (R341, R473)
  perstLow : Bool := false     -- PERST_N is low (R290)
  closedWins : FMap (List Rect) := []  -- windows of instances closed since the head's last vertical blank, by head: the vacated fill stands there until then (R302)
  mig : Mig := {}              -- the migration copy in progress (R319)
  chPorts : FMap ChPort := []  -- chain ports, 0 A and 1 B
  addrPort : Option Bool := none  -- port through which the unit received its address, B or A (R227)
  pendEnum : Option (Nat × Nat) := none  -- ENUM waiting for this unit's address: next free address, side (R231)
  grants : FMap Nat := []      -- master: unit ID of every address granted (R232)
  walkRing : Bool := false     -- master: ENUM has returned on the other port (R231)
  walkDue : Bool := false      -- master: the walk through port A is made, that through port B is to follow (R231)
  walkAt : Option Nat := none  -- master: when the last walk began (R233)
  enumPort : Option Bool := none  -- port by which the last ENUM came, B or A (R231)
  cutOff : NSet := []          -- addresses that a break has cut off (R236, R247)
  lastUp : Bool := false       -- the last upstream port, B or A (R262)
  trainOut : List (Nat × Nat × Option (Nat × Nat)) := []  -- TRAIN messages sent: port, unit ID, and the master's unit ID and hops (R227)
  topoUnits : Nat := 0         -- units by the last TOPO (R237)
  topoBrk : Nat × Nat := (0, 0)  -- addresses beside a break by the last TOPO (R237)
  chainOut : List (Nat × List Byte) := []  -- messages sent: port, bytes (R237, R238)
  marks : List Mark := []      -- marks scheduled, not yet fired (R246)
  markNext : Option Nat := none  -- master, SRC 0: number of the next mark (R245)
  markSent : Option Nat := none  -- master: number of the last mark sent since RESET_N (R245)
  markRestart : Bool := false  -- the next mark sent has RESTART (R245)
  markSeen : Option Nat := none  -- MARK_SEQ of the last mark received (R245)
  groups : FMap Group := []    -- master: coherence groups (R252)
  hw : FMap HeadWall := []     -- heads' wall state
  mbReq : FMap (Nat × Nat) := []  -- mailbox requests in flight, 0 normal and 1 secure: REQ_ID and time of GO (R249)
  mbNext : Nat := 0            -- next REQ_ID (R238)
  stepAt : Option (Nat × Nat) := none  -- a step to make: APPLY_AT and NEW_TIME (R242)
  lockSince : Option Nat := none  -- since when the averaged offset is within ±2 ns (R241)
  lockTold : Bool := false     -- TIME_LOCKED has been raised since LOCKED was entered (R241)
  ppsLast : Option Nat := none -- last PPS edge (R243)
  markOutNext : Nat := 0       -- the whole second that WALLTIME last crossed with TIME_MARK_OUT.EN at 1 (R244)
  markHigh : Option (Nat × Nat) := none  -- the one-second mark: GPIO pin, and until when it is high (R244)
  probeOut : List (Nat × List Int) := []  -- delay probes and replies sent: port, timestamps in 10 ps, t1 or t2 and t3 (R240)
  ppsStepped : Bool := false   -- the one step that STEP_EN allows has been made (R243)
  dps : FMap Dp := []          -- DisplayPort link layers, by head (chapter 08)
  tchBase : FMap Base := []    -- capacitive baselines (R417)
  tchStored : FMap Nat := []   -- baselines of the configuration image (R470)
  tchElec : FMap Elec := []    -- electrodes (R421)
  tchObj : FMap TchObj := []   -- touch objects (R415)
  tch : Touch := {}            -- the capacitive front end
  compQ : List (List Word × Bool × Option Nat × Nat) := []  -- reports that wait on the companion die: record, world, instance, object (R19, R425)
  haps : FMap HapCh := []      -- haptic channels
  strs : FMap Strm := []       -- audio streams
  tdmLost : FMap Nat := []     -- per TDM port in NO_CLOCK, since when: cues make no progress from then (R439)
  alarms : FMap Alarm := []    -- alarm generators
  macros : FMap Macro := []    -- SRAM macros (R453)
  softDone : Bool := false     -- the soft repair of ENUMERATE has ended (R454)
  bistRun : Option (Nat × Nat × Nat) := none  -- the test in progress: page, sub-unit, KIND (R452)
  bistFails : List (Nat × Nat × Nat) := []  -- failing words: address, position, channel (R457)
  bistCount : Nat := 0         -- failures found, saturating at 16 (R457)
  cndSubst : Option (Nat × Nat) := none  -- Conductor substitution in progress: replaced, spare (R463)
  cndVer : FMap Nat := []      -- microcode versions loaded (R467)
  update : Option (Nat × Nat × Nat) := none  -- update in progress: KIND, Conductor, version (R465)
  qspiOp : Option (Nat × Nat × Nat) := none  -- flash operation in progress: OP, address, length (R477)
  qspiAt : Nat := 0            -- when the last flash operation began (R477)
  rstHold : NSet := []         -- what holds the unit in reset: 0 RESET_N, 1 + rail a supply, 20 the thermal trip (R489)
  bank33 : NSet := []          -- VDDIO banks sensed at 3.3 V (R484)
  hotSince : Option Nat := none  -- since when Tj has stayed below ALERT − HYST (R503)
  smpOut : List Byte := []     -- bytes of the last response on SMP_MISO, from 0x5A on (R498)
  slcSubst : List (Nat × Bool) := []  -- slice substitutions that wait for a vertical blank, and whether PLZ_SUBST asked (R161)
  tgFirst : Bool := false      -- no window has ended since BIST_TG_CTRL.EN was set (R458)
  flashOut : List (Nat × Nat × List Byte) := []  -- programs (1) and erases (2) sent to the boot flash: OP, address, bytes (R477)
  deriving DecidableEq, Repr

/-- The machine right after reset (R10, R36): every field at its default above; every register reads its reset value. -/
def State.reset : State := {}

end Sys2Proof.Machine
end

