-- ==== Sys2Proof/Machine/Reg.lean ====
section
/-! DEFINITION. Pages (R54), islands (R21), the register store and its reset values (R10, R58). -/

namespace Sys2Proof.Machine

open Sys2Proof

/-! Status codes (R74). -/
abbrev OK : Nat := 0x00
abbrev BAD_OPCODE : Nat := 0x01
abbrev BAD_ARG : Nat := 0x02
abbrev NO_RIGHT : Nat := 0x03
abbrev NO_RESOURCE : Nat := 0x04
abbrev WRONG_STATE : Nat := 0x05
abbrev IN_SERVICE : Nat := 0x06
abbrev TIMEOUT : Nat := 0x07
abbrev CANCELLED : Nat := 0x08
abbrev MEM_ERROR : Nat := 0x09
abbrev WITHDRAWN : Nat := 0x0A
abbrev SECURE_DENIED : Nat := 0x0B
abbrev STALE : Nat := 0x0C
abbrev SIG_MISMATCH : Nat := 0x0D
abbrev RETRIED_OK : Nat := 0x0E
abbrev LINK_ERROR : Nat := 0x0F

/-! Device modes (R32) and page states (R61). -/
abbrev ENUMERATE : Nat := 0
abbrev CONFIGURE : Nat := 1
abbrev RUNMODE : Nat := 2
abbrev SERVICEMODE : Nat := 3
abbrev FALLBACK : Nat := 4
abbrev QUIESCE : Nat := 5
abbrev pOFF : Nat := 0
abbrev pINIT : Nat := 1
abbrev pRUN : Nat := 2
abbrev pSERVICE : Nat := 3
abbrev pTEST : Nat := 4
abbrev pFAULT : Nat := 5

/-! Page indexes (R54). -/
abbrev PG_SYS : Nat := 0
abbrev PG_TIME : Nat := 1
abbrev PG_PCI : Nat := 11
abbrev PG_INST : Nat := 12
abbrev PG_DMA : Nat := 13
abbrev PG_PLAZA : Nat := 32
abbrev PG_ARCADE : Nat := 38
abbrev PG_CHN : Nat := 64
abbrev PG_SEC : Nat := 72
abbrev PG_WMARK : Nat := 73
abbrev PG_DEBUG : Nat := 74
abbrev PG_PERF : Nat := 75
abbrev PG_GPIO : Nat := 76
abbrev PG_JRN_N : Nat := 77
abbrev PG_JRN_S : Nat := 78
abbrev PG_BIST : Nat := 79
abbrev PG_TCH : Nat := 96
abbrev PG_HAP : Nat := 97
abbrev PG_AUD : Nat := 98
abbrev PG_QSPI : Nat := 99
abbrev PG_MON : Nat := 100
/-- Pages of Conductor `c`, memory group `g`, Sweeper `g`, slice `n`, and of head `h`. -/
def pgCnd (c : Nat) : Nat := 2 + c
def pgMem (g : Nat) : Nat := 14 + g
def pgSwp (g : Nat) : Nat := 16 + g
def pgSlc (n : Nat) : Nat := 33 + n
def pgAve (h : Nat) : Nat := 40 + h
def pgAge (h : Nat) : Nat := 48 + h
def pgDpl (h : Nat) : Nat := 56 + h

/-- The page index list (R54): every page that exists. -/
def allPages : List Nat :=
  List.range 18 ++ [32, 33, 34, 35, 36, 37, 38] ++ (List.range 24).map (· + 40) ++
    [64, 72, 73, 74, 75, 76, 77, 78, 79, 96, 97, 98, 99, 100]

/-- Whether page `p` exists (R54). -/
def pageExists (p : Nat) : Bool :=
  p ≤ 17 || (32 ≤ p && p ≤ 38) || (40 ≤ p && p ≤ 64) || (72 ≤ p && p ≤ 79) || (96 ≤ p && p ≤ 100)

/-- Block type code of a page (R54). -/
def pageType (p : Nat) : Nat :=
  if p = 0 then 0x01 else if p = 1 then 0x02 else if p ≤ 10 then 0x03 else if p = 11 then 0x04 else if p = 12 then 0x05
  else if p = 13 then 0x06 else if p ≤ 15 then 0x07 else if p ≤ 17 then 0x08 else if p = 32 then 0x09
  else if p ≤ 37 then 0x0A else if p = 38 then 0x0B else if p ≤ 47 then 0x0C else if p ≤ 55 then 0x0D
  else if p ≤ 63 then 0x0E else if p = 64 then 0x0F else if p = 72 then 0x10 else if p = 73 then 0x11
  else if p = 74 then 0x12 else if p = 75 then 0x13 else if p = 76 then 0x14 else if p ≤ 78 then 0x15
  else if p = 79 then 0x1B else if p = 96 then 0x16 else if p = 97 then 0x17 else if p = 98 then 0x18
  else if p = 99 then 0x19 else 0x1A

/-- PAGE_ID.INSTANCE: number among the pages of one type (R54). -/
def pageInst (p : Nat) : Nat :=
  if 2 ≤ p && p ≤ 10 then p - 2 else if p = 15 || p = 17 || p = 78 then 1 else if 33 ≤ p && p ≤ 37 then p - 33
  else if 40 ≤ p && p ≤ 63 then (p - 40) % 8 else 0

/-- Island number of a page (R21, R54). -/
def islandOf (p : Nat) : Nat :=
  if p = 0 then 1 else if p = 1 then 0 else if p ≤ 10 then 3 else if p ≤ 13 then 4 else if p ≤ 17 then 5 + p % 2
  else if p ≤ 37 then 7 else if p = 38 then 8 else if p ≤ 55 then 9 + p % 8 else if p ≤ 63 then 17 + p % 8
  else if p = 64 then 25 else if p ≤ 74 then 2 else if p = 78 then 2 else if p ≤ 79 then 1
  else if p = 96 then 26 else if p = 97 then 27 else if p = 98 then 28 else 29

/-- World access of R54: the secure-only pages. -/
def secureOnlyPage (p : Nat) : Bool := p = 72 || p = 74 || p = 78

/-- World access of R54: the pages the normal world only reads. -/
def secureWritePage (p : Nat) : Bool := (48 ≤ p && p ≤ 55) || p = 73

/-- Pages of the companion die (R18). -/
def companionPage (p : Nat) : Bool := 96 ≤ p && p ≤ 100

/-- PAGE_CAPS (R58).  SHADOW, SECURE_ONLY and ASSIGNABLE follow the tables; SERVICE, TEST and SPARE are read from the
chapters that describe a block's service, test and spare (DEDUCED, log entry 5). -/
def pageCaps (p : Nat) : Nat :=
  let ty := pageType p
  let service := ty = 0x02 || ty = 0x03 || ty = 0x07 || ty = 0x0A || ty = 0x0C || ty = 0x0E || ty = 0x16 || ty = 0x17 || ty = 0x18
  let test := ty = 0x01 || ty = 0x03 || ty = 0x05 || ty = 0x10 || ty = 0x07 || ty = 0x0A || ty = 0x0C || ty = 0x0E || ty = 0x16 || ty = 0x17 || ty = 0x1A
  let spare := ty = 0x03 || ty = 0x0A
  let shadow := (pageRows p).any fun r => r.rws != 0
  let assignable := ty = 0x0C || ty = 0x0D || ty = 0x0E || ty = 0x16 || ty = 0x17 || ty = 0x18 || ty = 0x14
  (if service then 1 else 0) + (if test then 2 else 0) + (if spare then 4 else 0) + (if shadow then 8 else 0) +
    (if secureOnlyPage p then 16 else 0) + (if assignable then 32 else 0)

/-- BAR 0 offset of register page `p` (R51). -/
def pageBase (p : Nat) : Nat := 0x100000 + p * 0x1000

/-- Key of a register of instance `i`'s BAR 2 window (R291), of a PCI configuration register (R290), of word `w` of
instance `i`'s table entry (R300). -/
def winKey (i off : Nat) : Nat := 0x100000000 + i * 0x10000 + off
def cfgKey (off : Nat) : Nat := 0x200000000 + off
def entKey (i w : Nat) : Nat := 0xC00000 + i * 0x100 + 4 * w

/-- The row of a page's register tables that holds offset `off`, with the register's place in its array. -/
def findRow : List RegRow → Nat → Option RegRow
  | [], _ => none
  | r :: rs, off =>
    if r.count ≤ 1 then (if off = r.off then some r else findRow rs off)
    else if r.off ≤ off && (off - r.off) % r.stride = 0 && (off - r.off) / r.stride < r.count then some r
    else findRow rs off

/-- Reset value of a header register (R58, R61): OWNER.WORLD is 1 on the SEC, DEBUG, JRN_S and WMARK pages (R351). -/
def headerReset (p off : Nat) : Word :=
  if off = 0x00 then BitVec.ofNat 32 (pageType p + pageInst p * 0x100 + 0x0B0 * 0x1000 + p * 0x1000000)
  else if off = 0x04 then BitVec.ofNat 32 (pageCaps p)
  else if off = 0x08 then 1#32
  else if off = 0x38 then (if secureOnlyPage p || p = PG_WMARK then 1#32 else 0#32)
  else 0#32

/-- The value a register reads that nothing has written since reset (R10, R58). -/
def resetWord (k : Nat) : Word :=
  if k < 0x8000 then (if k % 16 = 12 then 1#32 else 0#32)
  else if 0x100000 ≤ k && k < 0x200000 then
    let p := (k - 0x100000) / 0x1000
    let off := (k - 0x100000) % 0x1000
    if off < 0x40 then headerReset p off
    else if p = 37 && off = 0x40 then 1#32
    else if p = PG_BIST && off = 0x90 then 0x10000#32
    else if p = PG_MON && off = 0x44 && Config.gradeXC then BitVec.ofNat 32 (160 + 5 * 0x100)
    else match findRow (pageRows p) off with
      | none => 0#32
      | some r => if p = PG_HAP && r.off = 0x8C then BitVec.ofNat 32 (r.reset + ((off - 0x8C) / 0x20) * 8 * 0x100)
                  else BitVec.ofNat 32 r.reset
  else 0#32

/-- The register at key `k`. -/
def State.rd (s : State) (k : Nat) : Word := fget (resetWord k) s.regs k

/-- `s` with the register at key `k` holding `v`. -/
def State.wr (k : Nat) (v : Word) (s : State) : State := { s with regs := fset s.regs k v }

/-- Field `f` of page `p`, as a number. -/
def State.gf (s : State) (p : Nat) (f : Fld) : Nat := bits (s.rd (pageBase p + f.off)) f.lo f.len

/-- Whether field `f` of page `p` is not 0. -/
def State.tf (s : State) (p : Nat) (f : Fld) : Bool := s.gf p f != 0

/-- `s` with field `f` of page `p` holding `v`. -/
def State.sf (p : Nat) (f : Fld) (v : Nat) (s : State) : State :=
  s.wr (pageBase p + f.off) (putBits (s.rd (pageBase p + f.off)) f.lo f.len v)

/-- A saturating count in field `f` of page `p` moves up by `n`. -/
def State.bump (p : Nat) (f : Fld) (n : Nat) (s : State) : State := s.sf p f (satAdd f.len (s.gf p f) n)

/-- A wrapping count in field `f` of page `p` moves up by `n`. -/
def State.bumpW (p : Nat) (f : Fld) (n : Nat) (s : State) : State := s.sf p f (s.gf p f + n)

/-- A 64-bit value held as a LO/HI pair (R56). -/
def State.g64 (s : State) (p : Nat) (lo hi : Fld) : Nat := s.gf p lo + 4294967296 * s.gf p hi
def State.s64 (p : Nat) (lo hi : Fld) (v : Nat) (s : State) : State := (s.sf p lo v).sf p hi (v / 4294967296)

/-- A field of instance `i`'s table entry (R300), and of its window (R297). -/
def State.ent (s : State) (i w lo len : Nat) : Nat := bits (s.rd (entKey i w)) lo len
def State.setEnt (i w lo len v : Nat) (s : State) : State := s.wr (entKey i w) (putBits (s.rd (entKey i w)) lo len v)
def State.ent64 (s : State) (i w : Nat) : Nat := pair64 (s.rd (entKey i w)) (s.rd (entKey i (w + 1)))
def State.win (s : State) (i off : Nat) : Word := s.rd (winKey i off)
def State.setWin (i off : Nat) (v : Word) (s : State) : State := s.wr (winKey i off) v

/-- Instance states (R300). -/
abbrev iUNASSIGNED : Nat := 0
abbrev iSETUP : Nat := 1
abbrev iACTIVE : Nat := 2
abbrev iRESETTING : Nat := 3
abbrev iSUSPENDED : Nat := 4
abbrev iFAULTED : Nat := 5
def State.instState (s : State) (i : Nat) : Nat := s.ent i 0 0 3
def State.inst (s : State) (i : Nat) : Inst := fget {} s.insts i
def State.setInst (i : Nat) (f : Inst → Inst) (s : State) : State := { s with insts := fmod {} s.insts i f }

/-- The present device mode (R32). -/
def State.mode (s : State) : Nat := s.gf PG_SYS R.SYS_STATE_MODE
/-- Composed modes: RUN and SERVICE (R33). -/
def State.running (s : State) : Bool := s.mode = RUNMODE || s.mode = SERVICEMODE
/-- PAGE_STATE.STATE of page `p` (R61). -/
def State.pstate (s : State) (p : Nat) : Nat := s.gf p R.PAGE_STATE_STATE
/-- OWNER.WORLD of page `p` is secure. -/
def State.secureOwned (s : State) (p : Nat) : Bool := s.tf p R.OWNER_WORLD
/-- Whether the page is in SERVICE or TEST. -/
def State.inService (s : State) (p : Nat) : Bool := s.pstate p = pSERVICE || s.pstate p = pTEST

/-- The code with which a request to page `p` completes that the page's state does not accept (R23, R61); none in RUN. -/
def State.pageCode (s : State) (p : Nat) : Option Nat :=
  if s.pstate p = pRUN then none
  else if s.pstate p = pSERVICE || s.pstate p = pTEST then some IN_SERVICE
  else if s.pstate p = pFAULT then some (s.gf p R.PAGE_STATE_REASON)
  else some WRONG_STATE

/-- Whether accesses to companion pages wait: the link retrains, and no retraining has failed since it went down (R17). -/
def State.d2dWaits (s : State) : Bool := s.d2dTrying && !s.d2dFailed && !s.tf PG_SYS R.SYS_D2D_STATUS_LINK_UP

/-- Whether companion pages answer: the die-to-die link is up, or its retraining lets accesses wait (R17, R18). -/
def State.d2dOk (s : State) : Bool := s.tf PG_SYS R.SYS_D2D_STATUS_LINK_UP || s.d2dWaits

/-- Whether a Gatehouse patch is being applied (R466). -/
def State.patching (s : State) : Bool := match s.update with | some (k, _, _) => k = 3 | none => false

/-- The command acts at WALLTIME `t`; WALLTIME never runs backward (R25). -/
def State.atTime (t : Time) (s : State) : State := { s with walltime := max s.walltime t }

/-- The next free value (AN OPEN VALUE of the manual), and the counter advanced. -/
def State.free (s : State) : BitVec 64 := Config.freeValue s.freeCtr
def State.useFree (s : State) : State := { s with freeCtr := s.freeCtr + 1 }

/-- The world a register write carries (R323). -/
def portSecure : Port → Bool
  | .bar0 => false
  | .smp => true
  | .chain sec => sec
  | .jtag sec => sec

/-- Requester code of WM_VIOLATION and GATE_REFUSED; the secure port has none and counts as BAR 0's (page WMARK). -/
def portCode : Port → Nat
  | .bar0 => 0
  | .smp => 0
  | .chain _ => 5
  | .jtag _ => 6

/-- Port number for the LO/HI latches, kept per port (R56). -/
def portNum : Port → Nat
  | .bar0 => 0
  | .smp => 1
  | .chain sec => if sec then 3 else 2
  | .jtag sec => if sec then 5 else 4

/-- The first of R75's refusals: the codes in the order of that rule. -/
def r75 : List Nat := [LINK_ERROR, BAD_OPCODE, BAD_ARG, SECURE_DENIED, NO_RIGHT, IN_SERVICE, WRONG_STATE, NO_RESOURCE]

/-- The code a request gets that qualifies for the refusals listed with `true` (R75); none: it is accepted. -/
def refusal (l : List (Bool × Nat)) : Option Nat :=
  r75.find? fun c => l.any fun x => x.1 && x.2 == c

end Sys2Proof.Machine
end

