-- ==== Sys2Proof/Machine/Dram.lean ====
section
/-! DEFINITION. Device DRAM (R354, R355): the byte store, the write buffers (R359), the page-valid bitmap (R389 to R392) and
the dirty bitmaps of instances (R316).  Nothing here raises an event. -/

namespace Sys2Proof.Machine

open Sys2Proof

/-- Block, memory group and 4 KiB page of a byte address (R355, R389). -/
def blockOf (a : Nat) : Nat := a / 128
def groupOf (blk : Nat) : Nat := blk % 2
/-- Column, bank and row of a byte address within its group (R355). -/
def colOf (a : Nat) : Nat := a / 256 % 64
def bankOf (a : Nat) : Nat := (a / 256 / 64 % 16) ^^^ (a / 256 / 1024 % 16)
def rowOf (a : Nat) : Nat := a / 256 / 1024
def dpageOf (a : Nat) : Nat := a / 4096

/-- Capacity of device DRAM in bytes (R353): 0 until initialisation has read it. -/
def State.capBytes (s : State) : Nat := s.gf 14 R.MEM_CFG_CAP_GIB * 1073741824
/-- The DRAM watermark in bytes (R325). -/
def State.wmDram (s : State) : Nat := s.gf PG_WMARK R.WM_DRAM_LEVEL * 2097152

/-- The DRAM store with a byte at an address; a zero byte is not listed (R390). -/
def cellSet (m : List Host.Cell) (a : Nat) (b : Byte) : List Host.Cell := if b = 0#8 then fdel m a else fset m a b

/-- The canonical form of the store: addresses strictly rising, and no entry that equals what an unlisted address reads. -/
def Memory.wf : List Host.Cell → Bool
  | [] => true
  | [(_, b)] => b != 0#8
  | (a, b) :: (a', b') :: r => b != 0#8 && decide (a < a') && Memory.wf ((a', b') :: r)

/-- The byte that a reader sees at an address: a write-buffer entry wins over DRAM (R359); an invalid page reads zeros
(R390, its cells are not listed). -/
def State.byteAt (s : State) (a : Nat) : Byte :=
  let e := fget ({} : WbEntry) s.wbuf (blockOf a)
  if fhas e.bytes (a % 128) then fget 0#8 e.bytes (a % 128) else fget 0#8 s.dram a

/-- `n` bytes from address `a`; blocks at or above the capacity read zeros (R355). -/
def State.bytesAt (s : State) (a n : Nat) : List Byte :=
  (List.range n).map fun i => if (a + i) / 128 * 128 < s.capBytes then s.byteAt (a + i) else 0#8

/-- Whether a page's valid bit is set, and whether it is being filled (R391). -/
def State.pageValid (s : State) (n : Nat) : Bool := s.validPg.contains n
def State.filling (s : State) (n : Nat) : Bool := s.fills.any fun f => f.page == n

/-- Entries of a group's write buffer (R359). -/
def State.wbOcc (s : State) (g : Nat) : Nat := (s.wbuf.filter fun e => groupOf e.1 == g).length

/-- Occupancy shows in MEM_STATUS; a drain starts at 64 (R360). -/
def State.wbShow (g : Nat) (s : State) : State :=
  let occ := s.wbOcc g
  let s := s.sf (pgMem g) R.MEM_STATUS_WBUF_OCC occ
  if 64 ≤ occ && !s.tf (pgMem g) R.MEM_STATUS_DRAINING then
    (s.sf (pgMem g) R.MEM_STATUS_DRAINING 1).bump (pgMem g) R.MEM_WBUF_STAT_DRAINS 1 else s

/-- The first write to an invalid page starts its fill (R391). -/
def State.startFill (n : Nat) (s : State) : State :=
  if s.pageValid n || s.filling n then s else { s with fills := s.fills ++ [{ page := n }] }

/-- Whether a write to a block must wait: behind a waiting write of the block, for one of 16 fills, or for an entry (R359, R391). -/
def State.mustWait (s : State) (blk : Nat) : Bool :=
  (s.wwait.any fun w => blockOf w.addr == blk) ||
  (!s.pageValid (dpageOf (blk * 128)) && !s.filling (dpageOf (blk * 128)) && 16 ≤ s.fills.length) ||
  (!fhas s.wbuf blk && 96 ≤ s.wbOcc (groupOf blk))

/-- Bytes of one block enter its write-buffer entry. -/
def State.wbMerge (blk off : Nat) (bs : List Byte) (s : State) (sec : Bool := false) : State :=
  let e := fget ({} : WbEntry) s.wbuf blk
  let bytes := bs.zipIdx.foldl (fun m x => fset m (off + x.2) x.1) e.bytes
  ({ s with wbuf := fset s.wbuf blk { bytes, normal := e.normal || !sec } }.startFill (dpageOf (blk * 128))).wbShow (groupOf blk)

/-- A write within one block: into its entry, or into the queue of writes that wait. -/
def State.wbPut (blk off : Nat) (bs : List Byte) (s : State) (by_ : Writer := {}) : State :=
  if s.mustWait blk then
    -- a write that waits for a free entry is counted once, however often it is tried
    let full := !fhas s.wbuf blk && decide (96 ≤ s.wbOcc (groupOf blk))
    let s := if full && !by_.stalled then s.bump (pgMem (groupOf blk)) R.MEM_WBUF_STAT_STALLS 1 else s
    { s with wwait := s.wwait ++ [{ addr := blk * 128 + off, data := bs, by_ := { by_ with stalled := by_.stalled || full } }] }
  else s.wbMerge blk off bs by_.sec

/-- A range of addresses cut at block boundaries: block, offset, bytes. -/
def cutBlocks : Nat → Nat → List Byte → List (Nat × Nat × List Byte)
  | 0, _, _ => []
  | k + 1, a, bs =>
    if bs.isEmpty then []
    else
      let n := 128 - a % 128
      (blockOf a, a % 128, bs.take n) :: cutBlocks k (a + n) (bs.drop n)

/-- Whether an access of `n` bytes at `a` reaches a block at or above the capacity (R355). -/
def State.reaches (s : State) (a n : Nat) : Bool := n != 0 && decide (s.capBytes < (a + n + 127) / 128 * 128)

/-- A write to DRAM that marks no dirty bitmap: blocks at or above the capacity are dropped (R355). -/
def State.put (a : Nat) (bs : List Byte) (s : State) : State :=
  forEach (cutBlocks (bs.length / 128 + 2) a bs)
    (fun x s => if x.1 * 128 < s.capBytes then s.wbPut x.1 x.2.1 x.2.2 else s) s

/-- An access that no agent's own check has judged (R325, R355): the captures come at the end of the command. -/
def State.noteAccess (agent : Option Nat) (secure : Bool) (inst : Option Nat) (a n : Nat) (s : State) : State :=
  if n != 0 && !secure && decide (a < s.wmDram) then { s with deferred := s.deferred ++ [.blocked agent inst a] }
  else if s.reaches a n then { s with deferred := s.deferred ++ [.beyond a n] } else s

/-- The newest value of a byte, writes that wait included. -/
def State.newest (s : State) (a : Nat) : Byte :=
  match s.wwait.reverse.find? (fun w => w.addr ≤ a && a < w.addr + w.data.length) with
  | some w => w.data.getD (a - w.addr) 0#8
  | none => s.byteAt a

/-- The instances whose DRAM grant holds address `a` and that keep a dirty bitmap (R316). -/
def State.dirtyOwners (s : State) (a : Nat) : List Nat :=
  (List.range 256).filter fun i =>
    s.ent i 56 1 1 = 1 && s.instState i != iUNASSIGNED && s.ent i 2 0 14 * 2097152 ≤ a &&
      a < (s.ent i 2 0 14 + s.ent i 2 16 15) * 2097152

/-- Each page of the write sets its bit in the bitmap of the instance whose grant it lies in (R316); a bitmap below the watermark or
beyond the capacity takes no mark (R325, R355). -/
def State.markDirty (a n : Nat) (s : State) : State :=
  if s.insts.isEmpty then s else
  forNat (if n = 0 then 0 else (a + n - 1) / 4096 - a / 4096 + 1) (fun k s =>
    let pg := (a / 4096 + k) * 4096
    forEach (s.dirtyOwners pg) (fun i s =>
      let bitNo := (pg - s.ent i 2 0 14 * 2097152) / 4096
      let ba := s.ent64 i 61 + bitNo / 8
      let s := s.noteAccess none false (some i) ba 1
      if ba < s.wmDram then s else s.put ba [s.newest ba ||| BitVec.ofNat 8 (2 ^ (bitNo % 8))]) s) s

/-- A write of `n` bytes at `a` falls into the footprints of RETIRING surfaces, which Plaza may still read (R158). -/
def State.tear (a n : Nat) (s : State) : State :=
  { s with sdt := s.sdt.map fun e =>
    if e.2.state = 3 && decide (a < e.2.base + e.2.stride * e.2.height) && decide (e.2.base < a + n) then (e.1, { e.2 with torn := true })
    else e }

/-- A write within one block, marked in the dirty bitmap when it enters the buffer (R316). -/
def State.wbData (blk off : Nat) (bs : List Byte) (by_ : Writer) (s : State) : State :=
  let waits := s.mustWait blk
  let s := s.wbPut blk off bs by_
  if waits || !by_.marks then s else (s.tear (blk * 128 + off) bs.length).markDirty (blk * 128 + off) bs.length

/-- A device write to DRAM with its dirty marks; blocks at or above the capacity are dropped (R316, R355). -/
def State.dput (a : Nat) (bs : List Byte) (s : State) (by_ : Writer := {}) : State :=
  forEach (cutBlocks (bs.length / 128 + 2) a bs)
    (fun x s => if x.1 * 128 < s.capBytes then s.wbData x.1 x.2.1 x.2.2 { by_ with marks := true } else s) s

/-- Whether a write of command `id` still waits (R97, R359). -/
def State.writeWaits (s : State) (id : Nat) : Bool := s.wwait.any fun w => w.by_.cmd == some id

/-- The commands of the writes `ws` of which none waits any more are told at the end of the command (R97). -/
def State.landed (ws : List WWait) (s : State) : State :=
  { s with deferred := s.deferred ++ ((ws.filterMap fun w => w.by_.cmd).eraseDups.filter fun id => !s.writeWaits id).map .landed }

/-- A read of rank 2, 5 or 6 comes to a group: it ends an idle drain (R360). -/
def State.readComes (g : Nat) (s : State) : State := { s with mem := fmod {} s.mem g fun x => { x with idleDrain := false } }

/-- Waiting writes are tried again, in order, once. -/
def State.pump (s : State) : State :=
  let ws := s.wwait
  (forEach ws (fun w (s : State) => s.wbData (blockOf w.addr) (w.addr % 128) w.data w.by_) { s with wwait := [] }).landed ws

/-- Valid bits of pages [p0, p1) are cleared at once (R392).  Their cells, poison and buffered bytes go too, since a cleared
grant reads as zeros (DEDUCED, log entry 6). -/
def State.clearPages (p0 p1 : Nat) (s : State) : State :=
  let s' := { s with
    validPg := s.validPg.filter fun n => !(p0 ≤ n && n < p1)
    dram := s.dram.filter fun c => !(p0 ≤ dpageOf c.1 && dpageOf c.1 < p1)
    poison := s.poison.filter fun a => !(p0 ≤ dpageOf a && dpageOf a < p1)
    wbuf := s.wbuf.filter fun e => !(p0 ≤ e.1 / 32 && e.1 / 32 < p1)
    wwait := s.wwait.filter fun w => !(p0 ≤ dpageOf w.addr && dpageOf w.addr < p1) }
  s'.landed s.wwait

/-- A word of DRAM, and 64-bit values. -/
def State.wordAt (s : State) (a : Nat) : Word := BitVec.ofNat 32 (ofLe (s.bytesAt a 4))
def State.wordsAt (s : State) (a n : Nat) : List Word := (List.range n).map fun i => s.wordAt (a + 4 * i)

end Sys2Proof.Machine
end

