-- ==== Sys2Proof/Machine/Modes.lean ====
section
/-! DEFINITION. The mode table (R173, R174) and times on a raster. -/

namespace Sys2Proof.Machine

open Sys2Proof

/-- A row of the mode table (R173): pixel clock in kHz, raster sizes, polarities, ORIGIN and STD_ID (R174). -/
structure ModeRow where
  khz : Nat
  ha : Nat
  ht : Nat
  hfp : Nat
  hs : Nat
  va : Nat
  vt : Nat
  vfp : Nat
  vs : Nat
  hpol : Bool
  vpol : Bool
  origin : Nat
  std : Nat
  deriving DecidableEq, Repr

/-- Modes 0 to 15 (R173). -/
def modes0 : List ModeRow :=
  [ ⟨25175, 640, 800, 16, 96, 480, 525, 10, 2, false, false, 0, 4⟩,
    ⟨65000, 1024, 1344, 24, 136, 768, 806, 3, 6, false, false, 0, 16⟩,
    ⟨108000, 1280, 1800, 96, 112, 960, 1000, 1, 3, true, true, 0, 32⟩,
    ⟨108000, 1280, 1688, 48, 112, 1024, 1066, 1, 3, true, true, 0, 35⟩,
    ⟨135000, 1280, 1688, 16, 144, 1024, 1066, 1, 3, true, true, 0, 36⟩,
    ⟨121750, 1400, 1864, 88, 144, 1050, 1089, 3, 4, false, true, 0, 42⟩,
    ⟨108000, 1600, 1800, 24, 80, 900, 1000, 1, 3, true, true, 0, 83⟩,
    ⟨162000, 1600, 2160, 64, 192, 1200, 1250, 1, 3, true, true, 0, 51⟩,
    ⟨146250, 1680, 2240, 104, 176, 1050, 1089, 3, 6, false, true, 0, 58⟩,
    ⟨154000, 1920, 2080, 48, 32, 1200, 1235, 3, 6, true, false, 0, 68⟩,
    ⟨268500, 2560, 2720, 48, 32, 1600, 1646, 3, 6, true, false, 0, 76⟩,
    ⟨74250, 1920, 2750, 638, 44, 1080, 1125, 4, 5, true, true, 1, 32⟩,
    ⟨74250, 1920, 2640, 528, 44, 1080, 1125, 4, 5, true, true, 1, 33⟩,
    ⟨74250, 1920, 2200, 88, 44, 1080, 1125, 4, 5, true, true, 1, 34⟩,
    ⟨148500, 1920, 2640, 528, 44, 1080, 1125, 4, 5, true, true, 1, 31⟩,
    ⟨148500, 1920, 2200, 88, 44, 1080, 1125, 4, 5, true, true, 1, 16⟩ ]

/-- Modes 16 to 31 (R173). -/
def modes1 : List ModeRow :=
  [ ⟨297000, 3840, 5500, 1276, 88, 2160, 2250, 8, 10, true, true, 1, 93⟩,
    ⟨297000, 3840, 5280, 1056, 88, 2160, 2250, 8, 10, true, true, 1, 94⟩,
    ⟨297000, 3840, 4400, 176, 88, 2160, 2250, 8, 10, true, true, 1, 95⟩,
    ⟨594000, 3840, 5280, 1056, 88, 2160, 2250, 8, 10, true, true, 1, 96⟩,
    ⟨594000, 3840, 4400, 176, 88, 2160, 2250, 8, 10, true, true, 1, 97⟩,
    ⟨241500, 2560, 2720, 48, 32, 1440, 1481, 3, 5, true, false, 2, 0⟩,
    ⟨201280, 2560, 2720, 48, 32, 1440, 1480, 3, 6, true, false, 2, 0⟩,
    ⟨223040, 2560, 2720, 48, 32, 1600, 1640, 3, 6, true, false, 2, 0⟩,
    ⟨128960, 1920, 2080, 48, 32, 1200, 1240, 3, 6, true, false, 2, 0⟩,
    ⟨76608, 1280, 1440, 48, 32, 1024, 1064, 3, 6, true, false, 2, 0⟩,
    ⟨94848, 1920, 2080, 48, 32, 720, 760, 3, 6, true, false, 2, 0⟩,
    ⟨79040, 1920, 2080, 48, 32, 720, 760, 3, 6, true, false, 2, 0⟩,
    ⟨268800, 3840, 4000, 48, 32, 1080, 1120, 3, 6, true, false, 2, 0⟩,
    ⟨224000, 3840, 4000, 48, 32, 1080, 1120, 3, 6, true, false, 2, 0⟩,
    ⟨468864, 5120, 5280, 48, 32, 1440, 1480, 3, 6, true, false, 2, 0⟩,
    ⟨390720, 5120, 5280, 48, 32, 1440, 1480, 3, 6, true, false, 2, 0⟩ ]

/-- Modes 32 to 47 (R173). -/
def modes2 : List ModeRow :=
  [ ⟨182784, 2560, 2720, 48, 32, 1080, 1120, 3, 6, true, false, 2, 0⟩,
    ⟨319680, 3440, 3600, 48, 32, 1440, 1480, 3, 6, true, false, 2, 0⟩,
    ⟨266400, 3440, 3600, 48, 32, 1440, 1480, 3, 6, true, false, 2, 0⟩,
    ⟨297600, 3840, 4000, 48, 32, 1200, 1240, 3, 6, true, false, 2, 0⟩,
    ⟨248000, 3840, 4000, 48, 32, 1200, 1240, 3, 6, true, false, 2, 0⟩,
    ⟨393600, 3840, 4000, 48, 32, 1600, 1640, 3, 6, true, false, 2, 0⟩,
    ⟨328000, 3840, 4000, 48, 32, 1600, 1640, 3, 6, true, false, 2, 0⟩,
    ⟨145824, 1080, 1240, 48, 32, 1920, 1960, 3, 6, true, false, 2, 0⟩,
    ⟨121520, 1080, 1240, 48, 32, 1920, 1960, 3, 6, true, false, 2, 0⟩,
    ⟨159936, 1200, 1360, 48, 32, 1920, 1960, 3, 6, true, false, 2, 0⟩,
    ⟨244608, 1920, 2080, 48, 32, 1920, 1960, 3, 6, true, false, 2, 0⟩,
    ⟨72384, 1920, 2080, 48, 32, 540, 580, 3, 6, true, false, 2, 0⟩,
    ⟨44928, 1280, 1440, 48, 32, 480, 520, 3, 6, true, false, 2, 0⟩,
    ⟨67584, 1600, 1760, 48, 32, 600, 640, 3, 6, true, false, 2, 0⟩,
    ⟨124032, 2560, 2720, 48, 32, 720, 760, 3, 6, true, false, 2, 0⟩,
    ⟨182400, 3840, 4000, 48, 32, 720, 760, 3, 6, true, false, 2, 0⟩ ]

/-- The 48 modes (R173). -/
def modeTable : List ModeRow := modes0 ++ modes1 ++ modes2

/-- Mode `i`; an index above 47 is never applied (R175) and reads as mode 15. -/
def modeRow (i : Nat) : ModeRow := modeTable.getD i ⟨148500, 1920, 2200, 88, 44, 1080, 1125, 4, 5, true, true, 1, 16⟩

/-- Frame rate in millihertz, rounded to nearest (R174). -/
def rateMhz (m : ModeRow) : Nat := (m.khz * 2000000 + m.ht * m.vt) / (2 * (m.ht * m.vt))

/-- Word `w` of entry `i` of the mode table window (R174). -/
def modeWord (i w : Nat) : Word :=
  let m := modeRow i
  BitVec.ofNat 32 (if w = 0 then m.khz else if w = 1 then m.ha + 65536 * m.ht else if w = 2 then m.hfp + 65536 * m.hs
    else if w = 3 then m.va + 65536 * m.vt else if w = 4 then m.vfp + 65536 * m.vs
    else if w = 5 then (if m.hpol then 1 else 0) + (if m.vpol then 2 else 0) + 4 * m.origin + 256 * m.std
    else if w = 6 then rateMhz m else 0)

/-- The time of `n` lines of a mode in ns, rounded down (R166). -/
def linesNs (m : ModeRow) (n : Nat) : Nat := n * m.ht * 1000000 / m.khz

/-- The frame period of a mode in ns, rounded down (R176). -/
def frameNs (m : ModeRow) : Nat := m.ht * m.vt * 1000000 / m.khz

/-- The mode of the timing now sent by head `h` (AVE_MODE.ACTIVE_ID). -/
def State.headMode (s : State) (h : Nat) : ModeRow := modeRow (s.gf (pgAve h) R.AVE_MODE_ACTIVE_ID)

/-- Clock period of an island in ps (R21). -/
def State.islandPs (s : State) (isl : Nat) : Nat :=
  if isl = 1 || isl = 2 then 2000 else if isl = 3 then 1250
  else if isl = 5 || isl = 6 then
    (match s.gf 14 R.MEM_FREQ_CURRENT with | 0 => 938 | 1 => 1067 | 2 => 1250 | _ => 1876)
  else if 9 ≤ isl && isl ≤ 16 then 4000000000 / (s.headMode (isl - 9)).khz
  else if 17 ≤ isl && isl ≤ 24 then
    (match s.gf (pgDpl (isl - 17)) R.DPL_STATUS_RATE with | 0 => 6173 | 1 => 3704 | 2 => 1852 | _ => 1235)
  else if isl = 25 then 4000 else if 26 ≤ isl then 10000 else 1000

/-- The local copy of WALLTIME of an island, truncated to one period of its clock (R24).  Where the period has become longer it
holds still rather than run backward (R25, R31). -/
def State.localTime (s : State) (isl : Nat) : Nat :=
  let ps := s.islandPs isl
  max (fget 0 s.localMin isl) (((s.walltime : Int) + fget 0 s.skew isl).toNat * 1000 / ps * ps / 1000)

/-- A change `f` of the clock period of an island: its local copy of WALLTIME goes on from where it stands (R25). -/
def State.rePeriod (isl : Nat) (f : State → State) (s : State) : State :=
  let l := s.localTime isl
  let s := f s
  { s with localMin := fset s.localMin isl l }

/-- Every island's copy of WALLTIME goes on from where it stands, whatever changes next (R25). -/
def State.keepTimes (s : State) : State :=
  { s with localMin := (List.range 30).foldl (fun l i => fset l i (s.localTime i)) s.localMin }

end Sys2Proof.Machine
end

