-- ==== Sys2Proof/Machine/Event.lean ====
section
/-! DEFINITION. Events, error capture and records (R67 to R81, R103, R293, R305, R315): what an occurrence does to its page,
and where its record goes. -/

namespace Sys2Proof.Machine

open Sys2Proof

/-- What a record carries beside its code and page (R77): `time` replaces its WALLTIME (R80), `world` its WORLD bit; `secret`
keeps it to the secure journal; `jrn` and `ring` say whether it goes to the journals and to the instance's ring. -/
structure Ev where
  status : Nat := 0
  d6 : Nat := 0
  d7 : Nat := 0
  detail : Nat := 0
  inst : Option Nat := none
  frame : Option Nat := none
  time : Option Nat := none
  world : Option Bool := none
  secret : Bool := false
  jrn : Bool := true
  ring : Bool := true
  deriving DecidableEq, Repr

/-- The code of an event bit (R69). -/
def evCode (p b : Nat) : Nat := if 29 ≤ b then b else pageType p * 256 + b

/-- The eight words of a record (R77). -/
def State.record (s : State) (p code : Nat) (ev : Ev) : List Word :=
  let w := ev.world.getD (s.secureOwned p)
  let t := ev.time.getD (s.localTime (islandOf p))
  let chain := if s.tf PG_SYS R.SYS_STATE_ADDR_VALID then s.gf PG_SYS R.SYS_STATE_CHAIN_ADDR else 0
  [ BitVec.ofNat 32 (code % 65536 + p * 65536 + ev.inst.getD 0 % 256 * 16777216),
    BitVec.ofNat 32 (ev.status % 256 + (if ev.inst.isSome then 256 else 0) + (if ev.frame.isSome then 512 else 0) +
      (if w then 1024 else 0) + chain * 4096 + ev.detail % 1024 * 4194304),
    lo32 t, hi32 t, BitVec.ofNat 32 (fget 0 s.seqs (islandOf p)), BitVec.ofNat 32 (ev.frame.getD 0),
    BitVec.ofNat 32 ev.d6, BitVec.ofNat 32 ev.d7 ]

/-- The island's sequence number advances by one (R27). -/
def State.stampSeq (p : Nat) (s : State) : State :=
  { s with seqs := fmod 0 s.seqs (islandOf p) fun n => (n + 1) % 4294967296 }

/-! Host memory (R292, R293, R315). -/

/-- Whether the function may issue requests: Bus Master Enable (R293). -/
def State.busMaster (s : State) : Bool := bits (s.rd (cfgKey 4)) 2 1 = 1
/-- Whether the PCIe link is up. -/
def State.linkUp (s : State) : Bool := s.tf PG_PCI R.PCI_LINK_UP

/-- A posted write in the manager's domain (`none`) or under the PASID of an instance is issued (R292). -/
def State.hostPut (who : Option Nat) (a : Nat) (bs : List Byte) (s : State) : State :=
  { s with hostOut := s.hostOut ++ [((match who with | some i => s.ent i 1 0 20 + 1 | none => 0), a, bs)] }

/-- A read of host memory is issued, in the manager's domain (`none`) or under the PASID of an instance (R292). -/
def State.hostGet (who : Option Nat) (a n : Nat) (s : State) : State :=
  { s with hostIn := s.hostIn ++ [((match who with | some i => s.ent i 1 0 20 + 1 | none => 0), a, n)] }

/-- The log entry of a device write to host memory under an instance's PASID, to the page of `a` (R315). -/
def State.hostLog (i a : Nat) (s : State) : State :=
  if s.ent i 56 0 1 = 0 || s.ent i 56 17 1 = 1 then s
  else if !s.busMaster then { s with deferred := s.deferred ++ [.log i a] }
  else
    let slots := 512 * 2 ^ s.ent i 56 8 4
    let w := s.ent i 59 0 19
    if (w + slots - s.ent i 60 0 19 % slots) % slots = slots - 1 then
      if s.ent i 56 16 1 = 1 then s
      else { s.setEnt i 56 16 1 1 with deferred := s.deferred ++ [.logFull i] }
    else (s.hostPut none (s.ent64 i 57 + 8 * w) (leBytes 8 (a / 4096))).setEnt i 59 0 19 ((w + 1) % slots)

/-- The log entries of a write of `n` bytes, one for each page that it touches (R315). -/
def State.hostLogs (i a n : Nat) (s : State) : State :=
  forNat ((a + n - 1) / 4096 + 1 - a / 4096) (fun k s => s.hostLog i (if k = 0 then a else (a / 4096 + k) * 4096)) s

/-- A device write to host memory for instance `i`, with its log entries. -/
def State.instWrite (i a : Nat) (bs : List Byte) (s : State) : State := (s.hostLogs i a bs.length).hostPut (some i) a bs

/-- Slots of an instance's event ring (R300). -/
def State.evtSlots (s : State) (i : Nat) : Nat := 128 * 2 ^ s.ent i 38 0 4
/-- Whether the event ring of an instance is full (R305). -/
def State.evtFull (s : State) (i : Nat) : Bool :=
  let n := s.evtSlots i
  ((s.win i 0x10).toNat + n - (s.win i 0x14).toNat % n) % n = n - 1

/-- A record is dropped and counted in WIN_EVT_LOST (R305). -/
def State.evtLost (i t : Nat) (s : State) : State :=
  let n := (s.win i 0x18).toNat
  let s := if n = 0 then s.setInst i fun x => { x with lostAt := t } else s
  s.setWin i 0x18 (BitVec.ofNat 32 (min (n + 1) 4294967295))

/-- A record is written to the event ring of an instance (R305); while the link is down it is held (R295). -/
def State.ringPut (i : Nat) (rec : List Word) (s : State) : State :=
  let t := pair64 (nthW rec 2) (nthW rec 3)
  if !s.linkUp then
    let held := (s.inst i).heldRecs
    let s := if 64 ≤ held.length then
        let o := held.headD []
        s.evtLost i (pair64 (nthW o 2) (nthW o 3)) else s
    s.setInst i fun x => { x with heldRecs := (if 64 ≤ held.length then held.drop 1 else held) ++ [rec] }
  else if s.evtFull i then s.evtLost i t
  else
    let w := (s.win i 0x10).toNat
    let a := s.ent64 i 36 + 32 * w
    if !s.busMaster then let s := s.hostLogs i a 32; { s with deferred := s.deferred ++ [.ring i a] }
    else (s.instWrite i a (wordBytes rec)).setWin i 0x10 (BitVec.ofNat 32 ((w + 1) % s.evtSlots i))

/-- The event ring of an instance takes records while it is ACTIVE or SUSPENDED (R305). -/
def State.toRing (i : Nat) (rec : List Word) (s : State) : State :=
  if s.instState i = iACTIVE || s.instState i = iSUSPENDED then s.ringPut i rec else s

/-! Journals (R78 to R81). -/

def State.jrnSlots (s : State) (p : Nat) : Nat := 128 * 2 ^ s.gf p R.JRN_CTRL_SIZE
def State.jrnFull (s : State) (p : Nat) : Bool :=
  let n := s.jrnSlots p
  (s.gf p R.JRN_WR_INDEX + n - s.gf p R.JRN_RD_INDEX % n) % n = n - 1
def State.jrnUnread (s : State) (p : Nat) : Nat :=
  let n := s.jrnSlots p
  (s.gf p R.JRN_WR_INDEX + n - s.gf p R.JRN_RD_INDEX % n) % n

/-- The flag part of an occurrence (R67): RAW and LAST_EVT_TIME, or EVT_MISS where the bit was already 1. -/
def State.flagEvt (p b : Nat) (s : State) : State :=
  let t := s.localTime (islandOf p)
  let s := s.s64 p R.LAST_EVT_TIME_LO_TIME R.LAST_EVT_TIME_HI_TIME t
  let raw := s.gf p R.EVT_RAW_RAW
  if bit raw b then (s.bump p R.EVT_MISS_COUNT 1).sf p R.EVT_MISS_LAST_BIT b
  else s.sf p R.EVT_RAW_RAW (setBit raw b true)

/-- Whether an occurrence of event bit `b` makes a record (R67). -/
def State.recordDue (s : State) (p b : Nat) : Bool :=
  !bit (s.gf p R.EVT_RAW_RAW) b && bit (s.gf p R.EVT_ENABLE_ENABLE) b

/-- The slot a journal writes next takes a record (R79); what lies below the watermark the normal journal does not reach (R325). -/
def State.jrnStore (p : Nat) (rec : List Word) (s : State) : State :=
  let w := s.gf p R.JRN_WR_INDEX
  let a := s.g64 p R.JRN_BASE_LO_BASE R.JRN_BASE_HI_BASE / 4096 * 4096 + 32 * w
  let s := s.noteAccess (some 4) (p = PG_JRN_S) none a 32
  (if p != PG_JRN_S && decide (a < s.wmDram) then s else s.dput a (wordBytes rec) { sec := p = PG_JRN_S }).sf p R.JRN_WR_INDEX ((w + 1) % s.jrnSlots p)

/-- A record is dropped and counted (R80). -/
def State.jrnDrop (p : Nat) (rec : List Word) (s : State) : State :=
  let s := if s.gf p R.JRN_LOST_COUNT = 0 then { s with jrnGap := fset s.jrnGap p (pair64 (nthW rec 2) (nthW rec 3)) } else s
  s.bump p R.JRN_LOST_COUNT 1

/-- A journal's own record, made on bit `b` of its page: into its ring, or dropped and counted (R81). -/
def State.jrnOwn (p b : Nat) (ev : Ev) (s : State) : State :=
  let due := s.recordDue p b
  let s := s.flagEvt p b
  if !due then s else
    let r := s.record p (evCode p b) ev
    let s := s.stampSeq p
    if s.jrnFull p then (s.jrnDrop p r).flagEvt p 1 else s.jrnStore p r

/-- A record reaches the ring of journal page `p` (R78 to R81). -/
def State.jrnPut (p : Nat) (rec : List Word) (s : State) : State :=
  if !s.tf p R.JRN_CTRL_ENABLE then s
  else if s.jrnFull p then
    let s := s.jrnDrop p rec
    s.jrnOwn p 1 { d6 := s.gf p R.JRN_LOST_COUNT }
  else
    let s := s.jrnStore p rec
    if s.jrnUnread p = s.gf p R.JRN_CTRL_THRESH then s.jrnOwn p 0 { d6 := s.jrnUnread p } else s

/-- A record is made and goes where R78 sends it. -/
def State.emit (p code : Nat) (ev : Ev) (s : State) : State :=
  let w := ev.world.getD (s.secureOwned p)
  let r := s.record p code ev
  let s := s.stampSeq p
  if p = PG_JRN_N || p = PG_JRN_S then s.jrnPut p r
  else
    let hide := secureOnlyPage p || w || ev.secret
    let s := if ev.jrn then s.jrnPut PG_JRN_S r else s
    let s := if ev.jrn && !hide then s.jrnPut PG_JRN_N r else s
    match ev.inst with
    | some i => if ev.ring && !hide then s.toRing i r else s
    | none => s

/-- An occurrence of event bit `b` of page `p` (R67). -/
def State.raise (p b : Nat) (ev : Ev) (s : State) : State :=
  let due := s.recordDue p b
  let s := s.flagEvt p b
  if due then s.emit p (evCode p b) ev else s

/-- An operation of page `p` completes with an error: counted, and captured when no capture is held (R76).  No rule says what a
block puts into DETAIL: it is a free value (log entry 9). -/
def State.err (p code : Nat) (s : State) : State :=
  let s := s.bump p R.ERR_COUNT_ERRORS 1
  if s.tf p R.ERR_CAPTURE_VALID then s
  else
    let d := s.free.toNat % 65536
    (((s.useFree.sf p R.ERR_CAPTURE_CODE code).sf p R.ERR_CAPTURE_DETAIL d).sf p R.ERR_CAPTURE_VALID 1).raise p 30
      { d6 := code, d7 := d }

/-- A fault of page `p` is classified transient (R71): the count, and a record with status RETRIED_OK. -/
def State.transient (p code : Nat) (ev : Ev) (s : State) : State :=
  (s.bump p R.ERR_COUNT_TRANSIENT 1).emit p code { ev with status := RETRIED_OK }

/-- The performance counters that select event `ev` move up by `n` (R350): not for a secure agent, and under an instance filter
only for that instance's events.  A wrap raises PERF_OVERFLOW. -/
def State.perf (ev n : Nat) (inst : Option Nat) (sec : Bool) (s : State) : State :=
  if sec || !s.tf PG_PERF R.PERF_CTRL_EN || s.tf PG_PERF R.PERF_CTRL_FREEZE then s
  else forNat 32 (fun k s =>
    if s.gf PG_PERF (R.PERF_SEL_EVENT k) != ev || ev = 0 then s
    else if s.tf PG_PERF (R.PERF_SEL_INST_EN k) && inst != some (s.gf PG_PERF (R.PERF_SEL_INSTANCE k)) then s
    else
      let c := s.gf PG_PERF (R.PERF_CNT_LO_COUNT k) + 4294967296 * s.gf PG_PERF (R.PERF_CNT_HI_COUNT k) + n
      let s := (s.sf PG_PERF (R.PERF_CNT_LO_COUNT k) c).sf PG_PERF (R.PERF_CNT_HI_COUNT k) (c / 4294967296)
      if 2 ^ 48 ≤ c then s.raise PG_PERF 0 { d6 := k } else s) s

/-- EVT_STATUS reads EVT_RAW AND EVT_ENABLE. -/
def State.evtStatus (s : State) (p : Nat) : Nat := s.gf p R.EVT_RAW_RAW &&& s.gf p R.EVT_ENABLE_ENABLE

/-- Whether VDDIO bank `k`, A to E, was outside both tolerance bands when RESET_N rose: its pins stay in their reset state (R484). -/
def State.bankBad (s : State) (k : Nat) : Bool := bit (s.gf PG_MON R.MON_STATUS_BANK_BAD) k

/-- Whether SMP_IRQ_N, a pin of bank A, is driven low: a secure-only or secure-owned page requests its interrupt (R68, R501). -/
def State.smpIrqLow (s : State) : Bool :=
  !s.bankBad 0 && allPages.any fun p => (secureOnlyPage p || s.secureOwned p) && s.evtStatus p != 0

/-- Whether page `p` requests MSI-X vector `v` (R68). -/
def State.pageRequests (s : State) (p v : Nat) : Bool :=
  s.evtStatus p != 0 && !s.secureOwned p && s.tf PG_PCI (R.PCI_PAGE_VEC_EN p) && s.gf PG_PCI (R.PCI_PAGE_VEC_VEC p) = v

/-- Whether instance `i` requests vector `v`: its unread slots number EVT_THRESH or more (R305).  An UNASSIGNED entry is cleared. -/
def State.instRequests (s : State) (i v : Nat) : Bool :=
  s.instState i != iUNASSIGNED && s.ent i 6 0 11 = v &&
    s.ent i 6 16 16 ≤ ((s.win i 0x10).toNat + s.evtSlots i - (s.win i 0x14).toNat % s.evtSlots i) % s.evtSlots i

/-- Whether any source requests vector `v`. -/
def State.vectorRequested (s : State) (v : Nat) : Bool :=
  (allPages.any fun p => s.pageRequests p v) || ((List.range 256).any fun i => s.instRequests i v)

end Sys2Proof.Machine
end

