-- ==== Sys2Proof/Machine/Mem.lean ====
section
/-! DEFINITION. Accesses to device DRAM by agents (R325, R355), word decoding (R383 to R388) and the Sweeper's log (R399, R400). -/

namespace Sys2Proof.Machine

open Sys2Proof

/-- Who makes an access: its requester code (page WMARK), its instance, its world (R323). -/
structure Agent where
  code : Nat
  inst : Option Nat := none
  secure : Bool := false
  deriving DecidableEq, Repr

/-- The SDT, SRAM watermarks (R326, R327) are register fields; here the outcome of an access of `n` bytes at `a`: below the
watermark SECURE_DENIED (R325), both MEM pages in FAULT MEM_ERROR (R369), any block at or above the capacity BAD_ARG (R355). -/
def State.memCode (s : State) (ag : Agent) (a n : Nat) : Nat :=
  if n = 0 then OK
  else if !ag.secure && a < s.wmDram then SECURE_DENIED
  else if s.pstate 14 = pFAULT || s.pstate 15 = pFAULT then MEM_ERROR
  else if s.capBytes < (a + n + 127) / 128 * 128 then BAD_ARG
  else OK

/-- A blocked access (R325): the first violation is held, WM_VIOLATION is raised and SECURE_DENIED captured. -/
def State.wmViolation (ag : Agent) (a : Nat) (s : State) : State :=
  let s := if s.tf PG_WMARK R.WM_VIOL_INFO_VALID then s
    else
      let s := s.s64 PG_WMARK R.WM_VIOL_ADDR_LO_ADDR R.WM_VIOL_ADDR_HI_ADDR a
      let s := (s.sf PG_WMARK R.WM_VIOL_INFO_AGENT ag.code).sf PG_WMARK R.WM_VIOL_INFO_INSTANCE (ag.inst.getD 0)
      (s.sf PG_WMARK R.WM_VIOL_INFO_INST_VALID (if ag.inst.isSome then 1 else 0)).sf PG_WMARK R.WM_VIOL_INFO_VALID 1
  let s := s.raise PG_WMARK 0 { status := SECURE_DENIED, d6 := a, d7 := ag.code, inst := ag.inst }
  s.err PG_WMARK SECURE_DENIED

/-- Each block at or above the capacity that an access touches is captured on its group's page (R355). -/
def State.capErrors (a n : Nat) (s : State) : State :=
  if n = 0 then s else
  let b0 := max (blockOf a) (s.capBytes / 128)
  forNat (blockOf (a + n - 1) + 1 - b0) (fun k s => s.err (pgMem ((b0 + k) % 2)) BAD_ARG) s

/-- What an access with outcome `c` does beside moving data. -/
def State.accessNote (ag : Agent) (a n c : Nat) (s : State) : State :=
  if c = SECURE_DENIED then s.wmViolation ag a else if c = BAD_ARG then s.capErrors a n else s

/-- A write by an agent: blocked below the watermark, dropped at or above the capacity, else stored (R325, R355). -/
def State.memWrite (ag : Agent) (a : Nat) (bs : List Byte) (s : State) (by_ : Writer := {}) : State :=
  let c := s.memCode ag a bs.length
  let s := if c = OK || c = BAD_ARG then s.dput a bs { by_ with inst := ag.inst, sec := ag.secure } else s
  s.accessNote ag a bs.length c

/-- What a read by an agent returns: zeros where it is blocked. -/
def State.memBytes (s : State) (ag : Agent) (a n : Nat) : List Byte :=
  let c := s.memCode ag a n
  if c = OK || c = BAD_ARG then s.bytesAt a n else List.replicate n 0#8

/-- A read of a poisoned word raises POISON_READ and the page counts MEM_ERROR (R385). -/
def State.poisonRead (w : Nat) (inst : Option Nat) (s : State) : State :=
  let p := pgMem (groupOf (blockOf w))
  let sec := decide (w < s.wmDram)
  (s.raise p 11 { status := MEM_ERROR, d6 := w, d7 := w / 4294967296, inst := inst, secret := sec }).err p MEM_ERROR

/-! The Sweeper's log (R399, R400). -/

/-- Entry `e` of group `g`'s log, and its update. -/
def State.logEnt (s : State) (g e : Nat) : LogEnt := fget {} s.logs (64 * g + e)
def State.setLog (g e : Nat) (x : LogEnt) (s : State) : State := { s with logs := fset s.logs (64 * g + e) x }

/-- The entry that names a word address. -/
def State.logFind (s : State) (g a : Nat) : Option Nat :=
  (List.range 64).find? fun e => (s.logEnt g e).state != 0 && (s.logEnt g e).addr == a

/-- The entry with the oldest last correction among those in state `st`. -/
def State.logOldest (s : State) (g st : Nat) : Option Nat :=
  (List.range 64).foldl (fun best e =>
    if (s.logEnt g e).state != st then best
    else match best with
      | none => some e
      | some b => if (s.logEnt g e).at_ < (s.logEnt g b).at_ then some e else best) none

/-- The entry that a new address takes: a free one (the lowest, DESIGN CHOICE, log entry 7), else R400's. -/
def State.logSlot (s : State) (g : Nat) : Option Nat :=
  match (List.range 64).find? fun e => (s.logEnt g e).state == 0 with
  | some e => some e
  | none => match s.logOldest g 1 with
    | some e => some e
    | none => s.logOldest g 2

/-- A correction of the word at `a` is logged (R399, R400). -/
def State.logCorrect (g a channel position : Nat) (s : State) : State :=
  let t := s.localTime (5 + g)
  let sec := decide (a < s.wmDram)
  match s.logFind g a with
  | some e =>
    let x := s.logEnt g e
    let y := { x with channel, position, at_ := t }
    if x.state = 1 then s.setLog g e { y with
      count := min (x.count + 1) 15, queued := x.queued || x.count + 1 = 4, queuedAt := if x.queued then x.queuedAt else s.walltime }
    else if x.state = 2 then
      (s.setLog g e { y with state := 3 }).raise (pgSwp g) 1 { d6 := a, d7 := e, secret := sec }
    else if x.state = 3 then s.setLog g e y
    else s.setLog g e { x with at_ := t }
  | none =>
    match s.logSlot g with
    | some e => s.setLog g e { state := 1, addr := a, count := 1, channel, position, at_ := t }
    | none => (s.bump (pgSwp g) R.SWP_LOG_STAT_DROPPED 1).raise (pgSwp g) 6 { d6 := a, secret := sec }

/-- A lasting uncorrectable read of the word at `a` is logged (R399). -/
def State.logUncorr (g a : Nat) (s : State) : State :=
  let t := s.localTime (5 + g)
  match s.logFind g a with
  | some e =>
    let x := s.logEnt g e
    if x.state = 3 then s.setLog g e { x with at_ := t }
    else s.setLog g e { x with state := 4, position := 0x7F, at_ := t, queued := false, urgent := false }
  | none => match s.logSlot g with
    | some e => s.setLog g e { state := 4, addr := a, position := 0x7F, at_ := t }
    | none => s

/-- A write rewrites the word: a COUNTING entry goes FREE (R399). -/
def State.logWritten (g a : Nat) (s : State) : State :=
  match s.logFind g a with
  | some e => if (s.logEnt g e).state = 1 then s.setLog g e {} else s
  | none => s

/-! Decoding the words of a block (R383, R385, R387). -/

/-- The state of a word after decoding: clean, corrected, uncorrectable or poisoned. -/
inductive WordSt where
  | covered | clean | corrected (flips : List Nat) | uncorr | poisoned
  deriving DecidableEq, Repr

/-- The 80 stored bits of the word at `a` as DRAM holds them. -/
def State.storedWord (s : State) (a : Nat) : Nat :=
  eccEncode (ofLe ((List.range 8).map fun i => fget 0#8 s.dram (a + i))) (s.poison.contains a)

/-- The errors (by word index) that strike a read of a block. -/
def errMask (errs : List (Nat × Nat)) (k : Nat) : Nat := errs.foldl (fun m e => if e.1 = k then m ^^^ e.2 else m) 0

/-- How word `k` of block `blk` reads when `errs` strike the stored bits; a covered word is never in error (R387), a word of an
invalid or filling page is not decoded (R390). -/
def State.wordSt (s : State) (blk : Nat) (errs : List (Nat × Nat)) (k : Nat) : WordSt :=
  let a := blk * 128 + 8 * k
  let e := fget ({} : WbEntry) s.wbuf blk
  if (List.range 8).all fun i => fhas e.bytes (8 * k + i) then .covered
  else if !s.pageValid (dpageOf a) then .clean
  else
    let cw := s.storedWord a ^^^ errMask errs k
    match eccFlips cw with
    | none => .uncorr
    | some js => if eccPoison (eccFlip cw js) then .poisoned else if js.isEmpty then .clean else .corrected js

/-- The data bits that a read of word `k` gives: decoded where it can be, else raw. -/
def State.wordRaw (s : State) (blk : Nat) (errs : List (Nat × Nat)) (k : Nat) : Nat :=
  let cw := s.storedWord (blk * 128 + 8 * k) ^^^ errMask errs k
  match eccFlips cw with
  | none => eccData cw
  | some js => eccData (eccFlip cw js)

/-- A read corrects the word at `a`: counted, logged, ECC_CORRECTED (R404). -/
def State.corrected (blk k : Nat) (js : List Nat) (inst : Option Nat) (sec : Bool) (s : State) : State :=
  let g := groupOf blk
  let a := blk * 128 + 8 * k
  let pos := js.headD 79
  let ch := eccChannel k pos
  let s := s.bump (pgSwp g) R.SWP_ECC_CORR_WORDS 1
  let s := s.raise (pgMem g) 9 { d6 := a, d7 := pos + ch * 256 + (if js.length = 2 then 65536 else 0),
                                 secret := decide (a < s.wmDram) }
  let s := s.perf 0x0F 1 inst sec
  s.logCorrect g a ch pos

/-- A lasting uncorrectable read of the word at `a` (R71, R379): READ_FAULT, the capture, the log. -/
def State.readFault (blk k : Nat) (inst : Option Nat) (s : State) : State :=
  let g := groupOf blk
  let a := blk * 128 + 8 * k
  let s := s.bump (pgSwp g) R.SWP_ECC_UNCORR_LASTING 1
  let s := s.raise (pgMem g) 8 { status := MEM_ERROR, d6 := a, d7 := a / 4294967296, inst := inst, secret := decide (a < s.wmDram) }
  (s.err (pgMem g) MEM_ERROR).logUncorr g a

/-- An uncorrectable read that the retry cleared (R71): the record of READ_FAULT with RETRIED_OK. -/
def State.readTransient (a : Nat) (s : State) : State :=
  let g := groupOf (blockOf a)
  (s.bump (pgSwp g) R.SWP_ECC_UNCORR_TRANSIENT 1).transient (pgMem g) 0x0708
    { d6 := a, d7 := a / 4294967296, secret := decide (a < s.wmDram) }

/-- Word indexes of a block in one decoded state. -/
def State.uncorrWords (s : State) (blk : Nat) (errs : List (Nat × Nat)) : List Nat :=
  (List.range 16).filter fun k => s.wordSt blk errs k == .uncorr
def State.poisonWords (s : State) (blk : Nat) (errs : List (Nat × Nat)) : List Nat :=
  (List.range 16).filter fun k => s.wordSt blk errs k == .poisoned

/-- The corrections that a read of a block makes are counted and logged. -/
def State.noteCorrections (blk : Nat) (errs : List (Nat × Nat)) (inst : Option Nat) (sec : Bool) (s : State) : State :=
  forNat 16 (fun k s' => match s.wordSt blk errs k with
    | .corrected js => s'.corrected blk k js inst sec
    | _ => s') s

/-- A block has been read from DRAM. -/
def State.countRead (blk : Nat) (inst : Option Nat) (sec : Bool) (s : State) : State :=
  (s.bumpW (pgMem (groupOf blk)) R.MEM_RD_BLOCKS_BLOCKS 1).perf 0x06 1 inst sec

/-- Words of a second attempt that fail: uncorrectable, or poisoned now and not before (R72). -/
def State.lastingWords (s : State) (blk : Nat) (retry : List (Nat × Nat)) (poison : List Nat) : List Nat :=
  (List.range 16).filter fun k =>
    s.wordSt blk retry k == .uncorr || (s.wordSt blk retry k == .poisoned && !poison.contains k)

/-- A lasting read of a block (R71): READ_FAULT for its lowest failing word, and every such word in the log (R399). -/
def State.lastingRead (blk : Nat) (ks : List Nat) (inst : Option Nat) (s : State) : State :=
  match ks with
  | [] => s
  | k :: rest => forEach rest (fun k s => s.logUncorr (groupOf blk) (blk * 128 + 8 * k)) (s.readFault blk k inst)

/-- The bytes of a write-buffer entry that fall in word `k` of its block, into DRAM. -/
def State.storeWord (blk k : Nat) (s : State) : State :=
  let e := fget ({} : WbEntry) s.wbuf blk
  let a := blk * 128 + 8 * k
  { s with dram := (List.range 8).foldl (fun m i =>
      if fhas e.bytes (8 * k + i) then cellSet m (a + i) (fget 0#8 e.bytes (8 * k + i)) else m) s.dram }

/-- A word of DRAM takes 64 data bits. -/
def State.storeRaw (a raw : Nat) (s : State) : State :=
  { s with dram := (List.range 8).foldl (fun m i => cellSet m (a + i) (BitVec.ofNat 8 (raw / 256 ^ i))) s.dram }

/-- A partial write over an uncorrectable or poisoned word stores it poisoned, merged over its raw bits (R386). -/
def State.writePoison (blk k raw : Nat) (s : State) : State :=
  let a := blk * 128 + 8 * k
  let p := pgMem (groupOf blk)
  let s := (s.storeRaw a raw).storeWord blk k
  let s := { s with poison := nadd s.poison a }
  let s := s.bump (pgSwp (groupOf blk)) R.SWP_POISON_WRITES 1
  let who := (s.dirtyOwners a).head?
  let sec := decide (a < s.wmDram)
  (s.raise p 10 { status := MEM_ERROR, d6 := a, d7 := a / 4294967296, inst := who, secret := sec }).err p MEM_ERROR

/-- The words of a buffered block that are merged over old words of a valid page by read-modify-write (R386). -/
def State.partWords (s : State) (blk : Nat) : List Nat :=
  let e := fget ({} : WbEntry) s.wbuf blk
  if !s.pageValid (dpageOf (blk * 128)) then []
  else (List.range 16).filter fun k =>
    (List.range 8).any (fun i => fhas e.bytes (8 * k + i)) && (List.range 8).any fun i => !fhas e.bytes (8 * k + i)

/-- The read of a read-modify-write (R71, R386, R387): what its second attempt, if there is one, makes of the words that it needs. -/
def State.partRead (blk : Nat) (errs retry : List (Nat × Nat)) (parts : List Nat) (s : State) : State :=
  let bad := parts.filter fun k => s.wordSt blk errs k == .uncorr
  let s := s.countRead blk none false
  if bad.isEmpty then s
  else
    let s := s.countRead blk none false
    let last := (s.lastingWords blk retry (s.poisonWords blk errs)).filter parts.contains
    if last.isEmpty then s.readTransient (blk * 128 + 8 * bad.headD 0) else s.lastingRead blk last none

/-- A word of a block is written to DRAM from its write-buffer entry (R359, R386): a whole word is encoded directly and clears its poison; a
partly covered word of a valid page is merged over the old word, which `errs` struck on the last attempt. -/
def State.writeWord (blk : Nat) (errs : List (Nat × Nat)) (k : Nat) (s : State) : State :=
  let e := fget ({} : WbEntry) s.wbuf blk
  let a := blk * 128 + 8 * k
  let g := groupOf blk
  let n := ((List.range 8).filter fun i => fhas e.bytes (8 * k + i)).length
  if n = 0 then s
  else if n = 8 then ({ s with poison := ndel s.poison a }.storeWord blk k).logWritten g a
  else if !s.pageValid (dpageOf a) then s.storeWord blk k
  else match s.wordSt blk errs k with
    | .uncorr => s.writePoison blk k (s.wordRaw blk errs k)
    | .poisoned => s.writePoison blk k (s.wordRaw blk errs k)
    | .corrected js => (((s.corrected blk k js none false).storeRaw a (s.wordRaw blk errs k)).storeWord blk k).logWritten g a
    | _ => (s.storeWord blk k).logWritten g a

/-- A drain ends when occupancy has fallen to 24 (R360). -/
def State.drainEnd (g : Nat) (s : State) : State :=
  if s.wbOcc g ≤ 24 then s.sf (pgMem g) R.MEM_STATUS_DRAINING 0 else s

/-- Writes a whole buffered block to DRAM and frees its entry. -/
def State.writeBlock (blk : Nat) (errs retry : List (Nat × Nat)) (s : State) : State :=
  let s := if s.pageValid (dpageOf (blk * 128)) then s else s.startFill (dpageOf (blk * 128))
  let parts := s.partWords blk
  let final := if parts.any fun k => s.wordSt blk errs k == .uncorr then retry else errs
  let s := if parts.isEmpty then s else s.partRead blk errs retry parts
  let s := forNat 16 (fun k s => s.writeWord blk final k) s
  let sec := !(fget ({} : WbEntry) s.wbuf blk).normal
  let s := { s with wbuf := fdel s.wbuf blk }.bumpW (pgMem (groupOf blk)) R.MEM_WR_BLOCKS_BLOCKS 1
  (((s.perf 0x07 1 none sec).wbShow (groupOf blk)).drainEnd (groupOf blk)).pump

/-! Real-time capacity (R363). -/

/-- Raw bandwidth of a set point in MB/s (R356). -/
def rawMbps : Nat → Nat
  | 0 => 136528
  | 1 => 120000
  | 2 => 102400
  | _ => 68256

/-- MEM_RT_CAP for a set point (R363): raw × E × K, to the nearest 100 MB/s; 0 before initialisation and in FAULT. -/
def State.capacityAt (s : State) (sp : Nat) : Nat :=
  if s.gf 14 R.MEM_CFG_CAP_GIB = 0 || s.pstate 14 = pFAULT || s.pstate 15 = pFAULT then 0
  else
    let rate := max (s.gf 14 R.MEM_STATUS_REF_RATE) (s.gf 15 R.MEM_STATUS_REF_RATE)
    let e := if rate = 0 then 88 else if rate = 1 then 84 else 76
    let k := if s.pstate 14 = pSERVICE || s.pstate 15 = pSERVICE then s.gf 14 R.MEM_SVC_KEEP else 256
    (2 * rawMbps sp * e * k + 2560000) / 5120000 * 100

end Sys2Proof.Machine
end

