-- ==== Sys2Proof/Machine/Lists.lean ====
section
/-! DEFINITION. Command lists (R95 to R103): headers, checks and refusal, completion and its records.  A ring is named by `q`:
4 × instance + ring, or 1024 + ring for the secure rings (R330). -/

namespace Sys2Proof.Machine

open Sys2Proof

/-- World, instance and ring number of ring `q`. -/
def qSecure (q : Nat) : Bool := 1024 ≤ q
def qInst (q : Nat) : Option Nat := if qSecure q then none else some (q / 4)
def qRing (q : Nat) : Nat := if qSecure q then q - 1024 else q % 4
/-- The agent a list command is (R323); `code` 2 a Conductor, 3 the upload engine. -/
def qAgent (q code : Nat) : Agent := { code, inst := qInst q, secure := qSecure q }

/-- The list of a ring, and its update. -/
def State.lr (s : State) (q : Nat) : ListRun := fget {} s.lists q
def State.setLr (q : Nat) (f : ListRun → ListRun) (s : State) : State := { s with lists := fmod {} s.lists q f }

/-- The word index of a list's present command: the next to run, or the one waited for. -/
def ListRun.here (l : ListRun) : Nat := if l.st = .running then l.pc else l.idx

/-! The header word (R95). -/
def hOp (w : Word) : Nat := bits w 0 8
def hLen (w : Word) : Nat := bits w 8 8
def hSync (w : Word) : Bool := bits w 16 1 = 1
def hNotify (w : Word) : Bool := bits w 17 1 = 1
def hFlag (w : Word) (b : Nat) : Bool := bits w b 1 = 1
def hWorld (w : Word) : Bool := bits w 31 1 = 1

/-- The opcodes of R105. -/
def definedOp (op : Nat) : Bool :=
  [0x00, 0x01, 0x10, 0x11, 0x20, 0x21, 0x22, 0x30, 0x31, 0x32, 0x33, 0x34, 0x40, 0x41, 0x42, 0x50, 0x51, 0x60, 0x61, 0x70].contains op

/-- Slots of a submit ring (R300, R330), its base, head and tail. -/
def State.subSlots (s : State) (q : Nat) : Nat :=
  256 * 2 ^ (if qSecure q then s.gf PG_SEC (R.SEC_SUB_CTRL_SIZE (qRing q)) else s.ent (q / 4) (42 + 4 * (q % 4)) 0 4)
def State.subHead (s : State) (q : Nat) : Nat :=
  if qSecure q then s.gf PG_SEC (R.SEC_SUB_TAIL_HEAD (qRing q)) else (s.win (q / 4) (0x24 + 8 * (q % 4))).toNat
def State.subTail (s : State) (q : Nat) : Nat :=
  if qSecure q then s.gf PG_SEC (R.SEC_SUB_TAIL_TAIL (qRing q)) else (s.win (q / 4) (0x20 + 8 * (q % 4))).toNat
def State.subBase (s : State) (q : Nat) : Nat :=
  if qSecure q then s.g64 PG_SEC (R.SEC_SUB_BASE_LO_BASE (qRing q)) (R.SEC_SUB_BASE_HI_BASE (qRing q))
  else s.ent64 (q / 4) (40 + 4 * (q % 4))
def State.subEn (s : State) (q : Nat) : Bool :=
  if qSecure q then s.tf PG_SEC (R.SEC_SUB_CTRL_EN (qRing q)) else s.ent (q / 4) (42 + 4 * (q % 4)) 8 1 = 1
/-- Whether the ring lies in device DRAM. -/
def State.subInDram (s : State) (q : Nat) : Bool := qSecure q || s.ent (q / 4) (42 + 4 * (q % 4)) 9 1 = 1

/-- HEAD advances past a slot (R304). -/
def State.headAdvance (q : Nat) (s : State) : State :=
  let h := (s.subHead q + 1) % s.subSlots q
  if qSecure q then s.sf PG_SEC (R.SEC_SUB_TAIL_HEAD (qRing q)) h else s.setWin (q / 4) (0x24 + 8 * (q % 4)) (BitVec.ofNat 32 h)

/-- A record of a list (R103): to the instance's event ring and the journals of R78, or for a secure list to the secure journal
only; `det` is word 1 bits 26:24. -/
def State.listRec (q cnd code det : Nat) (ev : Ev) (s : State) : State :=
  s.emit (pgCnd cnd) code { ev with inst := qInst q, detail := qRing q + 4 * det, secret := qSecure q }

/-- A halt that waited for the Conductor's secure list takes effect (R349). -/
def State.pendingHalt (q cnd : Nat) (s : State) : State :=
  if qSecure q && s.haltReq.contains cnd then
    { s with haltReq := ndel s.haltReq cnd }.sf PG_DEBUG R.DBG_STATUS_CND_HALTED
      (setBit (s.gf PG_DEBUG R.DBG_STATUS_CND_HALTED) cnd true)
  else s

/-- Whether instance `i` has Conductor work queued: a running list or a ring with a slot filled (R307). -/
def State.cndWork (s : State) (i : Nat) : Bool :=
  (List.range 4).any fun r => (s.lr (4 * i + r)).st != .idle || s.subHead (4 * i + r) != s.subTail (4 * i + r)

/-- An instance with no Conductor work queued carries no surplus (R307). -/
def State.cndIdle (i : Nat) (s : State) : State := if s.cndWork i then s else s.setInst i fun x => { x with cndDeficit := 0 }

/-- The time for which a list has run since it was taken or last waited is charged to its instance (R307). -/
def State.chargeRun (q : Nat) (s : State) : State :=
  let l := s.lr q
  let s := s.setLr q fun x => { x with startAt := s.walltime }
  if qSecure q || l.st != .running then s
  else
    -- a Conductor runs at 800 MHz (R21): its busy cycles (R350)
    let ns := s.walltime - l.startAt
    (s.setInst (q / 4) fun x => { x with cndDeficit := x.cndDeficit - (ns : Int) }).perf 0x01 (ns * 4 / 5) (qInst q) false

/-- A list ends with its one LIST_COMPLETE record (R103); HEAD advances (R304). -/
def State.listEnd (q code idx : Nat) (s : State) : State :=
  let l := s.lr q
  let s := (s.chargeRun q).listRec q l.cnd 0x0320 0 { status := code, d6 := idx, d7 := l.tag }
  let s := (s.headAdvance q).setLr q fun _ => {}
  let s := (s.perf 0x03 1 (qInst q) (qSecure q)).pendingHalt q l.cnd
  if qSecure q then s else s.cndIdle (q / 4)

/-- A list halts at word `idx`: refused (R100, event bit 0) or failed (R101, R102, event bit 1). -/
def State.haltList (q idx code b : Nat) (s : State) : State :=
  let l := s.lr q
  let s := s.listEnd q code idx
  let s := s.raise (pgCnd l.cnd) b { status := code, d6 := idx, d7 := (nthW l.words idx).toNat, inst := qInst q, secret := qSecure q }
  s.err (pgCnd l.cnd) code

/-- The command at the list's position is refused (R100). -/
def State.refuse (q code : Nat) (s : State) : State :=
  (s.perf 0x04 1 (qInst q) (qSecure q)).haltList q (s.lr q).pc code 0

/-- A list whose words have run out halts just past the last word (R102). -/
def State.exhaust (q : Nat) (s : State) : State :=
  let l := s.lr q
  if l.st = .running && l.words.length ≤ l.pc then s.haltList q l.words.length BAD_ARG 1 else s

/-- The CMD_NOTE record of a command that completes (R103). -/
def State.cmdNote (q cnd idx code result : Nat) (s : State) : State :=
  s.listRec q cnd 0x0321 0 { status := code, d6 := idx, d7 := result }

/-- The list moves past its command of `len` words. -/
def State.stepList (q len : Nat) (s : State) : State := (s.setLr q fun l => { l with pc := l.pc + len }).exhaust q

/-- The list's command completes as it executes. -/
def State.cmdNow (q code result : Nat) (s : State) : State :=
  let l := s.lr q
  let w := nthW l.words l.pc
  let s := if hNotify w then s.cmdNote q l.cnd l.pc code result else s
  s.stepList q (hLen w)

/-- The list's command fails while executing (R101). -/
def State.cmdFail (q code : Nat) (s : State) : State := s.haltList q (s.lr q).pc code 1

/-- The list's command goes on after it has executed (R97): it is noted among the commands in progress, and the list waits for
it where the table of R97 says so or SYNC is 1. -/
def State.cmdBegin (q : Nat) (always : Bool) (f : Cmd → Cmd) (s : State) : State :=
  let l := s.lr q
  let w := nthW l.words l.pc
  let c := f { q, serial := l.serial, cnd := l.cnd, idx := l.pc, op := hOp w, tag := l.tag, notify := hNotify w }
  let id := s.nextCmd
  let s := { s with cmds := fset s.cmds id c, nextCmd := id + 1 }
  if always || hSync w then
    (s.chargeRun q).setLr q fun l => { l with st := .wait, wait := .command id, idx := l.pc, pc := l.pc + hLen w }
  else s.stepList q (hLen w)

/-- The list's command has written its bytes, under the next command number: it completes once none of them waits (R97, R359). -/
def State.cmdWrote (q result : Nat) (s : State) : State :=
  if s.writeWaits s.nextCmd then s.cmdBegin q true fun c => { c with phase := 4, res := result } else s.cmdNow q OK result

/-- The list waits at its command for a condition (R112, R118, R119). -/
def State.cmdWait (q : Nat) (what : WaitFor) (deadline : Option Nat) (s : State) : State :=
  let l := s.lr q
  (s.chargeRun q).setLr q fun x => { x with st := .wait, wait := what, deadline, idx := l.pc, pc := l.pc + hLen (nthW l.words l.pc) }

/-- The wait of a list ends with success: CMD_NOTE where asked, and the list goes on. -/
def State.waitDone (q code result : Nat) (s : State) : State :=
  let l := s.lr q
  let s := if hNotify (nthW l.words l.idx) then s.cmdNote q l.cnd l.idx code result else s
  (s.setLr q fun x => { x with st := .running, wait := .nothing, deadline := none, startAt := s.walltime }).exhaust q

/-- The wait of a list ends with a failure that completes its command: CMD_NOTE where asked, and the list halts at it (R103, R121). -/
def State.waitEnds (q code : Nat) (s : State) : State :=
  let l := s.lr q
  (if hNotify (nthW l.words l.idx) then s.cmdNote q l.cnd l.idx code 0 else s).haltList q l.idx code 1

/-- The wait of a list fails: the list halts at it (R101). -/
def State.waitFail (q code : Nat) (s : State) : State := s.haltList q (s.lr q).idx code 1

/-- Whether a status code is a success (R71, R119). -/
def okCode (c : Nat) : Bool := c = OK || c = RETRIED_OK

/-- A reply reaches its MCALL (R119); while the instance is suspended, it is kept for RESUME (R317, R336). -/
def State.replyTo (q code v : Nat) (s : State) : State :=
  let l := s.lr q
  if l.st = .aside then (if l.resume.isSome then s else s.setLr q fun x => { x with resume := some code, result := v })
  else if l.st != .wait then s
  else if okCode code then s.waitDone q code v else s.waitFail q code

/-- A command in progress completes with `code`; a list that still runs halts at a failure, and goes on where it waited. -/
def State.cmdDone (id code result : Nat) (s : State) : State :=
  if !fhas s.cmds id then s else
  let c := fget {} s.cmds id
  let l := s.lr c.q
  let s := { s with cmds := fdel s.cmds id }
  let s := if c.notify then s.cmdNote c.q c.cnd c.idx code result else s
  if l.serial != c.serial || l.st = .idle then s
  else if !okCode code then s.haltList c.q c.idx code 1
  else if l.wait = .command id then
    (s.setLr c.q fun x => { x with st := .running, wait := .nothing, deadline := none, startAt := s.walltime }).exhaust c.q
  else s

/-- A command all of whose bytes are written completes with `result`, at once or when the last of its writes has entered the buffer
(R97, R359). -/
def State.cmdWritten (id result : Nat) (s : State) : State :=
  if s.writeWaits id then { s with cmds := fmod {} s.cmds id fun c => { c with phase := 4, res := result } } else s.cmdDone id OK result
/-- The last waiting write of command `id` has entered the buffer. -/
def State.cmdLanded (id : Nat) (s : State) : State :=
  let c := fget ({} : Cmd) s.cmds id
  if fhas s.cmds id && c.phase = 4 then s.cmdDone id OK c.res else s

/-- Whether a list may run its next command now: the mode runs lists (R33, R39), the Conductor is in RUN and not halted, or
stepped (R349), and the instance is ACTIVE and not suspending (R317). -/
def State.mayRun (s : State) (q : Nat) : Bool :=
  let l := s.lr q
  l.st = .running && (s.running || s.quiescing) && s.pstate (pgCnd l.cnd) = pRUN &&
    (!bit (s.gf PG_DEBUG R.DBG_STATUS_CND_HALTED) l.cnd || s.stepReq.contains l.cnd) &&
    (qSecure q || (s.instState (q / 4) = iACTIVE && !(s.inst (q / 4)).suspending))

/-- The command word at a list's position. -/
def State.cmdWord (s : State) (q : Nat) : Word := nthW (s.lr q).words (s.lr q).pc

/-- Whether an earlier command of the list, of one of the opcodes `ops`, has not completed (R98). -/
def State.earlier (s : State) (q : Nat) (ops : List Nat) : Bool :=
  s.cmds.any fun p => p.2.q == q && p.2.serial == (s.lr q).serial && (ops.isEmpty || ops.contains p.2.op)

/-- Whether the list's command does not execute yet: a FLIP, FLIP_WALL or FENCE_SIGNAL behind commands of its list (R98), an MCALL
while the Gatehouse is patched or halted (R349, R466). -/
def State.notYet (s : State) (q : Nat) : Bool :=
  let op := hOp (s.cmdWord q)
  ((op = 0x21 || op = 0x22) && s.earlier q [0x40, 0x41, 0x42]) || (op = 0x33 && s.earlier q []) ||
    (op = 0x70 && (s.patching || s.tf PG_DEBUG R.DBG_STATUS_GH_HALTED))

/-- A list at a command boundary moves to the spare that replaces its Conductor (R463). -/
def State.cndMove (q : Nat) (s : State) : State :=
  match s.cndSubst with
  | some (c, n) => if (s.lr q).cnd = c then s.setLr q fun l => { l with cnd := n } else s
  | none => s

/-- A list's command is taken up: a step of a halted Conductor is used up (R349), the list is at a command boundary (R463), and the
command is counted (R350). -/
def State.cmdTaken (q : Nat) (s : State) : State :=
  if s.notYet q then s else ({ s with stepReq := ndel s.stepReq (s.lr q).cnd }.cndMove q).perf 0x02 1 (qInst q) (qSecure q)

/-- The command at the list's position, if it is opcode `op`: an undefined opcode is refused (R99 step 1); another opcode is not
this command's event. -/
def State.runCmd (q op : Nat) (body : ListRun → Word → State → State) (s : State) : State :=
  let w := s.cmdWord q
  if !s.mayRun q then s
  else if !definedOp (hOp w) then { s with stepReq := ndel s.stepReq (s.lr q).cnd }.refuse q BAD_OPCODE
  else if hOp w != op then s
  else
    let s := s.cmdTaken q
    body (s.lr q) w s

/-- The checks on a header word that every opcode shares (R99 steps 2 and 3): `flags` lists the OPFLAGS the opcode defines. -/
def hdrChecks (q : Nat) (l : ListRun) (w : Word) (len : Nat) (flags : List Nat) : List (Bool × Nat) :=
  [ (hLen w != len || l.words.length < l.pc + hLen w || bits w 24 7 != 0 ||
      (List.range 6).any (fun b => hFlag w (18 + b) && !flags.contains (18 + b)), BAD_ARG),
    (qSecure q && !hWorld w, BAD_ARG), (!qSecure q && hWorld w, SECURE_DENIED) ]

/-- Operand word `i` of the command at the list's position. -/
def opw (l : ListRun) (i : Nat) : Word := nthW l.words (l.pc + i)
/-- A 64-bit operand in words `i` and `i + 1`. -/
def op64 (l : ListRun) (i : Nat) : Nat := pair64 (opw l i) (opw l (i + 1))

/-- Runs a command whose checks are `checks`: the first failed one refuses it (R99, R100), else `go` executes it. -/
def State.checked (q : Nat) (checks : List (Bool × Nat)) (go : State → State) (s : State) : State :=
  match refusal checks with
  | some c => s.refuse q c
  | none => go s

/-- Every command in progress that satisfies `p` becomes `f` of it. -/
def State.cmdsMap (p : Cmd → Bool) (f : Cmd → Cmd) (s : State) : State :=
  { s with cmds := s.cmds.map fun c => if p c.2 then (c.1, f c.2) else c }

/-- The commands in progress that satisfy `f`. -/
def State.cmdsWhere (s : State) (f : Cmd → Bool) : List Nat := (s.cmds.filter fun p => f p.2).map (·.1)

end Sys2Proof.Machine
end

