-- ==== Sys2Proof/Machine/Planes.lean ====
section
/-! DEFINITION. Surfaces (R83 to R94), planes and their commits (R106 to R111), bound bits, load and admission (R144, R145, R309). -/

namespace Sys2Proof.Machine

open Sys2Proof

/-! Head states (AVE_STATUS.HEAD_STATE). -/
abbrev hIDLE : Nat := 0
abbrev hLOCKING : Nat := 1
abbrev hRUN : Nat := 2
abbrev hRELOCK : Nat := 3
abbrev hHANDOVER : Nat := 4
abbrev hSERVICE : Nat := 5

def State.headSt (s : State) (h : Nat) : Nat := s.gf (pgAve h) R.AVE_STATUS_HEAD_STATE
def State.head (s : State) (h : Nat) : Head := fget {} s.heads h
def State.setHead (h : Nat) (f : Head → Head) (s : State) : State := { s with heads := fmod {} s.heads h f }
/-- AVE_FRAME_COUNT of a head (R169). -/
def State.frameCount (s : State) (h : Nat) : Nat := s.g64 (pgAve h) R.AVE_FRAME_COUNT_LO_COUNT R.AVE_FRAME_COUNT_HI_COUNT

/-! The Surface Descriptor Table. -/
abbrev sFREE : Nat := 0
abbrev sALLOCATED : Nat := 1
abbrev sLIVE : Nat := 2
abbrev sRETIRING : Nat := 3

def State.surf (s : State) (i : Nat) : Sdt := fget {} s.sdt i
def State.setSurf (i : Nat) (f : Sdt → Sdt) (s : State) : State := { s with sdt := fmod {} s.sdt i f }
/-- A move to FREE adds 1 to GEN and clears every other field (R92). -/
def State.freeSurf (i : Nat) (s : State) : State := s.setSurf i fun e => { gen := (e.gen + 1) % 65536 }
/-- Bytes of a surface's footprint (R87). -/
def Sdt.bytes (e : Sdt) : Nat := e.stride * e.height

/-- Bytes per pixel of a format code; 0 for a code that R89 does not define. -/
def fmtBytes (f : Nat) : Nat :=
  if f = 0x01 || f = 0x02 || f = 0x03 || f = 0x10 then 2
  else if f = 0x04 || f = 0x11 then 3
  else if f = 0x05 || f = 0x06 || f = 0x07 || f = 0x12 then 4 else 0
/-- YCbCr formats (R89). -/
def fmtYuv (f : Nat) : Bool := f = 0x10 || f = 0x11 || f = 0x12

/-- Footprints counted under R88 for an instance, in bytes. -/
def State.memUsed (s : State) (i : Nat) : Nat :=
  (s.sdt.filter fun p => p.2.state != sFREE && !p.2.secure && p.2.inst == i).foldl (fun n p => n + p.2.bytes) 0

/-- Whether the range [a, a+n) lies wholly in the device DRAM that R87 lets the owner of ring `q` use. -/
def State.dramOk (s : State) (q a n : Nat) : Bool :=
  if qSecure q then a + n ≤ s.wmDram
  else s.ent (q / 4) 2 0 14 * 2097152 ≤ a && a + n ≤ (s.ent (q / 4) 2 0 14 + s.ent (q / 4) 2 16 15) * 2097152

/-! Planes. -/

def State.plane (s : State) (h p : Nat) : Plane := fget {} s.planes (16 * h + p)
def State.setPlane (h p : Nat) (f : Plane → Plane) (s : State) : State := { s with planes := fmod {} s.planes (16 * h + p) f }

/-- The settings that the plane's shadow holds, held flips included (R145). -/
def Plane.shadowCfg (x : Plane) : PlaneCfg :=
  match x.held.getLast? with
  | some f => f.cfg
  | none => x.com

/-- Everything that the plane's shadow still holds for a later vertical blank: the last held flip of each owner (R111); the last
commit, unless it has applied and a held flip is to replace it; and, once the `cutoff` of the running frame has passed, the last commit made
before it (R110, R186). -/
def Plane.shadowCfgs (x : Plane) (cutoff : Option Nat) : List PlaneCfg :=
  let held := (x.held.zipIdx.filter fun f => !(x.held.drop (f.2 + 1)).any fun g => g.owner == f.1.owner).map fun f => f.1.cfg
  let com := if x.queue.isEmpty && !x.held.isEmpty then [] else [x.com]
  let due := match cutoff with
    | some t => ((x.queue.filter fun c => decide (c.at_ < t)).getLast?.map fun c => c.cfg).toList
    | none => []
  held ++ com ++ due

/-- The cutoff of the frame that a head is sending, the start of its last active line (R185, R186), once it has passed and until the
vertical blank. -/
def State.cutoff (s : State) (h : Nat) : Option Nat :=
  let t := (s.head h).frameAt + linesNs (s.headMode h) ((s.headMode h).va - 1)
  if (s.head h).sending && !s.tf (pgAve h) R.AVE_STATUS_IN_VBLANK && decide (t ≤ s.walltime) then some t else none

/-- BOUND_ACTIVE and BOUND_SHADOW of an entry: the heads a plane of which shows it or holds it (R83). -/
def State.boundActive (s : State) (i : Nat) : NSet :=
  (List.range 8).filter fun h => (List.range 16).any fun p => (s.plane h p).act.surf == some i
def State.boundShadow (s : State) (i : Nat) : NSet :=
  (List.range 8).filter fun h => (List.range 16).any fun p => ((s.plane h p).shadowCfgs (s.cutoff h)).any fun c => c.surf == some i

/-- Instances that are not UNASSIGNED; OPEN lists an instance. -/
def State.openInsts (s : State) : List Nat := (s.insts.map (·.1)).filter fun i => s.instState i != iUNASSIGNED

/-- Whether instance `i` is granted plane `p` of head `h` (R300). -/
def State.granted (s : State) (i h p : Nat) : Bool := p < 14 && h < 8 && s.ent i (8 + h / 2) (16 * (h % 2) + p) 1 = 1
/-- Whether instance `i` is granted any plane of head `h`. -/
def State.grantsHead (s : State) (i h : Nat) : Bool := s.ent i (8 + h / 2) (16 * (h % 2)) 14 != 0
/-- Window `n` of an instance, where it is valid: head and rectangle (R300). -/
def State.window (s : State) (i n : Nat) : Option (Nat × Rect) :=
  if s.ent i (12 + 3 * n) 7 1 = 1 then
    some (s.ent i (12 + 3 * n) 0 3,
      { x0 := s.ent i (13 + 3 * n) 0 16, y0 := s.ent i (13 + 3 * n) 16 16,
        x1 := s.ent i (14 + 3 * n) 0 16, y1 := s.ent i (14 + 3 * n) 16 16 })
  else none
def State.windows (s : State) (i h : Nat) : List Rect :=
  (List.range 8).filterMap fun n => match s.window i n with
    | some (h', r) => if h' = h then some r else none
    | none => none
/-- The instance that owns plane `p` of head `h`, if any. -/
def State.planeInst (s : State) (h p : Nat) : Option Nat := s.openInsts.find? fun i => s.granted i h p

def Rect.empty (r : Rect) : Bool := r.x1 ≤ r.x0 || r.y1 ≤ r.y0
def Rect.width (r : Rect) : Nat := r.x1 - r.x0
def Rect.height (r : Rect) : Nat := r.y1 - r.y0
def Rect.inside (r o : Rect) : Bool := o.x0 ≤ r.x0 && r.x1 ≤ o.x1 && o.y0 ≤ r.y0 && r.y1 ≤ o.y1
def Rect.inter (r o : Rect) : Rect := { x0 := max r.x0 o.x0, y0 := max r.y0 o.y0, x1 := min r.x1 o.x1, y1 := min r.y1 o.y1 }
def Rect.meets (r o : Rect) : Bool := !(r.inter o).empty
def Rect.has (r : Rect) (x y : Nat) : Bool := r.x0 ≤ x && x < r.x1 && r.y0 ≤ y && y < r.y1
/-- The active area of a mode (R166, R167). -/
def ModeRow.area (m : ModeRow) : Rect := { x0 := 0, y0 := 0, x1 := m.ha, y1 := m.va }

/-- A plane with an empty source or destination contributes no pixel (R107). -/
def PlaneCfg.shows (c : PlaneCfg) : Bool := c.enable && !c.dst.empty && !c.src.empty

/-! Load and admission. -/

def isVideo (p : Nat) : Bool := p = 12 || p = 13

/-- Cost of a plane on an output line it covers (R144). -/
def lineCost (p : Nat) (c : PlaneCfg) (m : ModeRow) : Nat :=
  let w := (c.dst.inter m.area).width
  if isVideo p then max w ((c.src.width * w + c.dst.width - 1) / c.dst.width) else w

/-- Cost of line `y` over a head's planes (R144); plane 14 costs nothing. -/
def costAt (m : ModeRow) (cfgs : List (Nat × PlaneCfg)) (y : Nat) : Nat :=
  (cfgs.filter fun x => x.1 != 14 && x.2.shows && (x.2.dst.inter m.area).has (x.2.dst.inter m.area).x0 y).foldl
    (fun n x => n + lineCost x.1 x.2 m) 0

/-- The largest line cost: it is met at the first line of some plane. -/
def maxCost (m : ModeRow) (cfgs : List (Nat × PlaneCfg)) : Nat :=
  cfgs.foldl (fun n x => max n (costAt m cfgs (x.2.dst.inter m.area).y0)) 0

/-- A line cost as load: by the line rate, rounded up to a whole Mplane-pixel/s (R144). -/
def loadOf (m : ModeRow) (cost : Nat) : Nat := (cost * m.khz + m.ht * 1000 - 1) / (m.ht * 1000)

def State.cfgs (s : State) (h : Nat) (shadow : Bool) : List (Nat × PlaneCfg) :=
  (List.range 16).map fun p => (p, if shadow then (s.plane h p).shadowCfg else (s.plane h p).act)

def State.headLoad (s : State) (h : Nat) (shadow : Bool) : Nat :=
  if s.headSt h = hIDLE then 0 else loadOf (s.headMode h) (maxCost (s.headMode h) (s.cfgs h shadow))
/-- Load of the unit (R144). -/
def State.unitLoad (s : State) (shadow : Bool) : Nat := (List.range 8).foldl (fun n h => n + s.headLoad h shadow) 0
/-- Slices with role ACTIVE and PAGE_STATE RUN. -/
def State.activeSlices (s : State) : Nat :=
  ((List.range 5).filter fun n => s.gf (pgSlc n) R.SLC_ROLE_ROLE = 0 && s.pstate (pgSlc n) = pRUN).length
/-- The budget (R145). -/
def State.budget (s : State) : Nat := 8000 * s.activeSlices

/-- Frame rate of a head as a fraction, in Hz. -/
def State.rateNum (s : State) (h : Nat) : Nat := (s.headMode h).khz * 1000
def State.rateDen (s : State) (h : Nat) : Nat := (s.headMode h).ht * (s.headMode h).vt

/-- Bytes a plane fetches in a frame (R309). -/
def State.planeBytes (s : State) (h p : Nat) (c : PlaneCfg) : Nat :=
  if !c.shows then 0
  else match c.surf with
    | none => 0
    | some i =>
      let r := if isVideo p then c.src else c.dst.inter (s.headMode h).area
      if r.empty then 0 else fmtBytes (s.surf i).format * (r.width * r.height)

/-- Fetch load of an instance over the shadow state, rounded up to a whole MB/s (R309). -/
def State.fetchLoad (s : State) (i : Nat) : Nat :=
  let hs := (List.range 8).filter fun h => s.headSt h != hIDLE
  let f := hs.foldl (fun (nd : Nat × Nat) h =>
    let b := (List.range 14).foldl (fun n p => if s.granted i h p then n + s.planeBytes h p (s.plane h p).shadowCfg else n) 0
    (nd.1 * s.rateDen h + b * s.rateNum h * nd.2, nd.2 * s.rateDen h)) (0, 1)
  (f.1 + f.2 * 1000000 - 1) / (f.2 * 1000000)

/-- CAPACITY_LOW when the load of the active state exceeds the budget (R146). -/
def State.checkCapacityLow (s : State) : State :=
  if s.budget < s.unitLoad false then s.raise PG_PLAZA 3 { d6 := s.activeSlices, d7 := s.unitLoad false } else s

/-! Commits of planes. -/

/-- A plane's shadow takes new settings, and the commit waits for its vertical blank (R110). -/
def State.commitPlane (h p : Nat) (cfg : PlaneCfg) (flip : Bool) (ct : Nat) (s : State) : State :=
  s.setPlane h p fun x =>
    { x with com := cfg, stg := none, queue := x.queue ++ [{ at_ := s.walltime, cfg, flip, ct }] }

/-- The plane commands in progress on a head (R121). -/
def State.headCmds (s : State) (h : Nat) (ops : List Nat) : List Nat :=
  s.cmdsWhere fun c => ops.contains c.op && c.key / 16 == h

/-- Every pending, held and staged plane change of a head is discarded; its commands complete with CANCELLED (R121, R194). -/
def State.cancelHead (h : Nat) (s : State) : State :=
  let ids := s.headCmds h [0x20, 0x21, 0x22, 0x50]
  let s := forNat 16 (fun p s => s.setPlane h p fun x => { x with com := x.act, stg := none, held := [], queue := [] }) s
  forEach ids (fun id s => s.cmdDone id CANCELLED 0) s

/-- The WAIT_FRAMEs on a head end with `code` (R121). -/
def State.endWaits (h code : Nat) (s : State) : State :=
  forEach ((s.lists.filter fun p => match p.2.wait with | .frame h' _ => h' == h | _ => false).map (·.1))
    (fun q s => s.waitEnds q code) s

/-- The last frame that head `h` sends of the surfaces it reads leaves its raster now (R93, R103). -/
def State.readsLeave (h : Nat) (s : State) : State :=
  { s with sdt := s.sdt.map fun e => if fhas e.2.lastRead h && !fhas e.2.leftAt h
      then (e.1, { e.2 with leftAt := fset e.2.leftAt h s.walltime }) else e }

/-- A plane is disabled and unbound in active and shadow state at once (R312, R341). -/
def State.unbindPlane (h p : Nat) (s : State) : State :=
  s.setPlane h p fun x => { x with
    act := { x.act with enable := false, surf := none }, com := { x.com with enable := false, surf := none },
    stg := none, held := [], queue := [], hasCt := false, changed := s.frameCount h + 1 }

end Sys2Proof.Machine
end

