-- ==== Sys2Proof/Machine/Chain.lean ====
section
/-! DEFINITION. The Torfold Chain (chapter 07): ports and roles (R224 to R229), routing (R236), messages and their retransmission
(R237 to R239), WALLTIME (R240 to R243), marks (R245) and the wall vote (R252 to R261). -/

namespace Sys2Proof.Machine

open Sys2Proof

/-! Ports.  Port A is `false`, port B is `true`. -/

def pnum (b : Bool) : Nat := if b then 1 else 0
/-- The field of port `b` from that of port A: the registers of the ports are 4 bytes apart. -/
def pfld (b : Bool) (f : Fld) : Fld := { f with off := f.off + 4 * pnum b }

abbrev cDOWN : Nat := 0
abbrev cTRAINING : Nat := 1
abbrev cUP : Nat := 2
abbrev cHELD : Nat := 3
abbrev cFAULT : Nat := 4

def State.port (s : State) (b : Bool) : ChPort := fget {} s.chPorts (pnum b)
def State.setPort (b : Bool) (f : ChPort → ChPort) (s : State) : State := { s with chPorts := fmod {} s.chPorts (pnum b) f }
/-- CHN_PORT_STATUS.STATE (R226). -/
def State.portSt (s : State) (b : Bool) : Nat := s.gf PG_CHN (pfld b R.CHN_PORT_STATUS_A_STATE)
def State.portUp (s : State) (b : Bool) : Bool := s.portSt b = cUP
def State.portRole (s : State) (b : Bool) : Nat := s.gf PG_CHN (pfld b R.CHN_PORT_STATUS_A_ROLE)
def State.portEn (s : State) (b : Bool) : Bool := s.tf PG_CHN (if b then R.CHN_PORT_CTRL_B_EN else R.CHN_PORT_CTRL_A_EN)
def State.isMaster (s : State) : Bool := s.tf PG_CHN R.CHN_STATUS_MASTER
def State.ownAddr (s : State) : Nat := s.gf PG_CHN R.CHN_STATUS_ADDR
def State.addrValid (s : State) : Bool := s.tf PG_CHN R.CHN_STATUS_ADDR_VALID
/-- The upstream port, if the unit has one (CHN_STATUS.UP_PORT). -/
def State.upPort (s : State) : Option Bool :=
  let u := s.gf PG_CHN R.CHN_STATUS_UP_PORT
  if u = 0 then some false else if u = 1 then some true else none
/-- Whether the unit has a path to a master. -/
def State.hasPath (s : State) : Bool := s.isMaster || s.upPort.isSome
/-- Units holding an address, on the master (CHN_COUNT). -/
def State.unitCount (s : State) : Nat := 1 + s.grants.length

/-! Messages (R237, R238). -/

def mb (m : List Byte) (i : Nat) : Nat := (m.getD i 0#8).toNat
/-- A little-endian field of `n` bytes at byte `i`. -/
def mle (m : List Byte) (i n : Nat) : Nat := ofLe ((m.drop i).take n)
def mType (m : List Byte) : Nat := mb m 0
def mSeq (m : List Byte) : Nat := mb m 1
def mDst (m : List Byte) : Nat := mle m 2 2 % 1024
/-- BCAST of a control message, WORLD of a management message: bit 15 of the DST word. -/
def mTop (m : List Byte) : Bool := bit (mle m 2 2) 15
def mSrc (m : List Byte) : Nat := mle m 4 2 % 1024

/-- The head of a message whose LSEQ is not yet assigned. -/
def msgHead (ty dst : Nat) (top : Bool) (src cnt : Nat) : List Byte :=
  [BitVec.ofNat 8 ty, 0#8] ++ leBytes 2 (dst % 1024 + (if top then 32768 else 0)) ++ leBytes 2 (src % 1024 + cnt % 32 * 2048)

/-- A control message without its CRC: 16 payload bytes from byte 8 (R237). -/
def ctlMsg (ty dst : Nat) (bcast : Bool) (src flags : Nat) (payload : List Byte) : List Byte :=
  msgHead ty dst bcast src 0 ++ leBytes 2 flags ++ (payload ++ List.replicate 16 0#8).take 16

/-- LSEQ and the CRC are put on a message as it is sent (R237, R238). -/
def sealMsg (seq : Nat) (m : List Byte) : List Byte :=
  let m := (m.take 1 ++ [BitVec.ofNat 8 seq]) ++ m.drop 2
  m ++ leBytes 4 (crc32 m)

/-- Whether a received message is whole: length and CRC (R237, R238). -/
def msgGood (m : List Byte) : Bool :=
  let n := if 0x40 ≤ mType m && mType m ≤ 0x43 then 12 + mb m 7 else 24
  m.length = n + 4 && mle m n 4 = crc32 (m.take n)

/-- A message is sent on a port that is UP, and kept until it is answered (R239); ACK and NAK are not kept. -/
def State.chSend (b : Bool) (m : List Byte) (s : State) : State :=
  if !s.portUp b then s
  else
    let x := s.port b
    let w := sealMsg x.txSeq m
    let link := mType m = 0x30 || mType m = 0x31
    { s.setPort b (fun x => { x with
        txSeq := (x.txSeq + 1) % 256, unacked := if link then x.unacked else x.unacked ++ [(w, false)] }) with
      chainOut := s.chainOut ++ [(pnum b, w)] }

/-! Routing (R236). -/

/-- Hops to an address through a port, where the unit knows a path through it: the addresses learned through the port; and through
the upstream port every other address that the chain has and that no break has cut off. -/
def State.hopsVia (s : State) (b : Bool) (dst : Nat) : Option Nat :=
  if !s.portUp b || dst = s.ownAddr then none
  else match (s.port b).reach.find? (fun p => p.1 == dst) with
    | some p => some p.2
    | none =>
      if s.upPort = some b && !fhas (s.port (!b)).reach dst && !s.cutOff.contains dst && (dst = 0 || dst < max s.topoUnits s.ownAddr) then
        some (s.gf PG_CHN R.CHN_STATUS_HOPS) else none

/-- The address that lies `k` hops away through port `b`, as learned. -/
def State.hopAddr (s : State) (b : Bool) (k : Nat) : Option Nat := ((s.port b).reach.find? fun p => p.2 == k).map (·.1)
/-- The addresses learned through a port, nearest first. -/
def State.pathOf (s : State) (b : Bool) : List Nat := 
  (List.range (1 + (s.port b).reach.foldl (fun n p => max n p.2) 0)).filterMap (s.hopAddr b)

/-- The reverse: a list of addresses, nearest first, as a table of hops. -/
def hopTable (l : List Nat) : FMap Nat := l.zipIdx.foldl (fun m p => fset m p.1 (p.2 + 1)) []

/-- Port `b` leads to address `a`, one hop beyond the farthest address known through it (R236): grants pass outward in the order of
hops (R231). -/
def State.learn (b : Bool) (a : Nat) (s : State) : State :=
  let s := { s with cutOff := ndel s.cutOff a }
  if fhas (s.port b).reach a then s
  else s.setPort b fun x => { x with reach := fset x.reach a (1 + x.reach.foldl (fun n p => max n p.2) 0) }

/-- The link between addresses `lo` and `hi` is lost: what lay beyond it through a port is reached through it no longer (R247). -/
def State.cutPort (b : Bool) (lo hi : Nat) (s : State) : State :=
  let hop (a : Nat) : Option Nat := if a = s.ownAddr then some 0 else ((s.port b).reach.find? fun p => p.1 == a).map (·.2)
  match hop lo, hop hi with
  | some x, some y =>
    if x = y + 1 || y = x + 1 then s.setPort b fun p => { p with reach := p.reach.filter fun e => e.2 < max x y } else s
  | _, _ => s

/-- A break between `lo` and `hi`, `lo` nearer the master: routes through it end, and what no port reaches then is cut off (R236,
R247). -/
def State.cutRoutes (lo hi : Nat) (s : State) : State :=
  let was := ((s.port false).reach ++ (s.port true).reach).map (·.1)
  let s := (s.cutPort false lo hi).cutPort true lo hi
  let gone := (hi :: was).filter fun a => a != 0 && a != lo && a != s.ownAddr && !fhas (s.port false).reach a && !fhas (s.port true).reach a
  { s with cutOff := gone.foldl nadd s.cutOff }

/-- The chain is a ring of `n` units: through the port by which ENUM comes lie the units not learned through the other, in falling
order of address, then the master, then the others in reverse; through the other port all of them the other way (R231, R236;
DEDUCED, log entry 153). -/
def State.ringRoutes (n : Nat) (s : State) : State :=
  match (if s.isMaster then some true else s.enumPort) with
  | none => s
  | some b =>
    let down := (s.pathOf (!b)).takeWhile fun a => a != 0
    let up := (List.range n).filter fun a => a != 0 && a != s.ownAddr && !down.contains a
    let out := if s.isMaster then down else down ++ [0] ++ up
    { (s.setPort (!b) fun x => { x with reach := hopTable out }).setPort b fun x => { x with reach := hopTable out.reverse } with
      cutOff := [] }

/-- The port of a unicast message: fewer hops, port A on a tie (R236). -/
def State.route (s : State) (dst : Nat) : Option Bool :=
  match s.hopsVia false dst, s.hopsVia true dst with
  | some a, some b => some (decide (b < a))
  | some _, none => some false
  | none, some _ => some true
  | none, none => none

/-- A unicast message leaves by its route; without one it goes nowhere. -/
def State.unicast (m : List Byte) (s : State) : State :=
  match s.route (mDst m) with
  | some b => s.chSend b m
  | none => s

/-- A broadcast of the master leaves on both ports (R236). -/
def State.broadcast (m : List Byte) (s : State) : State := (s.chSend false m).chSend true m

/-- A control message of this unit, with its SRC. -/
def State.ctl (s : State) (ty dst : Nat) (bcast : Bool) (flags : Nat) (payload : List Byte) : List Byte :=
  ctlMsg ty dst bcast s.ownAddr flags payload

/-- A message that is not for this unit goes on: a broadcast received on the upstream port out of the downstream port, a unicast
message out of its route (R236). -/
def State.forward (b : Bool) (m : List Byte) (s : State) : State :=
  let body := m.take (m.length - 4)
  if mType m < 0x40 && mTop m then
    if s.upPort = some b && s.portRole (!b) = 2 then s.chSend (!b) body else s
  else if mDst m = s.ownAddr && s.addrValid then s
  else match s.route (mDst m) with
    | some c => if c = b then s else s.chSend c body
    | none => s

/-! Mailboxes (R249, R251, R263). -/

/-- A mailbox register field: the secure mailbox lies 0x80 above the normal one. -/
def mbFld (sec : Bool) (f : Fld) : Fld := { f with off := f.off + (if sec then 0x80 else 0) }

/-- A mailbox request completes. -/
def State.mbDone (sec : Bool) (code words : Nat) (s : State) : State :=
  let s := { s with mbReq := fdel s.mbReq (if sec then 1 else 0) }
  let s := ((s.sf PG_CHN (mbFld sec R.MB_STATUS_BUSY) 0).sf PG_CHN (mbFld sec R.MB_STATUS_STATUS) code).sf PG_CHN
    (mbFld sec R.MB_STATUS_WORDS) words
  let s := if sec then s else s.raise PG_CHN 12 { status := code, d6 := code, d7 := words }
  if code = OK then s else s.err PG_CHN code

/-- The mailbox whose request in flight has this REQ_ID and world. -/
def State.mbOf (s : State) (req : Nat) (sec : Bool) : Bool :=
  match s.mbReq.find? (fun p => p.1 == (if sec then 1 else 0)) with
  | some p => p.2.1 == req
  | none => false

/-- A management response of this unit's making: header of R238 with status and words done. -/
def State.mgmtRsp (s : State) (reqMsg : List Byte) (code words : Nat) (data : List Byte) : List Byte :=
  msgHead (mType reqMsg % 2 + 0x42) (mSrc reqMsg) (mTop reqMsg) s.ownAddr (mle reqMsg 4 2 / 2048) ++
    [BitVec.ofNat 8 (mb reqMsg 6), BitVec.ofNat 8 data.length] ++ leBytes 4 (code + 256 * words) ++ data

/-! Loss of a message on a link (R239). -/

/-- A message is lost for good: LINK_CRC, and a management message is answered with LINK_ERROR where a path remains. -/
def State.msgLost (b : Bool) (m : List Byte) (s : State) : State :=
  let s := s.bump PG_CHN (pfld b R.CHN_CRC_A_LASTING) 1
  let s := (s.raise PG_CHN 5 { status := LINK_ERROR, d6 := pnum b, d7 := mType m }).err PG_CHN LINK_ERROR
  if mType m < 0x40 then s
  else
    let origin := if mType m < 0x42 then mSrc m else mDst m
    if origin = s.ownAddr && mType m < 0x42 then
      if s.mbOf (mb m 6) (mTop m) then s.mbDone (mTop m) LINK_ERROR 0 else s
    else if mType m < 0x42 then s.unicast (s.mgmtRsp m LINK_ERROR 0 [])
    else s.unicast (msgHead (mType m) origin (mTop m) s.ownAddr (mle m 4 2 / 2048) ++
      [BitVec.ofNat 8 (mb m 6), 0#8] ++ leBytes 4 LINK_ERROR)

/-- The message with this LSEQ (`none`: the oldest) got no good answer: it is sent once more, or is lost (R239). -/
def State.noAck (b : Bool) (seq : Option Nat) (s : State) : State :=
  let l := (s.port b).unacked
  match l.find? (fun x => match seq with | some q => mSeq x.1 == q | none => true) with
  | none => s
  | some (m, false) =>
    if !s.portUp b then s
    else { s.setPort b (fun x => { x with
        unacked := (l.filter fun y => y != (m, false)) ++ [(m, true)] }) with
      chainOut := s.chainOut ++ [(pnum b, m)] }
  | some (m, true) => (s.setPort b fun x => { x with unacked := l.filter fun y => y != (m, true) }).msgLost b m

/-- A received message of type `ty`: a damaged one is answered with NAK (a damaged ACK or NAK is discarded), a copy of the last
good one is answered and discarded, and any other is answered with ACK and acted on (R239). -/
def State.recvMsg (b : Bool) (ty : Nat) (m : List Byte) (go : State → State) (s : State) : State :=
  if !s.portUp b || mType m != ty then s
  else if ty = 0x30 || ty = 0x31 then (if msgGood m then go s else s)
  else if !msgGood m then s.chSend b (s.ctl 0x31 0 false 0 (leBytes 1 (mSeq m)))
  else
    let dup := (s.port b).rxSeq == some (mSeq m)
    let s := s.chSend b (s.ctl 0x30 0 false 0 (leBytes 1 (mSeq m)))
    if dup then s else go (s.setPort b fun x => { x with rxSeq := some (mSeq m) })

/-- A broadcast of the master: it is acted on and passed on only when it came through the upstream port (R236). -/
def State.bcastMsg (b : Bool) (ty : Nat) (m : List Byte) (go : State → State) (s : State) : State :=
  s.recvMsg b ty m fun s => if s.upPort = some b then go (s.forward b m) else s

/-- A unicast message: for this unit it is acted on, else it goes on. -/
def State.unicastMsg (b : Bool) (ty : Nat) (m : List Byte) (go : State → State) (s : State) : State :=
  s.recvMsg b ty m fun s => if s.addrValid && mDst m = s.ownAddr then go s else s.forward b m

/-! WALLTIME (R28, R241, R242). -/

abbrev tACQUIRING : Nat := 0
abbrev tMASTER : Nat := 1
abbrev tLOCKED : Nat := 2
abbrev tHOLDOVER : Nat := 3
abbrev tDETACHED : Nat := 4

def State.timeSt (s : State) : Nat := s.gf PG_TIME R.TIME_STATUS_STATE
def State.setTimeSt (n : Nat) (s : State) : State :=
  { s.sf PG_TIME R.TIME_STATUS_STATE n with lockSince := none, lockTold := false }
/-- The modes in which WALLTIME may be stepped (R28). -/
def State.mayStep (s : State) : Bool := s.mode = ENUMERATE || s.mode = CONFIGURE || s.mode = FALLBACK

/-- Mark `n` of the internal stream falls at n × PERIOD ÷ 16 ns (R245). -/
def State.markNs (s : State) (n : Nat) : Nat := n * s.gf PG_CHN R.CHN_MARK_PERIOD_PERIOD / 16

/-- The master's mark stream starts or restarts: with SRC 0 at the lowest n that can still be sent in time (R245). -/
def State.markStart (restart : Bool) (s : State) : State :=
  let p := s.gf PG_CHN R.CHN_MARK_PERIOD_PERIOD
  let runs := s.isMaster && s.pstate PG_CHN = pRUN && s.tf PG_CHN R.CHN_MARK_CTRL_MARK_EN
  { s with
    markNext := if runs && !s.tf PG_CHN R.CHN_MARK_CTRL_SRC && p != 0 then some (((s.walltime + 250000) * 16 + p - 1) / p) else none
    markRestart := s.markRestart || restart }

/-- WALLTIME steps on all islands at once: TIME_STEP, and on the master a restart of the marks (R28, R245). -/
def State.stepTime (new : Nat) (s : State) : State :=
  let old := s.walltime
  let s := ({ s with walltime := new, localMin := [], markOutNext := min s.markOutNext (new / 1000000000 * 1000000000) }).raise PG_SYS 5 { d6 := old, d7 := new }
  if s.isMaster then s.markStart true else s

/-- DETACHED is entered (R241): 0 for an offset, 1 for a refused step. -/
def State.detach (why us : Nat) (s : State) : State := (s.setTimeSt tDETACHED).raise PG_TIME 2 { d6 := why, d7 := us }

/-- The upstream time is known to lie `ofs` (10 ps) ahead, through an upstream port that is UP (R241). -/
def State.timeOffset (ofs : Int) (s : State) : State :=
  let far := decide (100000000 < ofs.natAbs)
  let us := ofInt 32 (ofs / 100000)
  if s.timeSt = tACQUIRING || s.timeSt = tHOLDOVER then
    if s.mayStep then (s.stepTime ((s.walltime : Int) + ofs / 100).toNat).setTimeSt tLOCKED
    else if !far then s.setTimeSt tLOCKED
    else if s.timeSt = tHOLDOVER then s.detach 0 us
    else s
  else if s.timeSt = tLOCKED && far && !s.mayStep then s.detach 0 us
  else s

/-- No upstream port is UP any longer: HOLDOVER (R241). -/
def State.timeLost (s : State) : State :=
  if s.timeSt = tACQUIRING || s.timeSt = tLOCKED then (s.setTimeSt tHOLDOVER).raise PG_TIME 1 { d6 := pnum s.lastUp } else s

/-! Roles and topology (R227, R234). -/

/-- Whether the peer on port `b` offers a path to a master that does not lead through this unit (R227). -/
def State.upCand (s : State) (b : Bool) : Bool :=
  s.portUp b && (s.port b).peerDown && (s.port b).peerHops.isSome && !s.isMaster

/-- The upstream port: the smallest hop count, on a tie the port through which the address came (R227). -/
def State.pickUp (s : State) : Option Bool :=
  let ha := (s.port false).peerHops.getD 0
  let hb := (s.port true).peerHops.getD 0
  if s.upCand false && s.upCand true then
    some (if ha < hb then false else if hb < ha then true else s.addrPort.getD false)
  else if s.upCand false then some false else if s.upCand true then some true else none

/-- What this unit's TRAIN message names beside its unit ID: its master and its hop count, if it has a path to one (R227). -/
def State.trainSays (s : State) : Option (Nat × Nat) :=
  if s.isMaster then some (Config.unitId, 0)
  else s.upPort.map fun u => ((s.port u).peerMaster.getD 0, s.gf PG_CHN R.CHN_STATUS_HOPS)

/-- A port that trains, is UP or is held sends TRAIN, and sends it again when its content changes (R226, R227). -/
def State.sendTrain (b : Bool) (s : State) : State :=
  let st := s.portSt b
  if (st = cTRAINING || st = cUP || st = cHELD) && (s.port b).sent != some s.trainSays then
    { s.setPort b fun x => { x with sent := some s.trainSays } with
      trainOut := s.trainOut ++ [(pnum b, Config.unitId, s.trainSays)] }
  else s

/-- The role of a port (R227): 0 none, 1 UPSTREAM, 2 DOWNSTREAM, 3 STANDBY. -/
def State.roleOf (s : State) (up : Option Bool) (b : Bool) : Nat :=
  if !s.portUp b then 0 else if up = some b then 1
  else if (s.port b).peerDown && (s.port b).peerHops.isSome && (s.isMaster || up.isSome) then 3 else 2

/-- A port takes its role; a change while UP raises ROLE_CHANGED unless the port has just come UP. -/
def State.takeRole (up : Option Bool) (fresh : Option Bool) (b : Bool) (s : State) : State :=
  let old := s.portRole b
  let new := s.roleOf up b
  let s := s.sf PG_CHN (pfld b R.CHN_PORT_STATUS_A_ROLE) new
  if old != new && s.portUp b && fresh != some b then s.raise PG_CHN 3 { d6 := pnum b, d7 := new } else s

/-- Port `b` leads to the master no longer, nor to what lies beyond it (R236). -/
def State.endReach (b : Bool) (s : State) : State :=
  s.setPort b fun x => { x with reach := match x.reach.find? (fun p => p.1 == 0) with
    | some m => x.reach.filter fun p => p.2 < m.2
    | none => x.reach }

/-- Roles, UP_PORT and HOPS follow what the ports know (R227); losing the upstream port puts TIME in HOLDOVER (R241). -/
def State.roles (fresh : Option Bool) (s : State) : State :=
  let was := s.upPort
  let up := s.pickUp
  let s := (s.takeRole up fresh false).takeRole up fresh true
  let s := s.sf PG_CHN R.CHN_STATUS_UP_PORT (if s.isMaster then 2 else match up with | some b => pnum b | none => 3)
  let s := s.sf PG_CHN R.CHN_STATUS_HOPS (match up with | some b => (s.port b).peerHops.getD 0 + 1 | none => 0)
  let s := (s.sendTrain false).sendTrain true
  let s := match was with
    | some b => if up = was then s else { s.endReach b with lastUp := b }
    | none => s
  if was.isSome && up.isNone then s.timeLost else s

/-- TOPOLOGY takes a value (R234). -/
def State.setTopo (n : Nat) (s : State) : State :=
  let old := s.gf PG_CHN R.CHN_STATUS_TOPOLOGY
  if old = n then s else (s.sf PG_CHN R.CHN_STATUS_TOPOLOGY n).raise PG_CHN 4 { d6 := old, d7 := n }

/-- The master broadcasts TOPO (R247). -/
def State.sendTopo (s : State) : State :=
  let s := { s with topoUnits := s.unitCount }
  s.broadcast (s.ctl 0x0B 0 true 0 (leBytes 2 (s.gf PG_CHN R.CHN_STATUS_TOPOLOGY) ++ leBytes 2 s.topoUnits ++
    leBytes 2 s.topoBrk.1 ++ leBytes 2 s.topoBrk.2))

/-- On the master, the link from address `lo` to the address `hi` beyond it through port `b` is lost (R234, R247): a ring that loses its
standby link, which joins the two units farthest from the master, becomes a line; any other loss leaves a broken ring. -/
def State.ringBreak (b : Bool) (lo hi : Nat) (s : State) : State :=
  let topo := s.gf PG_CHN R.CHN_STATUS_TOPOLOGY
  let n := (s.pathOf b).length + 1
  -- hops from the master, through port A, of the nearer end of the link
  let at_ := if lo != 0 then fget 0 (s.port false).reach lo else if b then n else 0
  let near := if b then at_ - 1 else at_
  let s := { s.cutRoutes lo hi with topoBrk := (lo, hi), walkRing := false }
  let s := if topo = 2 then s.setTopo (if near = n / 2 then 1 else 3) else s
  s.sendTopo

/-- What the loss of a link that was UP brings (R234, R239, R247): its routes end, the master hears of it, and the messages that were not
answered are lost. -/
def State.linkGone (b : Bool) (s : State) : State :=
  let l := (s.port b).unacked
  let first := (s.hopAddr b 1).getD 0
  let alone := !s.portUp false && !s.portUp true
  let s := (s.setPort b fun x => { x with unacked := [], probe := none, rxSeq := none }).roles none
  let s := if s.isMaster && !alone then s.ringBreak b 0 first else s
  let gone := ((s.port b).reach.map (·.1)).filter fun a => a != 0 && !fhas (s.port (!b)).reach a
  let s := { s.setPort b fun x => { x with reach := [] } with cutOff := gone.foldl nadd s.cutOff }
  let s := if alone then s.setTopo 0
    else if s.isMaster then s
    else s.chSend (!b) (s.ctl 0x0C 0 false 0 (leBytes 1 (pnum b)))
  forEach l (fun m s => s.msgLost b m.1) s

/-- Training starts afresh, or the link is gone: what the peer's TRAIN said, and this unit's to it, count no longer (R226, R227). -/
def State.forgetPeer (b : Bool) (s : State) : State :=
  ((s.setPort b fun x => { x with peerId := none, peerMaster := none, peerHops := none, peerDown := false, sent := none }).sf PG_CHN
    (pfld b R.CHN_PORT_STATUS_A_PEER_ADDR) 0).sf PG_CHN (pfld b R.CHN_PORT_STATUS_A_PEER_VALID) 0

/-- A port changes state (R226): leaving UP raises PORT_DOWN with the FAULT code. -/
def State.portTo (b : Bool) (new fault : Nat) (s : State) : State :=
  let old := s.portSt b
  let s := (s.sf PG_CHN (pfld b R.CHN_PORT_STATUS_A_STATE) new).sf PG_CHN (pfld b R.CHN_PORT_STATUS_A_FAULT) fault
  let s := s.setPort b fun x => { x with since := s.walltime, retry := none }
  let s := if new = cHELD then s else s.forgetPeer b
  if old = cUP && new != cUP then (s.raise PG_CHN 1 { d6 := pnum b, d7 := fault }).linkGone b
  else s.roles none

/-- Whether port `b` is isolated by a self-test (R450, R451). -/
def State.portTested (s : State) (b : Bool) : Bool := s.bistRun == some (PG_CHN, pnum b, 4)

/-- A port in DOWN that has signal trains, where it is enabled, its page runs and no self-test holds it; after a training that failed, 10 ms
later (R226, R450). -/
def State.portWake (b : Bool) (s : State) : State :=
  if s.portSt b = cDOWN && (s.port b).signal && s.portEn b && s.pstate PG_CHN = pRUN && !s.portTested b &&
      (s.port b).retry.all (fun t => decide (t ≤ s.walltime)) then s.portTo b cTRAINING 0
  else s

/-- A port in TRAINING, UP or HELD goes DOWN (R226). -/
def State.portDrop (b : Bool) (fault : Nat) (s : State) : State :=
  let st := s.portSt b
  if st = cTRAINING || st = cUP || st = cHELD then s.portTo b cDOWN fault else s

/-- The CHN page enters RUN: its ports train and the master's marks start (R226, R245); it leaves RUN: both stop (DEDUCED, log
entry 26). -/
def State.chainRuns (s : State) : State := ((s.portWake false).portWake true).markStart false
def State.chainStops (s : State) : State := { (s.portDrop false 0).portDrop true 0 with markNext := none, marks := [] }

/-- On entry to ENUMERATE or CONFIGURE a DETACHED unit rejoins the chain's time; it holds over while no upstream port is UP (R241). -/
def State.timeRejoin (s : State) : State :=
  if s.timeSt = tDETACHED then
    let s := s.setTimeSt tACQUIRING
    if s.upPort.isNone then s.timeLost else s
  else s

/-- A port enters UP with its role (R226). -/
def State.portGoesUp (b : Bool) (s : State) : State :=
  let s := (s.sf PG_CHN (pfld b R.CHN_PORT_STATUS_A_STATE) cUP).sf PG_CHN (pfld b R.CHN_PORT_STATUS_A_FAULT) 0
  let s := (s.setPort b fun x => { x with since := s.walltime }).roles (some b)
  let s := s.raise PG_CHN 0 { d6 := pnum b, d7 := s.portRole b }
  if s.gf PG_CHN R.CHN_STATUS_TOPOLOGY = 0 then s.setTopo 1 else s

/-- The unit takes a chain address (R230, R231). -/
def State.takeAddr (a : Nat) (from_ : Option Bool) (s : State) : State :=
  let s := (s.sf PG_CHN R.CHN_STATUS_ADDR a).sf PG_CHN R.CHN_STATUS_ADDR_VALID 1
  let s := (s.sf PG_SYS R.SYS_STATE_CHAIN_ADDR a).sf PG_SYS R.SYS_STATE_ADDR_VALID 1
  { s with addrPort := from_ }.raise PG_CHN 7 { d6 := a, d7 := s.gf PG_CHN R.CHN_STATUS_HOPS }

/-- ENUM goes on out of a port, with the next free address and the side (R231). -/
def State.sendEnum (b : Bool) (next side : Nat) (s : State) : State :=
  s.chSend b (s.ctl 0x08 0 false 0 (leBytes 2 next ++ leBytes 1 side))

/-! The wall vote on a member unit (R252 to R261). -/

def State.wallOf (s : State) (h : Nat) : HeadWall := fget {} s.hw h
def State.setHw (h : Nat) (f : HeadWall → HeadWall) (s : State) : State := { s with hw := fmod {} s.hw h f }
/-- MEMBER of a head (R237). -/
def State.memberNo (s : State) (h : Nat) : Nat := s.ownAddr * 8 + h
def State.headGroup (s : State) (h : Nat) : Nat := s.gf PG_CHN (R.CHN_HEAD_GROUP_GROUP h)
def State.isMember (s : State) (h : Nat) : Bool := s.tf PG_CHN (R.CHN_HEAD_GROUP_MEMBER h)
def State.excluded (s : State) (h : Nat) : Bool := s.tf PG_CHN (R.CHN_HEAD_GROUP_EXCLUDED h)
def State.isPresent (s : State) (h : Nat) : Bool := s.tf PG_CHN (R.CHN_HEAD_GROUP_PRESENT h)

/-- A head is present while it is a member, in RUN and locked to CHAIN at full rate (R252). -/
def State.presentNow (s : State) (h : Nat) : Bool :=
  s.isMember h && s.headSt h = hRUN && s.tf (pgAve h) R.AVE_STATUS_LOCKED && s.gf (pgAve h) R.AVE_STATUS_SOURCE = 1 &&
    !s.tf (pgAve h) R.AVE_SYNC_STATUS_CH_HALF

/-- The held flips of an owner are released into the vote by FLIP_WALL (R111). -/
def State.wallHold (h owner : Nat) (s : State) : State :=
  let s := forNat 16 (fun p s => s.setPlane h p fun x =>
    { x with held := x.held.map fun f => { f with wall := f.wall || f.owner == owner } }) s
  s.cmdsMap (fun c => (c.op == 0x20 || c.op == 0x21) && c.key / 16 == h && c.phase == 1 && (if qSecure c.q then 256 else c.q / 4) == owner)
    (fun c => { c with phase := 2 })

/-- Held flips of a head are committed exactly as FLIP commits (R110): those picked, with their commands. -/
def State.commitHeld (h : Nat) (pick : Held → Bool) (pickCmd : Cmd → Bool) (s : State) : State :=
  let s := forNat 16 (fun p s =>
    let x := s.plane h p
    let s := forEach (x.held.filter pick) (fun f s => s.commitPlane h p f.cfg true f.ct) s
    s.setPlane h p fun y => { y with held := y.held.filter (fun f => !pick f), stg := x.stg }) s
  s.cmdsMap (fun c => c.key / 16 == h && pickCmd c) (fun c => { c with phase := 0, at_ := s.walltime })

/-- Whether a plane command waits in the wall vote, or its COMMIT has come and its frame has not started. -/
def Cmd.inWall (c : Cmd) : Bool := c.phase == 2 || c.phase == 5

/-- The READY of a head no longer stands. -/
def State.readyEnds (h : Nat) (s : State) : State :=
  (s.setHw h fun x => { x with ready := none, silent := 0 }).sf PG_CHN (R.CHN_HEAD_GROUP_READY h) 0

/-- The released flips of a head are committed at once (R253, R258, R260). -/
def State.wallCommit (h : Nat) (s : State) : State :=
  ((s.commitHeld h (fun f => f.wall) Cmd.inWall).readyEnds h).setHw h fun x => { x with commits := [] }

/-- At a head's frame start, the flips whose COMMIT has come and whose mark N + 1 has been fired are committed (R256). -/
def State.wallDue (h : Nat) (s : State) : State :=
  let l := ((s.wallOf h).commits.filter fun c => c.2).map (·.1)
  if l.isEmpty then s
  else (s.commitHeld h (fun f => f.voted.any l.contains) fun c => c.phase == 5 && l.contains c.res).setHw h fun x =>
    { x with commits := x.commits.filter fun c => !c.2 }

/-- A standing READY is dropped: FLIP_WALL completes with CANCELLED and its flips stay held (R259). -/
def State.wallDrop (h : Nat) (s : State) : State :=
  if (s.wallOf h).ready.isNone then s
  else
    let ids := s.cmdsWhere fun c => c.key / 16 == h && c.phase == 2 && c.op == 0x22
    let s := forNat 16 (fun p s => s.setPlane h p fun x =>
      { x with held := x.held.map fun f => { f with wall := f.wall && f.voted.isSome } }) s
    let s := s.cmdsMap (fun c => c.op != 0x22 && c.key / 16 == h && c.phase == 2) (fun c => { c with phase := 1 })
    forEach ids (fun id s => s.cmdDone id CANCELLED 0) (s.readyEnds h)

/-- COMMIT has come for the flips of a head's standing READY: they are committed at the start of frame N + 1 (R256). -/
def State.wallVoted (h round : Nat) (s : State) : State :=
  let s := forNat 16 (fun p s => s.setPlane h p fun x =>
    { x with held := x.held.map fun f => if f.wall && f.voted.isNone then { f with voted := some round } else f }) s
  let s := s.cmdsMap (fun c => c.key / 16 == h && c.phase == 2) (fun c => { c with phase := 5, res := round })
  (s.readyEnds h).setHw h fun x => { x with commits := x.commits ++ [(round, false)] }

/-! The master's table (R252 to R260). -/

def State.group (s : State) (g : Nat) : Group := fget {} s.groups g
def State.setGroup (g : Nat) (f : Group → Group) (s : State) : State := { s with groups := fmod {} s.groups g f }
def State.member (s : State) (g m : Nat) : Member := fget {} (s.group g).mem m
def State.setMember (g m : Nat) (f : Member → Member) (s : State) : State :=
  s.setGroup g fun x => { x with mem := fmod {} x.mem m f }

/-- The payload of a wall message: GROUP, MEMBER, TAG, ROUND (R237). -/
def wallPay (g m tag round : Nat) : List Byte := leBytes 2 g ++ leBytes 2 m ++ leBytes 4 tag ++ leBytes 8 round

/-- LATE_COMMIT takes effect on a head (R260). -/
def State.lateCommit (h g round : Nat) (s : State) : State :=
  if (s.wallOf h).ready.isNone then s
  else (s.wallCommit h).raise PG_CHN 11 { d6 := g, d7 := round }

/-- COMMIT takes effect on every head of this unit whose READY has that group and tag (R256). -/
def State.commitHere (g tag round : Nat) (s : State) : State :=
  forNat 8 (fun h s =>
    if (s.wallOf h).ready == some (g, tag) then s.wallVoted h round
    else if (s.wallOf h).ready.any (fun r => r.1 == g) then s.setHw h fun x => { x with silent := 0 }
    else s) s

/-- CHN_HEAD_GROUP.EXCLUDED shows whether the head is excluded in its group (R258). -/
def State.showExcluded (h : Nat) (s : State) : State :=
  s.sf PG_CHN (R.CHN_HEAD_GROUP_EXCLUDED h) (if (s.wallOf h).excl.contains (s.headGroup h) then 1 else 0)

/-- EXCLUDE takes effect on a head (R258); `told` says that EXCLUDED has already been raised for it on this unit.  Its READY is withdrawn
and all its held flips are committed at once (DEDUCED, log entry 154). -/
def State.excludeHere (h g reason : Nat) (told : Bool) (s : State) : State :=
  let s := (s.setHw h fun x => { x with excl := nadd x.excl g }).showExcluded h
  let s := if told then s else s.raise PG_CHN 9 { d6 := g, d7 := s.memberNo h + reason * 65536 }
  ((s.commitHeld h (fun _ => true) fun c => c.inWall || c.phase == 1).readyEnds h).setHw h fun x => { x with commits := [] }

/-- The master counts a READY (R255), or answers one whose tag is already committed with LATE_COMMIT (R260). -/
def State.masterReady (g m tag : Nat) (s : State) : State :=
  match (s.group g).last with
  | some (round, t) =>
    if t = tag then
      (if m / 8 = s.ownAddr then s.lateCommit (m % 8) g round
       else s.unicast (s.ctl 0x17 (m / 8) false 0 (wallPay g m tag round)))
    else s.setMember g m fun x => { x with ready := some tag }
  | none => s.setMember g m fun x => { x with ready := some tag }

/-- JOIN, WITHDRAW and SELF_EXCLUDED at the master (R252, R259, R261). -/
def State.masterJoin (g m : Nat) (s : State) : State := s.setMember g m fun x => { x with present := true }
def State.masterWithdraw (g m : Nat) (s : State) : State := s.setMember g m fun x => { x with present := false, ready := none }
def State.masterSelfExcl (g m : Nat) (s : State) : State := s.setMember g m fun x => { x with excluded := true, ready := none }

/-- JOIN (0x15), WITHDRAW (0x16), READY (0x10) or SELF_EXCLUDED (0x18) from a head of this unit to the master, which may be this
unit. -/
def State.toMaster (ty h g tag flags : Nat) (s : State) : State :=
  let m := s.memberNo h
  if s.isMaster then
    if ty = 0x15 then s.masterJoin g m else if ty = 0x16 then s.masterWithdraw g m
    else if ty = 0x10 then s.masterReady g m tag else s.masterSelfExcl g m
  else if s.upPort.isNone then s
  else s.unicast (s.ctl ty 0 false flags (if ty = 0x18 then wallPay g m 1 0 else wallPay g m tag 0))

/-- Whether the head's group has no member but the head (R253): no other head of the unit; on the master no present member in the
table; and on another unit no member elsewhere, as far as the unit has a path to a master (`Config.groupElsewhere`, log entry 155). -/
def State.soleMember (s : State) (h g : Nat) : Bool :=
  s.isMember h && s.headGroup h = g &&
    ((List.range 8).all fun k => k == h || !(s.isMember k && s.headGroup k == g)) &&
    (if s.isMaster then (s.group g).mem.all fun p => !p.2.present || p.1 == s.memberNo h
     else s.upPort.isNone || !Config.groupElsewhere g s.walltime)

/-- A present member of a group that has other members has sent JOIN (R252, R253). -/
def State.wallJoin (h : Nat) (s : State) : State :=
  if !s.isPresent h || (s.wallOf h).joined || (!s.isMaster && s.soleMember h (s.headGroup h)) then s
  else (s.setHw h fun x => { x with joined := true }).toMaster 0x15 h (s.headGroup h) 0 0

/-- A head stops being present: WITHDRAW, if JOIN was sent (R252). -/
def State.wallWithdraw (h : Nat) (s : State) : State :=
  let s := s.sf PG_CHN (R.CHN_HEAD_GROUP_PRESENT h) 0
  if !(s.wallOf h).joined then s
  else (s.setHw h fun x => { x with joined := false }).toMaster 0x16 h (s.headGroup h) 0 0

/-- PRESENT of a head follows its state: JOIN when it becomes present, WITHDRAW when it stops, with its READY dropped (R252,
R259). -/
def State.wallSync (h : Nat) (s : State) : State :=
  let now := s.presentNow h
  if now = s.isPresent h then s.wallJoin h
  else if now then (s.sf PG_CHN (R.CHN_HEAD_GROUP_PRESENT h) 1).wallJoin h
  else (s.wallWithdraw h).wallDrop h

/-- Before GROUP or MEMBER of a head changes: the head withdraws from its group (R259). -/
def State.wallLeave (h : Nat) (s : State) : State :=
  (if s.isPresent h then s.wallWithdraw h else s).wallDrop h

/-- Why FLIP_WALL on a head to a group is refused (R254). -/
def State.wallRefused (s : State) (h g : Nat) : Bool :=
  if s.soleMember h g then false
  else if s.isMember h && s.headGroup h = g && s.excluded h then false
  else !(s.isMember h && s.headGroup h = g && s.isPresent h && s.presentNow h) || (s.wallOf h).ready.isSome

/-- FLIP_WALL executes: it commits at once, or sends READY and stands in the vote (R253, R254, R258). -/
def State.wallRelease (h g tag owner : Nat) (s : State) : State :=
  let s := s.wallHold h owner
  if s.soleMember h g || s.excluded h then s.wallCommit h
  else
    let s := ((s.wallJoin h).setHw h fun x => { x with ready := some (g, tag), owner, silent := 0 }).sf PG_CHN
      (R.CHN_HEAD_GROUP_READY h) 1
    s.toMaster 0x10 h g tag 0

/-- The members of a group that a vote counts: present and not excluded (R255). -/
def Group.voters (x : Group) : List (Nat × Member) := x.mem.filter fun p => p.2.present && !p.2.excluded

/-- The master excludes a member (R257, R258). -/
def State.excludeMember (g m round : Nat) (s : State) : State :=
  let s := s.setMember g m fun x => { x with excluded := true, misses := 0, ready := none }
  let s := s.raise PG_CHN 9 { d6 := g, d7 := m }
  if m / 8 = s.ownAddr then s.excludeHere (m % 8) g 0 true
  else s.unicast (s.ctl 0x13 (m / 8) false 0 (wallPay g m 0 round))

/-- The master decides round `n` of a group (R255, R257). -/
def State.voteGroup (g n : Nat) (s : State) : State :=
  let vs := (s.group g).voters
  match vs.find? (fun p => p.2.ready.isSome) with
  | none => s
  | some (_, x) =>
    let tag := x.ready.getD 0
    let missing := (vs.filter fun p => p.2.ready != some tag).map (·.1)
    let s := s.setGroup g fun y => { y with
      voted := some n
      mem := y.mem.map fun p => if p.2.present && !p.2.excluded && p.2.ready == some tag then (p.1, { p.2 with misses := 0 }) else p }
    if missing.isEmpty then
      let s := s.setGroup g fun y => { y with
        last := some (n, tag), defers := 0
        mem := y.mem.map fun p => if p.2.present && !p.2.excluded then (p.1, { p.2 with ready := none }) else p }
      (s.broadcast (s.ctl 0x11 0 true 0 (wallPay g 0 tag n))).commitHere g tag n
    else
      let s := s.setGroup g fun y => { y with
        defers := min 255 (y.defers + 1)
        mem := y.mem.map fun p => if missing.contains p.1 then (p.1, { p.2 with misses := p.2.misses + 1 }) else p }
      let s := s.broadcast (s.ctl 0x12 0 true 0 (wallPay g missing.length tag n))
      let s := s.raise PG_CHN 8 { d6 := g, d7 := missing.headD 0 }
      let lim := s.gf PG_CHN R.CHN_WALL_CFG_DEFER_LIMIT
      let s := forNat 8 (fun h s => if (s.wallOf h).ready.any (fun r => r.1 == g) then s.setHw h fun y => { y with silent := 0 } else s) s
      forEach missing (fun m s => if lim != 0 && lim ≤ (s.member g m).misses then s.excludeMember g m n else s) s

/-! Sending and firing of marks (R245, R246). -/

/-- The master sends a mark and schedules it for itself (R245). -/
def State.sendMark (seq time : Nat) (s : State) : State :=
  let r := s.markRestart
  let s := s.broadcast (s.ctl 0x01 0 true (if r then 2 else 0) (leBytes 8 seq ++ leBytes 8 time))
  { s with marks := s.marks ++ [{ seq, time, restart := r }], markRestart := false, markSent := some seq, markSeen := some seq }

end Sys2Proof.Machine
end

