-- ==== Sys2Proof/Machine/Dp.lean ====
section
/-! DEFINITION. DisplayPort link layers (chapter 08): the permitted link (R266, R267), link states and training (R268 to R273),
AUX (R275, R276), faults (R280 to R282) and panel power (R284). -/

namespace Sys2Proof.Machine

open Sys2Proof

/-! Link states (R268). -/
abbrev lOFF : Nat := 0
abbrev lNO_SINK : Nat := 1
abbrev lREAD_CAPS : Nat := 2
abbrev lTRAINING : Nat := 3
abbrev lUP : Nat := 4
abbrev lFAILED : Nat := 5

def State.dp (s : State) (h : Nat) : Dp := fget {} s.dps h
def State.setDp (h : Nat) (f : Dp → Dp) (s : State) : State := { s with dps := fmod {} s.dps h f }
def State.linkSt (s : State) (h : Nat) : Nat := s.gf (pgDpl h) R.DPL_STATUS_LINK_STATE

/-- An event of a DPL page; it carries the frame number while frames are counted (R289). -/
def State.dplRaise (h b : Nat) (ev : Ev) (s : State) : State :=
  s.raise (pgDpl h) b
    { ev with frame := if s.headSt h = hRUN || s.headSt h = hHANDOVER then some (s.frameCount h) else none }

/-- Link rate of a code in 10 kbit/s (R264). -/
def rateKbps10 : Nat → Nat
  | 0 => 162000
  | 1 => 270000
  | 2 => 540000
  | _ => 810000

/-- Lanes of a MAX_LANES code, and the LANES code of a lane count. -/
def lanesOf (c : Nat) : Nat := if c = 0 then 1 else if c = 1 then 2 else 4
def lanesCode (n : Nat) : Nat := if n = 0 then 0 else if n = 1 then 1 else if n = 2 then 2 else 3

/-- Whether lanes × rate × 0.8 carries a mode at a depth (R175, R267): kHz × 3 × bits against 10 kbit/s × lanes × 8. -/
def carries (m : ModeRow) (bpc rate lanes : Nat) : Bool := m.khz * 3 * bpc ≤ lanes * rateKbps10 rate * 8

/-- Bits per component of a BPC bit. -/
def bpcOf (b : Nat) : Nat := if b = 0 then 8 else 10
def State.headBpc (s : State) (h : Nat) : Nat := bpcOf (s.gf (pgAve h) R.AVE_CTRL_BPC)

/-- The sink's MAX_LINK_RATE as a rate code and MAX_LANE_COUNT, from the capabilities read (R266). -/
def State.sinkRate (s : State) (h : Nat) : Nat :=
  let c := bits (s.rd (pageBase (pgDpl h) + 0x50)) 8 8
  if 0x1E ≤ c then 3 else if 0x14 ≤ c then 2 else if 0x0A ≤ c then 1 else 0
def State.sinkLanes (s : State) (h : Nat) : Nat :=
  let c := bits (s.rd (pageBase (pgDpl h) + 0x50)) 16 5
  if 4 ≤ c then 4 else if 2 ≤ c then 2 else 1

/-- The permitted rate and lanes for a setting (R266). -/
def State.permit (s : State) (h rate lanesC : Nat) : Nat × Nat :=
  if (s.dp h).capsKnown then (min rate (s.sinkRate h), min (lanesOf lanesC) (s.sinkLanes h)) else (rate, lanesOf lanesC)
def State.permitted (s : State) (h : Nat) : Nat × Nat :=
  s.permit h (s.gf (pgDpl h) R.DPL_LINK_CFG_MAX_RATE) (s.gf (pgDpl h) R.DPL_LINK_CFG_MAX_LANES)

/-- Whether the link of a head can carry a mode at a depth (R175). -/
def State.linkCarries (s : State) (h : Nat) (m : ModeRow) (bpc : Nat) : Bool :=
  carries m bpc (s.permitted h).1 (s.permitted h).2

/-- Physical lane of logical lane `k` (R274). -/
def State.physLane (s : State) (h k : Nat) : Nat := s.gf (pgDpl h) R.DPL_LANE_MAP_MAP / 4 ^ k % 4
def State.physLanes (s : State) (h n : Nat) : List Nat := (List.range n).map fun k => s.physLane h k

/-- Lanes that no configuration may use: open or shorted (R267, R282). -/
def State.badLanes (s : State) (h : Nat) : Nat :=
  s.gf (pgDpl h) R.DPL_STATUS_LANE_OPEN ||| s.gf (pgDpl h) R.DPL_STATUS_LANE_SHORT

/-- The usable configurations in the order of R267. -/
def State.usable (s : State) (h : Nat) : List (Nat × Nat) :=
  let pr := s.permitted h
  let l := ([4, 2, 1].flatMap fun n => [3, 2, 1, 0].map fun r => (r, n)).filter fun c =>
    c.1 ≤ pr.1 && c.2 ≤ pr.2 && carries (s.headMode h) (s.headBpc h) c.1 c.2 &&
      (s.physLanes h c.2).all fun p => !bit (s.badLanes h) p
  if s.tf (pgDpl h) R.DPL_LINK_CFG_FALLBACK_EN then l else l.take 1

/-! Panel power (R284). -/

abbrev vOFF : Nat := 0
abbrev vVDD_WAIT : Nat := 1
abbrev vVIDEO_WAIT : Nat := 2
abbrev vON : Nat := 3
abbrev vBL_OFF : Nat := 4
abbrev vVDD_OFF : Nat := 5
abbrev vFAILED : Nat := 6

def State.panelSt (s : State) (h : Nat) : Nat := s.gf (pgDpl h) R.DPL_PANEL_MISC_STATE
/-- PANEL_ON of R284. -/
def State.panelOn (s : State) (h : Nat) : Bool :=
  s.tf (pgDpl h) R.DPL_CTRL_EDP && s.tf (pgDpl h) R.DPL_CTRL_PANEL_ON && s.headSt h != hIDLE
/-- DP[h]_VDD_EN and DP[h]_BL_EN (R265, R284), pins of bank E (R481, R484). -/
def State.vddEn (s : State) (h : Nat) : Bool := !s.bankBad 4 && s.tf (pgDpl h) R.DPL_CTRL_EDP && s.panelSt h != vOFF
def State.blEn (s : State) (h : Nat) : Bool := !s.bankBad 4 && s.tf (pgDpl h) R.DPL_CTRL_EDP && s.panelSt h = vON

/-- Whether frames leave on the main stream: the link is UP, and the panel sequence has not stopped the stream (R271, R284). -/
def State.streaming (s : State) (h : Nat) : Bool :=
  s.linkSt h = lUP && !(s.tf (pgDpl h) R.DPL_CTRL_EDP && (s.panelSt h = vVDD_OFF || s.panelSt h = vOFF))

/-- The panel state changes. -/
def State.panelTo (h new : Nat) (s : State) : State :=
  let old := s.panelSt h
  let s := (s.sf (pgDpl h) R.DPL_PANEL_MISC_STATE new).setDp h fun x => { x with
    panelAt := s.walltime, firstFrame := none, vddFell := if new = vOFF then some s.walltime else x.vddFell }
  -- while VDD_EN is low HPD is ignored: what was seen of it before counts no longer (R279; DEDUCED, log entry 157)
  let s := if new = vOFF && s.tf (pgDpl h) R.DPL_CTRL_EDP then s.sf (pgDpl h) R.DPL_STATUS_HPD 0 else s
  s.dplRaise h 12 { d6 := old, d7 := new }

/-- The panel transitions that a level, not a timer, makes (R284). -/
def State.panelPoll (h : Nat) (s : State) : State :=
  let st := s.panelSt h
  if st = vOFF then
    (match (s.dp h).vddFell with
     | some t => if s.panelOn h && t + s.gf (pgDpl h) R.DPL_PANEL_MISC_MIN_OFF_MS * 1000000 ≤ s.walltime then s.panelTo h vVDD_WAIT else s
     | none => if s.panelOn h then s.panelTo h vVDD_WAIT else s)
  else if st = vVDD_WAIT then (if s.linkSt h = lUP then s.panelTo h vVIDEO_WAIT else s)
  else if st = vVIDEO_WAIT || st = vON then (if !s.panelOn h || s.linkSt h != lUP then s.panelTo h vBL_OFF else s)
  else if st = vFAILED then (if !s.panelOn h then s.panelTo h vVDD_OFF else s)
  else s

/-- The panel follows the link into UP (R284). -/
def State.panelLinkUp (h : Nat) (s : State) : State :=
  if s.panelSt h = vBL_OFF && s.panelOn h then s.panelTo h vVIDEO_WAIT else s.panelPoll h

/-! Link states and training. -/

/-- LINK_STATE takes a value; lanes send no signal outside TRAINING and UP; the sense of HPD stuck low begins anew (R268, R280). -/
def State.linkTo (h new : Nat) (s : State) : State :=
  let s := (s.sf (pgDpl h) R.DPL_STATUS_LINK_STATE new).setDp h fun x => { x with stuckSince := none }
  if new = lTRAINING || new = lUP || new = lFAILED then s else s.sf (pgDpl h) R.DPL_STATUS_LANES 0

/-- The duration of the training that ends (DPL_TRAIN_STAT). -/
def State.trainEnds (h : Nat) (s : State) : State :=
  s.sf (pgDpl h) R.DPL_TRAIN_STAT_LAST_US (min 65535 ((s.walltime - (s.dp h).trainAt) / 10000))

/-- FAILED is entered with a reason: LINK_TRAIN_FAIL (R268, R289). -/
def State.linkFails (h reason d6 d7 : Nat) (s : State) : State :=
  let s := (s.linkTo h lFAILED).setDp h fun x => { x with failAt := s.walltime, cfgs := [] }
  ((s.sf (pgDpl h) R.DPL_STATUS_FAIL_REASON reason).dplRaise h 5 { status := reason, d6, d7 }).panelPoll h

/-- Open lanes are decided at a training start (R282): a lane that senses no termination while another does. -/
def State.findOpens (h : Nat) (s : State) : State :=
  let x := s.dp h
  let old := s.gf (pgDpl h) R.DPL_STATUS_LANE_OPEN
  let opened := if x.terms = 0 then 0 else 15 ^^^ (x.terms &&& 15)
  let s := s.sf (pgDpl h) R.DPL_STATUS_LANE_OPEN (opened ||| x.bistOpen)
  forNat 4 (fun p s => if bit opened p && !bit old p then s.dplRaise h 10 { d6 := p, d7 := 0 } else s) s

/-- The link layer writes a DPCD byte. -/
def State.dpcdWrite (h addr v : Nat) (s : State) : State := { s with linkOut := s.linkOut ++ [.dpcd h addr v] }
/-- A training pattern sequence is sent on the lanes of the configuration. -/
def State.sendTps (h n : Nat) (s : State) : State := { s with linkOut := s.linkOut ++ [.tps h n] }
/-- DPCD 0x00100 for a rate code; DPCD 0x00101 for a lane count, with enhanced framing as in the worked example (R269; DEDUCED, log
entry 158). -/
def linkBw (rate : Nat) : Nat := if rate = 0 then 0x06 else if rate = 1 then 0x0A else if rate = 2 then 0x14 else 0x1E
def laneSet (n : Nat) : Nat := 0x80 + n

/-- The registers show the present configuration. -/
def State.showConfig (h : Nat) (s : State) : State :=
  match (s.dp h).cfgs with
  | c :: _ =>
    ((s.rePeriod (17 + h) fun s => s.sf (pgDpl h) R.DPL_STATUS_RATE c.1).sf (pgDpl h) R.DPL_STATUS_LANES (lanesCode c.2)).sf (pgDpl h)
      R.DPL_TRAIN_STAT_CONFIGS ((s.dp h).tried)
  | [] => s

/-- The present configuration is the one being trained: it is written to the sink, and clock recovery starts with TPS1 (R269). -/
def State.tryConfig (h : Nat) (s : State) : State :=
  let s := s.showConfig h
  match (s.dp h).cfgs with
  | c :: _ => ((s.dpcdWrite h 0x100 (linkBw c.1)).dpcdWrite h 0x101 (laneSet c.2)).sendTps h 1
  | [] => s

/-- With AUX in FAULT every step of training fails at once, so every configuration left does, and the link with the last (R268, R281). -/
def State.trainAuxFail (h : Nat) (s : State) : State :=
  let s := (s.setDp h fun x => { x with cfgs := x.cfgs.getLast?.toList, tried := x.tried + (x.cfgs.length - 1) }).showConfig h
  let c := (s.dp h).cfgs.headD (0, 0)
  (s.trainEnds h).linkFails h LINK_ERROR (c.1 * 16 + c.2) (s.dp h).tried

/-- Training starts at the first usable configuration; from UP, LINK_DOWN names the new state and the trigger (R268);
with AUX in FAULT it fails (R281). -/
def State.startTraining (h trigger : Nat) (s : State) : State :=
  let wasUp := s.linkSt h = lUP
  let s := s.findOpens h
  let cs := s.usable h
  let s := if wasUp then
      s.dplRaise h 4 { d6 := (if cs.isEmpty then lFAILED else lTRAINING), d7 := trigger } else s
  if cs.isEmpty then s.linkFails h NO_RESOURCE 0 0
  else
    let s := s.setDp h fun x => { x with cfgs := cs, tried := 1, searched := false, trainAt := s.walltime }
    let s := (s.linkTo h lTRAINING).bump (pgDpl h) R.DPL_TRAIN_STAT_TRAININGS 1
    if s.tf (pgDpl h) R.DPL_STATUS_AUX_FAULT then s.trainAuxFail h else (s.tryConfig h).panelPoll h

/-- Whether HPD reads high to the link layer (R280). -/
def State.hpdHigh (s : State) (h : Nat) : Bool := s.tf (pgDpl h) R.DPL_STATUS_HPD || s.tf (pgDpl h) R.DPL_CTRL_HPD_FORCE

/-- READ_CAPS is entered; with AUX in FAULT the read fails at once (R268, R281). -/
def State.readCaps (h : Nat) (s : State) : State :=
  let s := s.linkTo h lREAD_CAPS
  if s.tf (pgDpl h) R.DPL_STATUS_AUX_FAULT then s.linkFails h LINK_ERROR 0 0 else s

/-- A plug from NO_SINK (R268). -/
def State.plug (h : Nat) (s : State) : State := (s.dplRaise h 0 {}).readCaps h

/-- A retraining trigger acts (R268): 0 IRQ_HPD, 1 lane fault, 2 commit, 3 RELOCK, 4 RETRAIN. -/
def State.retrainBy (h trigger : Nat) (s : State) : State :=
  if s.linkSt h = lUP || s.linkSt h = lTRAINING then s.startTraining h trigger
  else if s.linkSt h = lFAILED && trigger != 1 && s.gf (pgDpl h) R.DPL_STATUS_HPD_STUCK != 2 then s.readCaps h
  else s

/-- The unplug of R278. -/
def State.unplug (h : Nat) (s : State) : State :=
  let old := s.linkSt h
  if old = lOFF || old = lNO_SINK then s
  else
    let s := (s.linkTo h lNO_SINK).setDp h fun x => { x with irq := none, cfgs := [] }
    let s := s.dplRaise h 1 { d6 := old }
    (if old = lUP then s.dplRaise h 4 { d6 := lNO_SINK, d7 := 5 } else s).panelPoll h

/-- The head leaves IDLE: AUX and HPD monitoring start; with HPD forced the plug is immediate (R268). -/
def State.linkStart (h : Nat) (s : State) : State :=
  if s.linkSt h != lOFF then s
  else
    let s := s.linkTo h lNO_SINK
    (if s.tf (pgDpl h) R.DPL_CTRL_HPD_FORCE then s.plug h else s).panelPoll h

/-- A software AUX request ends: its status, and AUX_DONE (R276). -/
def State.auxEnd (h code bytes : Nat) (s : State) : State :=
  let p := pgDpl h
  let s := ((s.sf p R.DPL_AUX_STATUS_BUSY 0).sf p R.DPL_AUX_STATUS_STATUS code).sf p R.DPL_AUX_STATUS_BYTES bytes
  (s.setDp h fun x => { x with swErr := false, swDefers := 0, swWait := false }).dplRaise h 8 { status := code, d6 := code, d7 := bytes }

/-- A software AUX request completes; an error counts (R76, R276). -/
def State.auxDone (h code bytes : Nat) (s : State) : State :=
  let s := s.auxEnd h code bytes
  if okCode code then s else s.err (pgDpl h) code

/-- A software AUX request in progress ends with `code`: CANCELLED where its block stops (R74), the REASON of a fault (R61).  One that is
cancelled between its two attempts counts as nothing (R73). -/
def State.auxStop (h code : Nat) (s : State) : State :=
  if !s.tf (pgDpl h) R.DPL_AUX_STATUS_BUSY then s
  else if code = CANCELLED && (s.dp h).swErr then s.auxEnd h code 0
  else s.auxDone h code 0

/-- The head enters IDLE: lanes and AUX stop (R268).  A link that leaves UP so raises LINK_DOWN, whose trigger code the manual does not
give: a free value (log entry 27). -/
def State.linkStop (h : Nat) (s : State) : State :=
  let wasUp := s.linkSt h = lUP
  let s := (s.linkTo h lOFF).setDp h fun x => { x with irq := none, cfgs := [] }
  let s := if wasUp then s.useFree.dplRaise h 4 { d6 := lOFF, d7 := s.free.toNat % 4294967296 } else s
  (s.auxStop h LINK_ERROR).panelPoll h

/-- A lasting AUX error (R276, R289). -/
def State.auxLasting (h addr req : Nat) (s : State) : State :=
  (s.bump (pgDpl h) R.DPL_AUX_STAT_LASTING 1).dplRaise h 7 { status := LINK_ERROR, d6 := addr, d7 := req }

/-- IRQ_HPD is serviced: HPD_IRQ with DPCD 0x200 to 0x205, and a retraining when lock or alignment is lost (R278, R289). -/
def State.irqService (h : Nat) (d : List Byte) (s : State) : State :=
  let s := s.dplRaise h 2 { d6 := ofLe (d.take 4), d7 := ofLe ((d.drop 4).take 2) }
  if s.linkSt h = lFAILED then s.retrainBy h 0
  else if s.linkSt h = lUP then
    let n := (fun c => if c = 3 then 4 else c) (s.gf (pgDpl h) R.DPL_STATUS_LANES)
    let lost := (List.range n).any fun k => ((d.getD (2 + k / 2) 0#8).toNat / 16 ^ (k % 2)) % 8 != 7
    if lost || (d.getD 4 0#8).toNat % 2 = 0 then s.retrainBy h 0 else s
  else s

/-- An IRQ_HPD is acted on (R278); with AUX in FAULT the DPCD cannot be read (R281). -/
def State.irqActs (h : Nat) (d : List Byte) (s : State) : State :=
  if s.tf (pgDpl h) R.DPL_STATUS_AUX_FAULT then (if s.linkSt h = lFAILED then s.retrainBy h 0 else s) else s.irqService h d

/-- An IRQ_HPD that was held is acted on when the step or the training ends (R278). -/
def State.irqHeld (h : Nat) (s : State) : State :=
  match (s.dp h).irq with
  | some d => if s.linkSt h = lREAD_CAPS || s.linkSt h = lTRAINING then s
              else (s.setDp h fun x => { x with irq := none }).irqActs h d
  | none => s

/-- A retraining trigger acts; an IRQ_HPD that was held follows where the training ends so (R268, R278). -/
def State.retrain (h trigger : Nat) (s : State) : State := (s.retrainBy h trigger).irqHeld h

end Sys2Proof.Machine
end

