-- ==== Sys2Proof/Machine/Compose.lean ====
section
/-! DEFINITION. Pixels: formats (R89, R91), blending (R135 to R137), video planes (R138 to R142), the plane stack (R131, R132), the
Arcade's tiles (R147) and the patterns of CONFIGURE and FALLBACK (R474, R475). -/

namespace Sys2Proof.Machine

open Sys2Proof

/-- Three 12-bit components: R, G, B, or Y, Cb, Cr. -/
abbrev Rgb := Nat × Nat × Nat

/-- A component of `n` bits is widened to 12 bits by repeating its bits (R91). -/
def widen (v n : Nat) : Nat :=
  let once := v * 2 ^ (12 - n)
  if n = 0 || 12 ≤ n then v
  else (List.range 12).foldl (fun a k => a + (once / 2 ^ (n * (k + 1)))) once % 4096

/-- Bits `hi : lo` of a raw pixel. -/
def pbits (raw hi lo : Nat) : Nat := raw / 2 ^ lo % 2 ^ (hi - lo + 1)
/-- The same widened to 12 bits. -/
def wbits (raw hi lo : Nat) : Nat := widen (pbits raw hi lo) (hi - lo + 1)

/-- A colour register's value widened: R[29:20], G[19:10], B[9:0]. -/
def colour12 (w : Nat) : Rgb := (wbits w 29 20, wbits w 19 10, wbits w 9 0)

/-- The alpha and components of a raw pixel of a format, widened (R89, R91); `odd` picks the pixel of a YCbCr422 pair. -/
def unpackPix (fmt raw : Nat) (odd : Bool) : Nat × Rgb :=
  match fmt with
  | 0x01 => (4095, wbits raw 15 11, wbits raw 10 5, wbits raw 4 0)
  | 0x02 => (wbits raw 15 12, wbits raw 11 8, wbits raw 7 4, wbits raw 3 0)
  | 0x03 => (wbits raw 15 15, wbits raw 14 10, wbits raw 9 5, wbits raw 4 0)
  | 0x05 => (wbits raw 31 24, wbits raw 23 16, wbits raw 15 8, wbits raw 7 0)
  | 0x07 => (wbits raw 31 30, wbits raw 29 20, wbits raw 19 10, wbits raw 9 0)
  | 0x10 => (4095, (if odd then wbits raw 23 16 else wbits raw 7 0), wbits raw 15 8, wbits raw 31 24)
  | 0x12 => (4095, wbits raw 29 20, wbits raw 19 10, wbits raw 9 0)
  | _ => (4095, wbits raw 23 16, wbits raw 15 8, wbits raw 7 0)

/-- Where the raw bits of pixel (x, y) of a surface lie: address and bytes (R86, R89). -/
def Sdt.pixAt (e : Sdt) (x y : Nat) : Nat × Nat :=
  if e.format = 0x10 then (e.base + y * e.stride + x / 2 * 4, 4)
  else (e.base + y * e.stride + x * fmtBytes e.format, fmtBytes e.format)

/-- 12-bit multiplication (R135). -/
def mul12 (x y : Nat) : Nat := (x * y + 2047) / 4095

/-- A pixel of colour `cs` and alpha `a` over `cd` (R135). -/
def blend (cd : Rgb) (a : Nat) (cs : Rgb) (g mode : Nat) : Rgb :=
  let ae := if mode = 2 then g else mul12 a g
  let k := if mode = 0 then ae else g
  let f := fun c d => min 4095 (mul12 c k + mul12 d (4095 - ae))
  (f cs.1 cd.1, f cs.2.1 cd.2.1, f cs.2.2 cd.2.2)

/-- A composed component as it leaves Plaza (R137). -/
def outComp (bpc v : Nat) : Nat := if bpc = 10 then min 1023 ((v + 2) / 4) else min 255 ((v + 8) / 16)

/-- The pixel word of R212 from components at the head's depth. -/
def pixWord (bpc : Nat) (c : Rgb) : Nat :=
  let k := if bpc = 10 then 1 else 4
  c.2.2 * k + c.2.1 * k * 1024 + c.1 * k * 1048576
def outWord (bpc : Nat) (c : Rgb) : Nat := pixWord bpc (outComp bpc c.1, outComp bpc c.2.1, outComp bpc c.2.2)

/-- A 10-bit colour sent as programmed, or v ÷ 4 at 8 bits (R209, R474). -/
def directWord (bpc w : Nat) : Nat :=
  let f := fun v => if bpc = 10 then v else v / 4
  pixWord bpc (f (pbits w 29 20), f (pbits w 19 10), f (pbits w 9 0))

/-! The filter ROM of video planes (R140), computed at 100 fractional bits. -/

def fixOne : Int := 2 ^ 100
def fixPi : Int := 3982441812995697363688351113952

/-- Terms of the sine series of an angle whose square is `sq`. -/
def sinSeries : Nat → Int → Int → Int → Int
  | 0, _, _, acc => acc
  | k + 1, sq, t, acc =>
    let n : Int := (24 - k : Nat)
    let t' := -(t * sq / fixOne) / ((2 * n) * (2 * n + 1))
    sinSeries k sq t' (acc + t')

/-- sin(π × num ÷ den), for den above 0. -/
def sinPi (num : Int) (den : Nat) : Int :=
  let r := num % (2 * den : Int)
  let neg := decide ((den : Int) ≤ r)
  let r := if neg then r - den else r
  let r := if (den : Int) < 2 * r then den - r else r
  let th := fixPi * r / den
  let v := sinSeries 23 (th * th / fixOne) th th
  if neg then -v else v

/-- sinc(num ÷ den) (R140). -/
def sincFix (num : Int) (den : Nat) : Int := if num = 0 then fixOne else sinPi num den * fixOne * den / (fixPi * num)

/-- The weights of an axis with 2a taps, at ratio n ÷ 64 and a phase (R140). -/
def romW (a n phase k : Nat) : Int :=
  let x64 : Int := 64 * ((k : Int) - (a - 1 : Nat)) - phase
  sincFix (x64 * n) 4096 * sincFix x64 (64 * a) / fixOne

/-- `p ÷ q` rounded to the nearest integer, for q above 0. -/
def roundDiv (p q : Int) : Int := (2 * p + q) / (2 * q)

/-- The coefficients (R140): rounded, and the largest takes the difference to 1,024. -/
def romCoef (a n phase : Nat) : List Int :=
  let ws := (List.range (2 * a)).map (romW a n phase)
  let sum := ws.foldl (· + ·) 0
  let cs := ws.map fun w => roundDiv (1024 * w) sum
  let big := cs.foldl max 0
  let at_ := (List.range (2 * a)).filter fun k => cs.getD k 0 == big
  let pick := match at_ with
    | i :: j :: _ => if Config.romTie a n phase then j else i
    | i :: _ => i
    | [] => 0
  cs.set pick (big + (1024 - cs.foldl (· + ·) 0))

/-- A filtered value (R140). -/
def filtered (cs : List Int) (ps : List Nat) : Nat :=
  let v := ((cs.zip ps).foldl (fun n c => n + c.1 * (c.2 : Int)) 0 + 512) / 1024
  (max 0 (min 4095 v)).toNat

/-- First tap and phase of an axis for destination offset `d` (R139). -/
def tapStart (a src0 src dst d : Nat) : Int × Nat :=
  let step : Int := roundDiv (src * 65536) dst
  let pos : Int := src0 * 65536 + step / 2 - 32768 + d * step
  let i := pos / 65536
  let ph := ((pos % 65536 + 512) / 1024).toNat
  if ph = 64 then (i + 1 - (a - 1 : Nat), 0) else (i - (a - 1 : Nat), ph)

/-- The tap positions of an axis, the source rectangle's edges repeated (R139). -/
def tapList (a src0 src dst d : Nat) : List Nat :=
  (List.range (2 * a)).map fun k =>
    (max (src0 : Int) (min ((src0 + src - 1 : Nat) : Int) ((tapStart a src0 src dst d).1 + k))).toNat

/-- Ratio n of an axis (R140). -/
def romRatio (src dst : Nat) : Nat := min 64 (64 * dst / src)

/-- YCbCr to RGB (R142). -/
def toRgb (csc : Nat) (c : Rgb) : Rgb :=
  let k : Int × Int × Int × Int × Int × Int := match csc with
    | 0 => (256, 19147, 26245, -6442, -13369, 33172)
    | 1 => (0, 16384, 22970, -5638, -11700, 29032)
    | 2 => (256, 19147, 29480, -3507, -8763, 34737)
    | _ => (0, 16384, 25802, -3069, -7670, 30402)
  let y : Int := c.1 - k.1
  let cb : Int := c.2.1 - 2048
  let cr : Int := c.2.2 - 2048
  let f := fun (v : Int) => (max 0 (min 4095 ((v + 8192) / 16384))).toNat
  (f (k.2.1 * y + k.2.2.1 * cr), f (k.2.1 * y + k.2.2.2.1 * cb + k.2.2.2.2.1 * cr), f (k.2.1 * y + k.2.2.2.2.2 * cb))

/-! Planes. -/

/-- What a plane gives at a pixel: colour and alpha, whether the pixel is error-coloured (R159), the blocks it reads. -/
structure PixIn where
  alpha : Nat := 0
  col : Rgb := (0, 0, 0)
  mode : Nat := 0
  show_ : Bool := false
  bad : Bool := false
  deriving DecidableEq, Repr

/-- Surfaces whose content is undefined while they are read: RETIRING, and written into since (R158, DEDUCED log entry 20). -/
def State.undefSurf (s : State) (i : Nat) : Bool := (s.surf i).state = sRETIRING && (s.surf i).torn

/-- Whether the watermark blocks the fetch of a pixel: Plaza acts in the world of the surface (R323, R325). -/
def State.pixBlocked (s : State) (i x y : Nat) : Bool := !(s.surf i).secure && decide (((s.surf i).pixAt x y).1 < s.wmDram)

/-- The raw bits of a surface pixel: zeros where the watermark blocks the fetch (R325), a free value where the content is undefined
(R158). -/
def State.rawPix (s : State) (i x y : Nat) : Nat :=
  let a := (s.surf i).pixAt x y
  if s.pixBlocked i x y then 0
  else if s.undefSurf i then (Config.freeValue (s.freeCtr + y * 8192 + x)).toNat % 2 ^ (8 * a.2) else ofLe (s.bytesAt a.1 a.2)

/-- The blocks that a surface pixel reads. -/
def Sdt.pixBlocks (e : Sdt) (x y : Nat) : List Nat :=
  let a := e.pixAt x y
  if blockOf a.1 = blockOf (a.1 + a.2 - 1) then [blockOf a.1] else [blockOf a.1, blockOf (a.1 + a.2 - 1)]

/-- Whether the memory controllers answer MEM_ERROR to every read (R369). -/
def State.memFault (s : State) : Bool := s.pstate 14 = pFAULT || s.pstate 15 = pFAULT

/-- Whether a pixel of a plane's surface is fed by a block whose fetch failed for good in this frame (R159). -/
def State.pixBad (s : State) (h p i x y : Nat) : Bool :=
  s.memFault || (fget [] s.badBlocks (16 * h + p)).any fun b => ((s.surf i).pixBlocks x y).contains b

/-- A graphic plane, or the overlay, at a pixel inside its destination rectangle (R133, R136). -/
def State.graphicPix (s : State) (h p : Nat) (c : PlaneCfg) (i x y : Nat) : PixIn :=
  let e := s.surf i
  let sx := c.src.x0 + (x - c.dst.x0)
  let sy := c.src.y0 + (y - c.dst.y0)
  if e.width ≤ sx || e.height ≤ sy then {}
  else if s.pixBad h p i sx sy then { show_ := true, bad := true }
  else
    let raw := s.rawPix i sx sy
    if c.keyEn && raw = c.key % 2 ^ (8 * (e.pixAt sx sy).2) then {}
    else { alpha := (unpackPix e.format raw (sx % 2 = 1)).1, col := (unpackPix e.format raw (sx % 2 = 1)).2
           mode := c.alpha, show_ := true }

/-- A source pixel of a video plane before filtering: premultiplied where alpha is straight (R141), opaque where the plane is (R135);
outside the surface it is transparent (R133), with the colour components that give black (DEDUCED, log entry 21). -/
def State.videoSrc (s : State) (c : PlaneCfg) (i x y : Nat) : Nat × Rgb :=
  let e := s.surf i
  if e.width ≤ x || e.height ≤ y then
    (0, if fmtYuv e.format then ((if c.csc % 2 = 0 then 256 else 0), 2048, 2048) else (0, 0, 0))
  else
    let q := unpackPix e.format (s.rawPix i x y) (x % 2 = 1)
    if c.alpha = 0 then (q.1, mul12 q.2.1 q.1, mul12 q.2.2.1 q.1, mul12 q.2.2.2 q.1)
    else if c.alpha = 2 then (4095, q.2) else q

/-- A video plane at a pixel of its destination rectangle (R139 to R142): filtered vertically, then horizontally. -/
def State.videoPix (s : State) (h p : Nat) (c : PlaneCfg) (i x y : Nat) : PixIn :=
  let dx := x - c.dst.x0
  let dy := y - c.dst.y0
  let xs := tapList 4 c.src.x0 c.src.width c.dst.width dx
  let ys := tapList 3 c.src.y0 c.src.height c.dst.height dy
  let hc := romCoef 4 (romRatio c.src.width c.dst.width) (tapStart 4 c.src.x0 c.src.width c.dst.width dx).2
  let vc := romCoef 3 (romRatio c.src.height c.dst.height) (tapStart 3 c.src.y0 c.src.height c.dst.height dy).2
  let e := s.surf i
  if xs.any fun px => ys.any fun py => px < e.width && py < e.height && s.pixBad h p i px py then { show_ := true, bad := true }
  else
    let cols := xs.map fun px =>
      let q := ys.map fun py => s.videoSrc c i px py
      (filtered vc (q.map (·.1)), filtered vc (q.map (·.2.1)), filtered vc (q.map (·.2.2.1)), filtered vc (q.map (·.2.2.2)))
    let a := filtered hc (cols.map (·.1))
    let v := (filtered hc (cols.map (·.2.1)), filtered hc (cols.map (·.2.2.1)), filtered hc (cols.map (·.2.2.2)))
    { alpha := a, col := (if fmtYuv e.format then toRgb c.csc v else v), mode := 1, show_ := true }

/-- Whether the planes of an instance are vacated on a head (R310, R312). -/
def State.planeVacated (s : State) (h p : Nat) : Bool :=
  match s.planeInst h p with
  | some i => (fget [] s.vacated h).contains i
  | none => false

/-- What plane `p` gives at pixel (x, y); nothing outside its destination or where it shows nothing. -/
def State.planePix (s : State) (h p x y : Nat) : PixIn :=
  let c := (s.plane h p).act
  if !c.shows || !c.dst.has x y then {}
  else match c.surf with
    | none => {}
    | some i => if isVideo p then s.videoPix h p c i x y else s.graphicPix h p c i x y

/-- Enabled planes 0 to 13 in stacking order (R132). -/
def State.stack (s : State) (h : Nat) : List Nat :=
  (List.range 15).flatMap fun z => (List.range 14).filter fun p => (s.plane h p).act.enable && (s.plane h p).act.z == z

/-- The flatten set (R147): the static planes below every non-static one. -/
def State.flatten (s : State) (h : Nat) : List Nat := (s.stack h).takeWhile fun p => (s.plane h p).act.static

/-- A composed colour and whether an error-coloured pixel fell in it. -/
abbrev Mix := Rgb × Bool

/-- A plane is blended over a composed colour. -/
def State.over (s : State) (h x y p : Nat) (m : Mix) : Mix :=
  let q := s.planePix h p x y
  if !q.show_ then m
  else if q.bad then (m.1, true)
  else (blend m.1 q.alpha q.col (widen (s.plane h p).act.galpha 8) q.mode, m.2)

/-- A colour register of the PLAZA page. -/
def State.bgColour (s : State) (h : Nat) : Nat := (s.rd (pageBase PG_PLAZA + 0x104 + 0x10 * h)).toNat
def State.errColour (s : State) (h : Nat) : Nat := (s.rd (pageBase PG_PLAZA + 0x108 + 0x10 * h)).toNat
def State.vacColour (s : State) (h : Nat) : Nat := (s.rd (pageBase PG_PLAZA + 0x10C + 0x10 * h)).toNat

/-- Layers 1 and 3 over the flatten set only: a tile's stored colour (R147). -/
def State.flatMix (s : State) (h x y : Nat) : Mix :=
  (s.flatten h).foldl (fun m p => if s.planeVacated h p then m else s.over h x y p m) (colour12 (s.bgColour h), false)

/-! Tiles (R147, R149). -/

/-- Tiles per row of a head, and the tile of a pixel in raster order. -/
def ModeRow.tilesX (m : ModeRow) : Nat := (m.ha + 63) / 64
def ModeRow.tilesY (m : ModeRow) : Nat := (m.va + 63) / 64
def tileAt (m : ModeRow) (x y : Nat) : Nat := y / 64 * m.tilesX + x / 64
def State.tile (s : State) (h i : Nat) : Option Tile := (s.tiles.find? fun p => p.1 == 8192 * h + i).map (·.2)
def State.setTile (h i : Nat) (x : Tile) (s : State) : State := { s with tiles := fset s.tiles (8192 * h + i) x }
/-- The pixels of a tile. -/
def tileRect (m : ModeRow) (i : Nat) : Rect :=
  { x0 := i % m.tilesX * 64, y0 := i / m.tilesX * 64, x1 := min m.ha (i % m.tilesX * 64 + 64), y1 := min m.va (i / m.tilesX * 64 + 64) }

/-- Byte address of a spill slot in DRAM: normal slots from 65536, secure ones from 131072 (R153, R155). -/
def State.spillAt (s : State) (slot : Nat) : Nat :=
  if 131072 ≤ slot then s.g64 PG_ARCADE R.ARC_S_BASE_LO_BASE R.ARC_S_BASE_HI_BASE / 2097152 * 2097152 + (slot - 131072) * 16384
  else s.g64 PG_ARCADE R.ARC_NS_BASE_LO_BASE R.ARC_NS_BASE_HI_BASE / 2097152 * 2097152 + (slot - 65536) * 16384

/-- The word a tile holds for a pixel: in SRAM, or in its spill slot in DRAM. -/
def State.tileWord (s : State) (t : Tile) (off : Nat) : Nat :=
  if t.slot < 65536 then fget 0 t.pix off else (s.wordAt (s.spillAt t.slot + 4 * off)).toNat

/-- The composed pixel of head `h` at (x, y) (R131). -/
def State.mixAt (s : State) (h x y : Nat) : Mix :=
  let m := s.headMode h
  let i := tileAt m x y
  let off := y % 64 * 64 + x % 64
  let flat := s.flatten h
  let served := match s.tile h i with | some t => t.valid | none => false
  let base : Mix :=
    if (fget [] s.tileBad (8192 * h + i)).contains off then ((0, 0, 0), true)
    else match s.tile h i with
      | some t => if t.valid then (colour12 (s.tileWord t off), false) else (colour12 (s.bgColour h), false)
      | none => (colour12 (s.bgColour h), false)
  let mid := (s.stack h).foldl (fun a p =>
    if (served && flat.contains p) || s.planeVacated h p then a else s.over h x y p a) base
  let vac := ((fget [] s.vacated h).any fun k => (fget [] s.vacRects (256 * h + k)).any fun r => r.has x y)
    || (fget [] s.closedWins h).any fun r => r.has x y
  let filled : Mix := if vac then (colour12 (s.vacColour h), mid.2) else mid
  if (s.plane h 15).act.enable then s.over h x y 15 filled else filled

/-- The identify pattern's colour at a pixel (R475). -/
def State.identify (s : State) (h x y : Nat) : Nat :=
  let m := s.headMode h
  let white := 0x3FFFFFFF
  if y < 3 * m.va / 4 then
    match x / (m.ha / 8) with
    | 0 => white
    | 1 => 0x3FFFFC00
    | 2 => 0x000FFFFF
    | 3 => 0x000FFC00
    | 4 => 0x3FF003FF
    | 5 => 0x3FF00000
    | 6 => 0x000003FF
    | _ => 0
  else
    let k := x / (m.ha / 16)
    if 16 ≤ k then 0
    else if k ≤ 9 then
      (if !s.tf PG_SYS R.SYS_STATE_ADDR_VALID then 0x3FF00000
       else if bit (s.gf PG_SYS R.SYS_STATE_CHAIN_ADDR) (9 - k) then white else 0)
    else if 11 ≤ k && k ≤ 13 then (if bit h (13 - k) then white else 0)
    else 0x20080200

/-- The pixel word that Plaza hands to the Age Guard, and whether it is error-coloured (R33, R159, R201 step 1). -/
def State.pixelOut (s : State) (h x y : Nat) : Nat × Bool :=
  let bpc := s.headBpc h
  let md := (s.head h).showMode
  if md = CONFIGURE then (directWord bpc (s.bgColour h), false)
  else if md = FALLBACK then (directWord bpc (s.identify h x y), false)
  else if md = RUNMODE || md = SERVICEMODE then
    let q := s.mixAt h x y
    if q.2 then (outWord bpc (colour12 (s.errColour h)), true) else (outWord bpc q.1, false)
  else (0, false)

end Sys2Proof.Machine
end

