-- ==== Sys2Proof/Machine/Arcade.lean ====
section
/-! DEFINITION. The Arcade (R147 to R156): slots, capture, invalidation; and the blocks that Plaza reads for a line (R143). -/

namespace Sys2Proof.Machine

open Sys2Proof

/-- A secure plane or surface: its fetches count in no performance counter (R350). -/
def State.planeSecure (s : State) (h p : Nat) : Bool :=
  p = 15 || (match (s.plane h p).act.surf with | some i => (s.surf i).secure | none => false) || s.secureOwned (pgAve h)

/-! Slots (R153, R327, R453, R456). -/

/-- The Arcade macro under macro isolation (R456). -/
def State.bistMacro (s : State) : Option Nat :=
  match s.bistRun with
  | some (p, m, k) => if p = PG_ARCADE && k = 0 then some m else none
  | none => none

/-- Whether an SRAM slot may take a tile of the secure or the normal side. -/
def State.sramSlotOk (s : State) (sec : Bool) (n : Nat) : Bool :=
  let m := n / 16
  decide (m < s.gf PG_WMARK R.WM_SRAM_LEVEL) == sec && !(fget ({} : Macro) s.macros m).bad && s.bistMacro != some m

/-- Spill slots of a side, in its region of 2 MiB units of 128 tiles. -/
def State.spillSlots (s : State) (sec : Bool) : List Nat :=
  (List.range ((if sec then s.gf PG_ARCADE R.ARC_S_SIZE_SIZE else s.gf PG_ARCADE R.ARC_NS_SIZE_SIZE) * 128)).map fun k =>
    k + (if sec then 131072 else 65536)

/-- The slot a new tile takes (R153): the lowest free one (DESIGN CHOICE, log entry 22). -/
def State.newSlot (s : State) (sec : Bool) : Option Nat :=
  let used := s.tiles.map (·.2.slot)
  match (List.range 1536).find? fun n => s.sramSlotOk sec n && !used.contains n with
  | some n => some n
  | none => (s.spillSlots sec).find? fun n => !used.contains n

/-- The flatten-set planes whose destination covers a rectangle. -/
def State.flatOver (s : State) (h : Nat) (r : Rect) : List Nat := (s.flatten h).filter fun p => (s.plane h p).act.dst.meets r

/-- Whether a tile goes to the secure side (R153). -/
def State.tileSecure (s : State) (h : Nat) (ps : List Nat) : Bool :=
  s.secureOwned (pgAve h) || ps.any fun p => match (s.plane h p).act.surf with | some i => (s.surf i).secure | none => false

/-! Capture (R148). -/

/-- Whether a tile may be captured in frame `n`. -/
def State.captureDue (s : State) (h n : Nat) (ps : List Nat) : Bool :=
  let k := s.gf PG_ARCADE R.ARC_CTRL_STATIC_FRAMES
  if ps.isEmpty then (s.head h).bgSince + k ≤ n else ps.all fun p => (s.plane h p).changed + k ≤ n

/-- The oldest content time among planes (R152); a plane to which no FLIP ever applied has none. -/
def State.oldestCt (s : State) (h : Nat) (ps : List Nat) : Option Nat :=
  ps.foldl (fun m p => if (s.plane h p).hasCt then
    (match m with | some c => some (min c (s.plane h p).ct) | none => some (s.plane h p).ct) else m) none

/-- One tile at the start of a possible capture frame; the number counts the tiles that found no slot. -/
def State.captureTile (h n i : Nat) (a : State × Nat) : State × Nat :=
  let s := a.1
  if (s.tile h i).isSome then a
  else
    let ps := s.flatOver h (tileRect (s.headMode h) i)
    if !s.captureDue h n ps then a
    else match s.newSlot (s.tileSecure h ps) with
      | some k => (s.setTile h i { slot := k, ct := s.oldestCt h ps, planes := ps }, a.2)
      | none => (s, a.2 + 1)

/-- The tiles of a head at the start of frame `n` (R148, R149, R153). -/
def State.captureFrame (h n : Nat) (s : State) : State :=
  if s.gf PG_ARCADE R.ARC_CTRL_STATIC_FRAMES = 0 || !bit (s.gf PG_ARCADE R.ARC_CTRL_HEAD_EN) h || !s.running then s
  else
    let m := s.headMode h
    let a := (List.range (m.tilesX * m.tilesY)).foldl (fun a i => State.captureTile h n i a) (s, 0)
    if a.2 = 0 then a.1 else a.1.raise PG_ARCADE 0 { d6 := h, d7 := a.2, frame := some n }

/-! Tiles become EMPTY (R149 to R151, R155, R156). -/

/-- Tiles of the head that satisfy `f` become EMPTY. -/
def State.dropTiles (h : Nat) (f : Nat → Tile → Bool) (s : State) : State :=
  let hit := fun (p : Nat × Tile) => p.1 / 8192 == h && f (p.1 % 8192) p.2
  let n := (s.tiles.filter hit).length
  if n = 0 then s
  else { s with tiles := s.tiles.filter fun p => !hit p }.setHead h fun x => { x with invalidated := x.invalidated + n }

/-- Tiles whose slot satisfies `f` become EMPTY, on every head (R155, R329, R456). -/
def State.dropSlots (f : Nat → Bool) (s : State) : State := forNat 8 (fun h s => s.dropTiles h fun _ t => f t.slot) s

/-- The end of a capture frame (R149): a tile whose every line is written without fault is VALID, else EMPTY. -/
def State.endCapture (h : Nat) (s : State) : State :=
  let m := s.headMode h
  let done := fun (i : Nat) (t : Tile) => !t.bad && t.rows.length = (tileRect m i).height
  let s := s.dropTiles h fun i t => !t.valid && !done i t
  let n := (s.tiles.filter fun p => p.1 / 8192 == h && !p.2.valid).length
  let s := { s with tiles := s.tiles.map fun (p : Nat × Tile) => if p.1 / 8192 == h then (p.1, { p.2 with valid := true }) else p }
  s.setHead h fun x => { x with captures := x.captures + n }

/-- Tiles under a rectangle become EMPTY (R150). -/
def State.dropUnder (h : Nat) (r : Rect) (s : State) : State := s.dropTiles h fun i _ => (tileRect (s.headMode h) i).meets r

/-- The tiles invalidated at a vertical blank (R150): the planes and flatten set before are `old`, `flat`; `flips` lists the planes
to which a FLIP applied.  A plane whose instance is vacated counts as out of the flatten set (DEDUCED, log entry 23). -/
def State.invalidate (h : Nat) (old : List PlaneCfg) (flat flips : List Nat) (s : State) : State :=
  let now := (s.flatten h).filter fun p => !s.planeVacated h p
  forNat 14 (fun p s =>
    let o := old.getD p {}
    let c := (s.plane h p).act
    if (flat.contains p || now.contains p) && (flips.contains p || o != c || flat.contains p != now.contains p) then
      (s.dropUnder h o.dst).dropUnder h c.dst
    else s) s

/-- Whether a slot holds the content of a secure tile (R153, R327). -/
def State.slotSecure (s : State) (slot : Nat) : Bool :=
  131072 ≤ slot || (slot < 65536 && decide (slot / 16 < s.gf PG_WMARK R.WM_SRAM_LEVEL))

/-- Tiles served in the frame that begins, from SRAM and from spill (ARC_STAT); secure ones are not counted as events (R350). -/
def State.countHits (h : Nat) (s : State) : State :=
  let mine := (s.tiles.filter fun p => p.1 / 8192 == h && p.2.valid).map fun p => p.2.slot
  let open_ := if s.secureOwned (pgAve h) then [] else mine.filter fun k => !s.slotSecure k
  let sram (l : List Nat) := (l.filter fun k => k < 65536).length
  ((s.setHead h fun x => { x with arcHits := sram mine, arcSpill := mine.length - sram mine }).perf 0x0A (sram open_) none false).perf 0x0B
    (open_.length - sram open_) none false

/-- The counts of the frame that ends show in ARC_STAT (page 38). -/
def State.arcStat (h n : Nat) (s : State) : State :=
  let x := s.head h
  let s := (s.sf PG_ARCADE (R.ARC_STAT0_SRAM_HITS h) x.arcHits).sf PG_ARCADE (R.ARC_STAT0_DRAM_HITS h) x.arcSpill
  let s := (s.sf PG_ARCADE (R.ARC_STAT1_CAPTURES h) x.captures).sf PG_ARCADE (R.ARC_STAT1_INVALIDATED h) x.invalidated
  (s.sf PG_ARCADE (R.ARC_STAT2_FRAME h) n).setHead h fun x => { x with arcHits := 0, arcSpill := 0, captures := 0, invalidated := 0 }

/-- A capturing tile takes the value of one pixel (R147). -/
def State.tilePut (h i off w : Nat) (s : State) : State :=
  match s.tile h i with
  | some t =>
    if t.valid then s
    else if t.slot < 65536 then s.setTile h i { t with pix := fset t.pix off w }
    else
      -- the normal spill region lies above the watermark, the secure one below it (R155, R325)
      let s := s.noteAccess none (131072 ≤ t.slot) none (s.spillAt t.slot + 4 * off) 4
      if t.slot < 131072 && decide (s.spillAt t.slot + 4 * off < s.wmDram) then s else s.dput (s.spillAt t.slot + 4 * off) (leBytes 4 w)
          { sec := 131072 ≤ t.slot }
  | none => s

/-- The slot and the line of a tile that a read error has emptied in this frame. -/
def State.lostTile (s : State) (h i : Nat) : Option (Nat × Nat) :=
  (s.tileLost.find? fun (p : Nat × Nat × Nat) => p.1 == 8192 * h + i).map Prod.snd

/-- The slot from which pixel `off` of a tile is read: the tile is VALID, or a read error of the same line has emptied it in this frame
(R156). -/
def State.tileSlot (s : State) (h i off : Nat) : Option Nat :=
  match s.tile h i with
  | some t => if t.valid then some t.slot else none
  | none => match s.lostTile h i with
    | some (slot, line) => if line = off / 64 then some slot else none
    | none => none

/-- The spill slot of a tile of which block `blk` is read. -/
def State.spillSlot (s : State) (h i blk : Nat) : Option Nat :=
  let slot := match s.tile h i with
    | some t => some t.slot
    | none => (s.lostTile h i).map Prod.fst
  slot.filter fun k => 65536 ≤ k && s.spillAt k ≤ blk * 128 && blk * 128 < s.spillAt k + 16384 &&
    s.tileSlot h i ((blk * 128 - s.spillAt k) / 4) == some k

/-- A tile read fails for good (R156): the pixels `offs` of the tile take PLZ_ERR in this frame, and the tile becomes EMPTY at once. -/
def State.tileError (h i : Nat) (offs : List Nat) (s : State) : State :=
  match s.tileSlot h i (offs.headD 0) with
  | some slot =>
    let s := { s with
      tileBad := fmod [] s.tileBad (8192 * h + i) fun l => offs.foldl nadd l
      tileLost := fset s.tileLost (8192 * h + i) (slot, offs.headD 0 / 64) }
    (s.dropTiles h fun j _ => j == i).raise PG_ARCADE 1 { d6 := h, d7 := i, frame := some (s.frameCount h) }
  | none => s

/-! Blocks read for a line (R143, PLZ_ACCT_PLANE). -/

/-- Source lines that a plane's taps use for output line `y` (R139). -/
def planeRows (p : Nat) (c : PlaneCfg) (y : Nat) : List Nat :=
  if isVideo p then (tapList 3 c.src.y0 c.src.height c.dst.height (y - c.dst.y0)).eraseDups else [c.src.y0 + (y - c.dst.y0)]

/-- Source columns that destination columns [xa, xb) read: first and one past the last. -/
def planeCols (p : Nat) (c : PlaneCfg) (xa xb : Nat) : Nat × Nat :=
  if isVideo p then
    let taps := fun x => tapList 4 c.src.x0 c.src.width c.dst.width (x - c.dst.x0)
    ((taps xa).foldl min c.src.x1, (taps (xb - 1)).foldl max 0 + 1)
  else (c.src.x0 + (xa - c.dst.x0), c.src.x0 + (xb - c.dst.x0))

/-- The destination segments of a plane on a line that are not served from the Arcade: one per tile column. -/
def State.liveSegs (s : State) (h p y : Nat) (c : PlaneCfg) : List (Nat × Nat) :=
  let m := s.headMode h
  let r := c.dst.inter m.area
  let flat := (s.flatten h).contains p
  (List.range m.tilesX).filterMap fun k =>
    let xa := max r.x0 (64 * k)
    let xb := min r.x1 (64 * k + 64)
    if xb ≤ xa || (flat && (match s.tile h (tileAt m xa y) with | some t => t.valid | none => false)) then none else some (xa, xb)

/-- The segments of line `y` for which source line `r` is fetched: a source line that the output line before used there, and fetched, is
not fetched again (R143). -/
def State.rowSegs (s : State) (h p y r : Nat) (c : PlaneCfg) : List (Nat × Nat) :=
  let again := c.dst.y0 < y && 0 < y && (planeRows p c (y - 1)).contains r
  let before := s.liveSegs h p (y - 1) c
  (s.liveSegs h p y c).filter fun g => !(again && before.contains g)

/-- 128-byte blocks that plane `p` reads for line `y`, each once. -/
def State.lineBlocks (s : State) (h p y : Nat) : Nat :=
  let c := (s.plane h p).act
  if !c.shows || s.planeVacated h p || !(c.dst.inter (s.headMode h).area).has (c.dst.inter (s.headMode h).area).x0 y then 0
  else match c.surf with
    | none => 0
    | some i =>
      let e := s.surf i
      ((planeRows p c y).filter fun r => r < e.height).foldl (fun n r =>
        ((s.rowSegs h p y r c).foldl (fun (a : Nat × Nat) g =>
          let cols := planeCols p c g.1 g.2
          let x1 := min cols.2 e.width
          if x1 ≤ cols.1 then a
          else
            let b1 := blockOf ((e.pixAt (x1 - 1) r).1 + (e.pixAt (x1 - 1) r).2 - 1) + 1
            let b0 := max a.2 (blockOf (e.pixAt cols.1 r).1)
            if b1 ≤ b0 then a else (a.1 + (b1 - b0), b1)) (n, 0)).1) 0

/-- Spill tiles that line `y` reads: two blocks for each line of a full tile (PLZ_ACCT_PLANE, plane 14). -/
def State.spillBlocks (s : State) (h y : Nat) (take : Nat → Bool) : Nat :=
  let m := s.headMode h
  (List.range m.tilesX).foldl (fun n k =>
    match s.tile h (tileAt m (64 * k) y) with
    | some t => if t.valid && 65536 ≤ t.slot && take t.slot then n + ((min 64 (m.ha - 64 * k)) * 4 + 127) / 128 else n
    | none => n) 0

/-- Urgent reads of a group: how long the longest took no rule says, and MAX_CYC takes a free value where that is longer than before (R362; log
entry 126). -/
def State.urgentRead (g : Nat) (s : State) : State :=
  let n := s.free.toNat % 65536
  let s := s.useFree
  s.sf (pgMem g) R.MEM_URGENT_MAX_CYC (max (s.gf (pgMem g) R.MEM_URGENT_MAX_CYC) n)

/-- The blocks read for a line, per plane, and of these the ones that no secure agent caused; reads of an urgent head also count as urgent
(R143, R193, R350). -/
def State.countBlocks (h y : Nat) (urgent : Bool) (s : State) : State :=
  let s := forNat 2 (fun g s => let s := s.readComes g; if urgent then s.urgentRead g else s) s
  forNat 16 (fun p s =>
    let n := if p = 14 then s.spillBlocks h y fun _ => true else s.lineBlocks h p y
    let k := if s.planeSecure h p then 0 else if p = 14 then s.spillBlocks h y fun k => k < 131072 else n
    let i := if p < 14 then s.planeInst h p else none
    let s := if n = 0 then s else s.setHead h fun x => { x with blocks := fmod 0 x.blocks p fun b => b + n }
    let s := if k = 0 then s else s.perf 0x09 k i false
    if k = 0 || !urgent then s else s.perf 0x08 k i false) s

/-! Dispatch of spans (R124, R125, R160). -/

def State.slcRole (s : State) (n : Nat) : Nat := s.gf (pgSlc n) R.SLC_ROLE_ROLE
/-- The number of a span: 256 output pixels of a line of a head (R125). -/
def spanKey (h y k : Nat) : Nat := (h * 8192 + y) * 32 + k

/-- When the output raster reaches line `y` of the frame that a head is sending, or in its vertical blank of the frame that follows: the
deadline of the line's job (R124, R168). -/
def State.lineAt (s : State) (h y : Nat) : Nat :=
  (s.head h).frameAt + linesNs (s.headMode h) ((if s.tf (pgAve h) R.AVE_STATUS_IN_VBLANK then (s.head h).lines else 0) + y)

/-- The span dispatched next: the earliest deadline, then the head, then from the left (R125). -/
def State.nextSpan (s : State) : Option Nat :=
  (s.spanQ.foldl (fun (b : Option (Nat × Nat)) k =>
    let t := s.lineAt (k / 262144) (k / 32 % 8192)
    match b with
    | some (t', _) => if t < t' then some (t, k) else b
    | none => some (t, k)) none).map (·.2)

/-- Whether a slice composes spans: its role is ACTIVE, or it finishes its last span, and its page is in RUN (R125, R160). -/
def State.composes (s : State) (n : Nat) : Bool := (s.slcRole n = 0 || s.slcLast.contains n) && s.pstate (pgSlc n) = pRUN

/-- Free slices take spans; which slice takes which span is open (R125). -/
def State.dispatch (s : State) : State :=
  forNat 5 (fun _ s =>
    match s.nextSpan with
    | some k =>
      if s.flight.length < ((List.range 5).filter s.composes).length then
        { s with flight := nadd s.flight k, spanQ := ndel s.spanQ k }
      else s
    | none => s) s

/-- The spans of a head that satisfy `f` are forgotten, wherever they are. -/
def State.dropSpans (f : Nat → Bool) (s : State) : State :=
  { s with
    spans := s.spans.filter fun c => !f c.1
    spanQ := s.spanQ.filter fun k => !f k
    flight := s.flight.filter fun k => !f k }.dispatch

end Sys2Proof.Machine
end

