-- ==== Sys2Proof/Machine/Age.lean ====
section
/-! DEFINITION. The Age Guard (chapter 06): content time, age, hatches, signatures and their states. -/

namespace Sys2Proof.Machine

open Sys2Proof

def State.region (s : State) (h r : Nat) : Region := fget {} s.regions (64 * h + r)
def State.setRegion (h r : Nat) (f : Region → Region) (s : State) : State := { s with regions := fmod {} s.regions (64 * h + r) f }

/-! Fields of a region's registers. -/
def State.rgnOn (s : State) (h r : Nat) : Bool := s.tf (pgAge h) (R.RGN_CTRL_ENABLE r)
def State.rgnRect (s : State) (h r : Nat) : Rect :=
  { x0 := s.gf (pgAge h) (R.RGN_TL_X0 r), y0 := s.gf (pgAge h) (R.RGN_TL_Y0 r),
    x1 := s.gf (pgAge h) (R.RGN_BR_X1 r), y1 := s.gf (pgAge h) (R.RGN_BR_Y1 r) }

/-- Whether the head is blanked (R215). -/
def State.blanked (s : State) (h : Nat) : Bool :=
  (List.range 64).any fun r => (s.region h r).armed && (s.region h r).blankHead

/-- A REGION_TRANSITION record (R218, R223); for kinds 0 and 1 with the subject of AGE_STALE and AGE_FRESH (DEDUCED, log
entry 24). -/
def State.rgnRec (h r kind d7 : Nat) (inst : Option Nat) (s : State) : State :=
  s.emit (pgAge h) 0x0D20
    { status := (if kind = 0 then STALE else if kind = 2 then RETRIED_OK else if kind = 3 then SIG_MISMATCH else OK)
      d6 := r + kind * 256, d7, inst, frame := some (s.frameCount h) }

/-- An event of the AGE page with the head's frame (R222). -/
def State.ageRaise (h b status r d7 : Nat) (inst : Option Nat) (s : State) : State :=
  s.raise (pgAge h) b { status, d6 := r, d7, inst, frame := some (s.frameCount h) }

/-- The signature of the region's last checked frame. -/
def State.rgnSig (s : State) (h r : Nat) : Nat := s.gf (pgAge h) (R.RGN_SIG_SIG r)

/-! Content time (R203, R204). -/

/-- Whether a plane is served from the Arcade at every tile it shares with a rectangle. -/
def State.allServed (s : State) (h p : Nat) (q : Rect) : Bool :=
  let m := s.headMode h
  let r := ((s.plane h p).act.dst.inter q).inter m.area
  (s.flatten h).contains p && (List.range (m.tilesX * m.tilesY)).all fun i =>
    !(tileRect m i).meets r || (match s.tile h i with | some t => t.valid | none => false)

/-- The values R203 takes the oldest of: content time, plane, owner. -/
def State.contents (s : State) (h r : Nat) : List (Nat × Nat × Option Nat) :=
  let q := s.rgnRect h r
  let mask := s.gf (pgAge h) (R.RGN_CTRL_PLANE_MASK r)
  let planes := (List.range 16).filterMap fun p =>
    let x := s.plane h p
    if p != 14 && bit mask p && x.act.enable && x.act.surf.isSome && x.hasCt && x.act.dst.meets q && !s.planeVacated h p &&
        !s.allServed h p q then
      some (x.ct, p, if p = 15 then none else s.planeInst h p)
    else none
  let tiles := s.tiles.filterMap fun t =>
    if t.1 / 8192 = h && t.2.valid && (tileRect (s.headMode h) (t.1 % 8192)).meets q && t.2.planes.any (fun p => bit mask p) then
      t.2.ct.map fun c => (c, 14, none)
    else none
  planes ++ tiles

/-- The oldest value, fixed for the frame at the vertical blank before it (R203). -/
def State.fixContent (h r : Nat) (s : State) : State :=
  let best := (s.contents h r).foldl (fun (b : Option (Nat × Nat × Option Nat)) c =>
    match b with
    | some o => if toInt 64 c.1 < toInt 64 o.1 then some c else b
    | none => some c) none
  s.setRegion h r fun x => match best with
    | some (c, p, i) => { x with ct := some c, plane := p, inst := i }
    | none => { x with ct := none, plane := 0, inst := none }

/-! Area (R200). -/

/-- OUT_OF_AREA of every region follows its definition and the mode; REGION_OUT_OF_AREA once each time (R200). -/
def State.checkArea (h : Nat) (s : State) : State :=
  forNat 64 (fun r s =>
    let out := s.rgnOn h r && !(s.rgnRect h r).inside (s.headMode h).area
    let old := (s.region h r).outOfArea
    if out = old then s
    else
      let s := s.setRegion h r fun x => { x with outOfArea := out }
      if out then s.ageRaise h 5 OK r (s.gf (pgAve h) R.AVE_MODE_ACTIVE_ID) none else s) s

/-! Signature states (R214). -/

/-- A SUSPECT region is cancelled. -/
def State.cancelSuspect (h r : Nat) (s : State) : State :=
  if (s.region h r).sig = 1 then (s.setRegion h r fun x => { x with sig := 0 }).rgnRec h r 6 (s.rgnSig h r) none else s

/-- The stale flag clears where AGE_EN or ENABLE is applied as 0 (R206). -/
def State.clearStale (h r : Nat) (s : State) : State :=
  let x := s.region h r
  if !x.stale then s
  else
    let s := s.setRegion h r fun x => { x with stale := false }
    (s.ageRaise h 1 OK r x.ageUs x.inst).rgnRec h r 1 x.ageUs x.inst

/-- What an AGE commit does to one region (R206, R214): `same` says that rectangle and PLANE_MASK have not changed. -/
def State.regionApplied (h r : Nat) (same : Bool) (s : State) : State :=
  let p := pgAge h
  let on := s.rgnOn h r
  let s := if !on || !s.tf p (R.RGN_CTRL_AGE_EN r) then s.clearStale h r else s
  if (s.region h r).sig = 3 then
    (if on then s else (s.setRegion h r fun x => { x with sig := 0 }).rgnRec h r 5 (s.rgnSig h r) none)
  else if !on || !s.tf p (R.RGN_CTRL_COMPARE_EN r) || !same then s.setRegion h r fun x => { x with sig := 0 }
  else s

/-- A soft reset of the AGE page (R221): latches end from the next frame start, with records of kind 5. -/
def State.ageSoftReset (h : Nat) (s : State) : State :=
  (forNat 64 (fun r s =>
    let s := if (s.region h r).sig = 3 then s.rgnRec h r 5 (s.rgnSig h r) none else s
    s.setRegion h r fun x =>
      { outOfArea := x.outOfArea, armed := x.armed, blankHead := x.blankHead, ct := x.ct, plane := x.plane, inst := x.inst }) s).setHead
    h fun x => { x with release := [] }

/-- Latches begin and end at a frame start (R214, R215).  Where several BLANK_HEAD regions arm at one frame start, HEAD_BLANKED names the
lowest (DESIGN CHOICE, log entry 148). -/
def State.ageLatches (h : Nat) (s : State) : State :=
  let was := s.blanked h
  let s := forEach ((s.head h).release) (fun r s =>
    if (s.region h r).sig = 3 then
      ((s.setRegion h r fun x => { x with sig := 0 }).ageRaise h 4 OK r (s.rgnSig h r) none).rgnRec h r 5 (s.rgnSig h r) none
    else s) s
  let s := (forNat 64 (fun r s =>
    let x := s.region h r
    if x.armed = (x.sig = 3 : Bool) then s else s.setRegion h r fun x => { x with armed := x.sig = 3 }) s).setHead h
      fun x => { x with release := [] }
  if was || !s.blanked h then s
  else match (List.range 64).find? fun r => (s.region h r).armed && (s.region h r).blankHead with
    | some r => s.ageRaise h 3 OK r 0 none
    | none => s

/-- A frame starts: which regions are checked in it (R200), with SUSPECT cancelled where a sent frame does not check (R214,
R217). -/
def State.ageFrame (h : Nat) (sent composed : Bool) (s : State) : State :=
  let s := s.ageLatches h
  let live := sent && composed && !s.blanked h
  forNat 64 (fun r s =>
    let on := live && s.rgnOn h r && (s.rgnRect h r).inside (s.headMode h).area && !(s.rgnRect h r).empty
    let s := if sent && !on then s.cancelSuspect h r else s
    let x := s.region h r
    if !on && !x.checked then s
    else s.setRegion h r fun x => { x with checked := on, subst := false, crc := 0xFFFFFFFF }) s

/-! A line at the output raster (R201). -/

/-- Age and staleness at the region's first line (R205 to R207, R210).  A region with AGE_EN at 0, or with no content value at all, has the
age 0 (DESIGN CHOICE, log entry 149). -/
def State.ageCheck (h r glass : Nat) (s : State) : State :=
  let p := pgAge h
  let x := s.region h r
  let en := s.tf p (R.RGN_CTRL_AGE_EN r)
  let age : Int := (match x.ct with | some c => toInt 64 (s.localTime (9 + h)) - toInt 64 c | none => 0)
  let ahead := x.ct.isSome && en && decide (age < -1000)
  let none_ := x.ct.isNone || ahead
  let us := if !en || none_ then 0 else min 4294967295 ((max 0 age).toNat / 1000)
  let stale := en && (none_ || decide (((s.gf p (R.RGN_MAX_AGE_MAX_AGE_US r) * 1000 : Nat) : Int) < age))
  let s := s.setRegion h r fun y => { y with
    stale, ageUs := us, glass, noContent := none_
    staleFrames := if stale then min 4294967295 (y.staleFrames + 1) else y.staleFrames }
  if stale = x.stale then s
  else if stale then (s.ageRaise h 0 STALE r us x.inst).rgnRec h r 0 us x.inst
  else (s.ageRaise h 1 OK r us x.inst).rgnRec h r 1 us x.inst

/-- A hatch colour at a pixel (R208), as sent (R209). -/
def State.hatch (s : State) (h a b x y : Nat) : Nat :=
  directWord (s.headBpc h) (s.rd (pageBase (pgAge h) + if (x + y) / 8 % 2 = 0 then a else b)).toNat

/-- Whether the frame being sent is composed in a mode in which the Age Guard works (R33, R200). -/
def State.composing (s : State) (h : Nat) : Bool :=
  !(s.head h).blackFrame && ((s.head h).showMode = RUNMODE || (s.head h).showMode = SERVICEMODE)

/-- The rectangles that show the alarm hatch and the stale hatch on a line (R201 steps 3 and 4).  A region that the frame does not check,
being out of the area, keeps the stale flag of its last checked frame (R206). -/
def State.alarmRects (s : State) (h y : Nat) : List Rect :=
  ((List.range 64).filter fun r => (s.region h r).armed && !(s.region h r).blankHead).map (s.rgnRect h) |>.filter fun q =>
    q.y0 ≤ y && y < q.y1
def State.staleRects (s : State) (h y : Nat) : List Rect :=
  if !s.composing h then []
  else ((List.range 64).filter fun r => s.rgnOn h r && (s.region h r).stale).map (s.rgnRect h) |>.filter fun q => q.y0 ≤ y && y < q.y1

/-- The pixel words of a line after the Age Guard (R201 steps 2 to 4).  The alarm hatch is laid over black frames and over the boot and
identify patterns too (DESIGN CHOICE, log entry 152). -/
def State.guardLine (s : State) (h y : Nat) (ws : List Nat) : List Nat :=
  if s.blanked h then ws.map fun _ => 0
  else
    let al := s.alarmRects h y
    let st := s.staleRects h y
    ws.zipIdx.map fun c =>
      if al.any (fun q => q.has c.2 y) then s.hatch h 0x4C 0x50 c.2 y
      else if st.any (fun q => q.has c.2 y) then s.hatch h 0x44 0x48 c.2 y
      else c.1

/-- A checked region takes the pixels of a line into its signature (R211). -/
def State.rgnLine (h y r : Nat) (ws : List Nat) (s : State) : State :=
  let q := s.rgnRect h r
  let row : Rect := { x0 := q.x0, y0 := y, x1 := q.x1, y1 := y + 1 }
  let sub := s.blanked h || (s.alarmRects h y ++ s.staleRects h y).any fun o => o.meets row
  let bs := ((ws.drop q.x0).take q.width).flatMap fun w => leBytes 4 w
  s.setRegion h r fun x => { x with crc := crcRun x.crc bs, subst := x.subst || sub }

/-- The comparison of a region once its last pixel has passed (R213, R214). -/
def State.rgnCompare (h r sig : Nat) (sub : Bool) (s : State) : State :=
  let p := pgAge h
  let st := (s.region h r).sig
  let cmp := s.tf p (R.RGN_CTRL_COMPARE_EN r) && !sub && st != 3
  let ok := cmp && (s.gf p (R.RGN_EXPECT_A_EXPECT r) = sig ||
    (s.tf p (R.RGN_CTRL_EXPECT_B_EN r) && s.gf p (R.RGN_EXPECT_B_EXPECT r) = sig))
  let s := s.setRegion h r fun x => { x with vMatch := ok }
  if !cmp then s.cancelSuspect h r
  else if st = 0 then (if ok then s else s.setRegion h r fun x => { x with sig := 1 })
  else if st = 1 then
    if ok then
      let s := s.setRegion h r fun x => { x with sig := 0, transient := min 65535 (x.transient + 1) }
      (s.rgnRec h r 2 sig none).transient p 0x0D02 { d6 := r, d7 := sig, frame := some (s.frameCount h) }
    else
      let act := s.gf p (R.RGN_CTRL_ACTION r)
      let s := s.setRegion h r fun x => { x with
        lasting := min 65535 (x.lasting + 1), sig := (if act = 0 then 2 else 3), blankHead := act = 2 }
      ((s.ageRaise h 2 SIG_MISMATCH r sig none).err p SIG_MISMATCH).rgnRec h r 3 sig none
  else if ok then ((s.setRegion h r fun x => { x with sig := 0 }).ageRaise h 4 OK r sig none).rgnRec h r 4 sig none
  else s

/-- The end of a region in a checked frame: RGN_SIG, the view, the comparison. -/
def State.rgnEnd (h r : Nat) (s : State) : State :=
  let x := s.region h r
  let sig := x.crc ^^^ 0xFFFFFFFF
  let n := s.frameCount h
  let s := (s.sf (pgAge h) (R.RGN_SIG_SIG r) sig).sf (pgAge h) (R.RGN_FRAME_FRAME r) n
  let s := s.setRegion h r fun x => { x with
    vFrame := n, vCt := x.ct.getD 0, vGlass := x.glass, vAge := x.ageUs, vSubst := x.subst, vSig := sig, vStale := x.stale
    vPlane := x.plane, vInst := x.inst }
  s.rgnCompare h r sig x.subst

/-- The Age Guard on one output line whose composed pixel words are `ws`; `glass` gives the glass time of a pixel of the line
(R201 to R214); a frame that is not sent leaves no line (R271). -/
def State.ageLine (h y : Nat) (glass : Nat → Nat) (ws : List Nat) (s : State) : State :=
  let first := (List.range 64).filter fun r => (s.region h r).checked && (s.rgnRect h r).y0 = y
  let s := forEach first (fun r s => s.ageCheck h r (glass (s.rgnRect h r).x0)) s
  let out := s.guardLine h y ws
  let cov := (List.range 64).filter fun r => (s.region h r).checked && (s.rgnRect h r).y0 ≤ y && y < (s.rgnRect h r).y1
  let s := forEach cov (fun r s => s.rgnLine h y r out) s
  let s := if (s.head h).sent then { s with lineOut := fset s.lineOut h out } else s
  forEach (cov.filter fun r => y + 1 = (s.rgnRect h r).y1) (fun r s => s.rgnEnd h r) s

end Sys2Proof.Machine
end

