-- ==== Sys2Proof/Machine/Heads.lean ====
section
/-! DEFINITION. Heads (chapter 05): states (R170), sync sources (R176 to R178), lock (R181, R182) and realignment (R184, R185). -/

namespace Sys2Proof.Machine

open Sys2Proof

/-- An event of an AVE page with the head's frame (R198). -/
def State.aveRaise (h b : Nat) (ev : Ev) (s : State) : State := s.raise (pgAve h) b { ev with frame := some (s.frameCount h) }

def State.locked (s : State) (h : Nat) : Bool := s.tf (pgAve h) R.AVE_STATUS_LOCKED
def State.source (s : State) (h : Nat) : Nat := s.gf (pgAve h) R.AVE_STATUS_SOURCE
def State.slipping (s : State) (h : Nat) : Bool := s.tf (pgAve h) R.AVE_STATUS_SLIPPING

/-! Presence of a source (R176).  Source 0 is GENLOCK_IN, 1 is CHAIN. -/

def State.sync (s : State) (h k : Nat) : Sync := fget {} s.syncs (2 * h + k)
def State.setSync (h k : Nat) (f : Sync → Sync) (s : State) : State := { s with syncs := fmod {} s.syncs (2 * h + k) f }
def presentFld (k : Nat) : Fld := if k = 0 then R.AVE_SYNC_STATUS_GL_PRESENT else R.AVE_SYNC_STATUS_CH_PRESENT
def halfFld (k : Nat) : Fld := if k = 0 then R.AVE_SYNC_STATUS_GL_HALF else R.AVE_SYNC_STATUS_CH_HALF
def ppmFld (k : Nat) : Fld := if k = 0 then R.AVE_SYNC_RATE_GL_PPM else R.AVE_SYNC_RATE_CH_PPM

/-- Whether an interval of `i` ns lies within `ppm` of `k` frame periods of a mode: k × H_TOTAL × V_TOTAL ÷ pixel clock, exactly. -/
def nearPeriod (m : ModeRow) (k ppm i : Nat) : Bool :=
  let n := k * (m.ht * m.vt) * 1000000
  let d := if i * m.khz ≤ n then n - i * m.khz else i * m.khz - n
  d * 1000000 ≤ ppm * n

/-- Deviation of an interval from the mode's period in ppm, saturating (AVE_SYNC_RATE); an interval above one and a half frame periods
is measured against two of them, as a half-rate source has it (DESIGN CHOICE, log entry 143). -/
def ppmOf (m : ModeRow) (i : Nat) : Int :=
  let n := m.ht * m.vt * 1000000
  let k := if 3 * n < 2 * (i * m.khz) then 2 else 1
  max (-32768) (min 32767 (((i * m.khz : Nat) : Int) * 1000000 / ((k * n : Nat) : Int) - 1000000))

/-- A source the head may use: FREE, or a present one not barred by LOCK_TIMEOUT (R178, R182). -/
def State.usableSrc (s : State) (h k : Nat) : Bool :=
  k = 2 || (s.tf (pgAve h) (presentFld k) && !(s.head h).barred.contains k)

/-- The source that AVE_SYNC.SRC selects now (R178). -/
def State.bestSource (s : State) (h : Nat) : Nat :=
  match s.gf (pgAve h) R.AVE_SYNC_SRC with
  | 0 => if s.usableSrc h 0 then 0 else if s.usableSrc h 1 then 1 else 2
  | 1 => if s.usableSrc h 0 then 0 else 2
  | 2 => if s.usableSrc h 1 then 1 else 2
  | _ => 2

/-! Lock. -/

/-- LOCK_LOST (R181). -/
def State.lockLost (h src reason : Nat) (s : State) : State :=
  ((s.sf (pgAve h) R.AVE_STATUS_LOCKED 0).bump (pgAve h) R.AVE_LOCK_STAT_LOCK_LOSSES 1).aveRaise h 3 { d6 := src, d7 := reason }

/-- A head in RUN realigns: SLIP or BLACK (R184, R185).  FREE gives no target. -/
def State.realign (h : Nat) (s : State) : State :=
  if s.headSt h != hRUN || s.source h = 2 then s
  else if s.tf (pgAve h) R.AVE_CTRL_REALIGN then s.setHead h fun x => { x with relockDue := true }
  else if s.slipping h then s
  else (s.sf (pgAve h) R.AVE_STATUS_SLIPPING 1).setHead h fun x => { x with slipDone := 0, slipFrames := 0, pulling := false }

/-- The lock starts again: the 2 s limit starts afresh (R182, R195), and LOCK_MS counts from here (DESIGN CHOICE, log entry 146). -/
def State.lockAfresh (h : Nat) (s : State) : State :=
  s.setHead h fun x => { x with enterAt := s.walltime, good := 0, bad := 0, keptLock := false }

/-- The head moves to another source (R178, R179, R181, R184, R195); `reason` serves where the source left is absent.  A move to FREE
ends a SLIP realignment without REALIGN_DONE: FREE gives no target (DESIGN CHOICE, log entry 145). -/
def State.setSource (h new reason : Nat) (s : State) : State :=
  let old := s.source h
  if new = old then s
  else
    let was := s.locked h
    let left := s.usableSrc h old
    let s := if was && !left then s.lockLost h old reason else s
    let s := (s.sf (pgAve h) R.AVE_STATUS_LOCKED 0).sf (pgAve h) R.AVE_STATUS_SOURCE new
    let s := s.aveRaise h 4 { d6 := old, d7 := new }
    let s := if was && left then s.lockLost h old 3 else s
    let s := s.setHead h fun x => { x with good := 0, bad := 0, wasLocked := false, settled := was && new = 2 }
    let st := s.headSt h
    let s := if st = hLOCKING || st = hRELOCK then s.lockAfresh h
      else if new = 2 then s.sf (pgAve h) R.AVE_STATUS_SLIPPING 0 else s.realign h
    s.wallSync h

/-- A source becomes present for a head (R176, R178).  A present source that changes between full and half rate keeps the expected
interval of its first qualification (DESIGN CHOICE, log entry 144). -/
def State.srcPresent (h k i : Nat) (half : Bool) (s : State) : State :=
  let s := s.sf (pgAve h) (halfFld k) (if half then 1 else 0)
  if s.tf (pgAve h) (presentFld k) then s.wallSync h
  else
    let s := (s.sf (pgAve h) (presentFld k) 1).setSync h k fun x => { x with expect := i, since := s.walltime }
    if s.gf (pgAve h) R.AVE_SYNC_SRC = k + 1 && s.headSt h != hIDLE then s.setSource h (s.bestSource h) 0 else s

/-- A source becomes absent for a head (R176, R181): reason 0 absent, 1 rate out of tolerance. -/
def State.srcAbsent (h k reason : Nat) (s : State) : State :=
  let s := (s.sf (pgAve h) (presentFld k) 0).sf (pgAve h) (halfFld k) 0
  let s := s.setHead h fun x => { x with barred := ndel x.barred k, wasLocked := x.wasLocked && s.source h != k }
  if s.source h = k && s.headSt h != hIDLE then s.setSource h (s.bestSource h) reason else s

/-- The four last intervals are judged against the head's mode (R176). -/
def State.judge (h k : Nat) (s : State) : State :=
  let m := s.headMode h
  let ivs := (s.sync h k).ivs
  if ivs.length < 4 then s
  else if ivs.all (nearPeriod m 1 1000) then s.srcPresent h k (ivs.headD 0) false
  else if ivs.all (nearPeriod m 2 1000) then s.srcPresent h k (ivs.headD 0) true
  else if s.tf (pgAve h) (presentFld k) && ivs.all (fun i => !nearPeriod m 1 1500 i && !nearPeriod m 2 1500 i) then s.srcAbsent h k 1
  else s

/-- An active edge of a source at `e` (R176). -/
def State.syncEdge (h k e : Nat) (s : State) : State :=
  let x := s.sync h k
  let s := s.setSync h k fun y => { y with last := some e, ivs := (match x.last with
    | some l => ((e - l) :: y.ivs).take 4
    | none => y.ivs) }
  match x.last with
  | some l => (s.sf (pgAve h) (ppmFld k) (ofInt 16 (ppmOf (s.headMode h) (e - l)))).judge h k
  | none => s

/-- The head's mode has changed: presence is established afresh (R176).  The last four intervals may qualify against the new
period at once, as the worked example of R190 has it (DEDUCED, log entry 25). -/
def State.presenceAfresh (h : Nat) (s : State) : State :=
  forNat 2 (fun k s =>
    let m := s.headMode h
    let ivs := (s.sync h k).ivs
    if ivs.length = 4 && (ivs.all (nearPeriod m 1 1000) || ivs.all (nearPeriod m 2 1000)) then s.judge h k
    else if s.tf (pgAve h) (presentFld k) then s.srcAbsent h k 0 else s) s

/-- A change of AVE_SYNC.SRC applies (R178, R181). -/
def State.srcApplied (h : Nat) (s : State) : State := if s.headSt h = hIDLE then s else s.setSource h (s.bestSource h) 3

/-! Head states (R170). -/

/-- HEAD_STATE changes; STATE_CHANGED marks a head-state change (R170). -/
def State.headTo (h new : Nat) (s : State) : State :=
  let old := s.headSt h
  if new = old then s
  else ((s.sf (pgAve h) R.AVE_STATUS_HEAD_STATE new).aveRaise h 29 { d6 := old + 0x80000000, d7 := new }).wallSync h

/-- Key of a register of page `p`. -/
def regKey (p off : Nat) : Nat := pageBase p + off

/-- The shadow value of a register (R57): as the active value where nothing is staged. -/
def State.shadowOf (s : State) (k : Nat) : Word := fget (s.rd k) s.shadow k

/-- What SET_REGION_AGE wrote is taken back where its command is cancelled (R121). -/
def State.dropRegionAges (h : Nat) (s : State) : State :=
  forEach (s.headCmds h [0x50]) (fun id s =>
    let k := regKey (pgAge h) (R.RGN_MAX_AGE_MAX_AGE_US ((fget ({} : Cmd) s.cmds id).surf)).off
    { s with shadow := fdel s.shadow k }) s

/-- The plane commands and waits of a head end as R121 gives. -/
def State.endHead (h code : Nat) (s : State) : State := (((s.dropRegionAges h).cancelHead h).endWaits h code)

/-! Substitution of slices (R160, R161). -/

/-- A SPARE slice in RUN (R161); of several the lowest (DESIGN CHOICE, log entry 141). -/
def State.spareSlice (s : State) : Option Nat := (List.range 5).find? fun n => s.slcRole n = 1 && s.pstate (pgSlc n) = pRUN

/-- PENDING of PLZ_SUBST shows whether a substitution waits. -/
def State.substShow (s : State) : State := s.sf PG_PLAZA R.PLZ_SUBST_PENDING (if s.slcSubst.isEmpty then 0 else 1)

/-- A substitution comes to apply (R161): `asked` writes RESULT.  The slice replaced may still finish a span in flight (R160). -/
def State.substOne (x : Nat × Bool) (s : State) : State :=
  match s.spareSlice with
  | none => if x.2 then (s.sf PG_PLAZA R.PLZ_SUBST_RESULT NO_RESOURCE).err PG_PLAZA NO_RESOURCE else s
  | some n =>
    let s := if s.slcRole x.1 = 0 then
        { s.sf (pgSlc x.1) R.SLC_ROLE_ROLE 2 with slcLast := if s.flight.isEmpty then s.slcLast else nadd s.slcLast x.1 } else s
    let s := s.sf (pgSlc n) R.SLC_ROLE_ROLE 0
    let s := if x.2 then s.sf PG_PLAZA R.PLZ_SUBST_RESULT OK else s
    s.raise PG_PLAZA 2 { d6 := x.1, d7 := n }

/-- Every substitution that waits applies (R161). -/
def State.substApply (s : State) : State :=
  let l := s.slcSubst
  if l.isEmpty then s else ((forEach l State.substOne { s with slcSubst := [] }).substShow).checkCapacityLow.dispatch

/-- With every head IDLE a substitution applies at once (R161). -/
def State.substIdle (s : State) : State := if (List.range 8).all fun h => s.headSt h = hIDLE then s.substApply else s

/-- A substitution waits for a vertical blank, where a head has one (R161). -/
def State.substWait (n : Nat) (asked : Bool) (s : State) : State :=
  { s with slcSubst := s.slcSubst ++ [(n, asked)] }.substShow.substIdle

/-- The head enters IDLE (R170). -/
def State.goIdle (h : Nat) (s : State) : State :=
  if s.headSt h = hIDLE then s
  else
    let p := pgAve h
    let s := (((s.sf p R.AVE_STATUS_LOCKED 0).sf p R.AVE_STATUS_SLIPPING 0).sf p R.AVE_STATUS_IN_VBLANK 0)
    let s := s.setHead h fun x => { x with
      sending := false, black := 0, good := 0, bad := 0, relockDue := false, goRun := false, wasLocked := false, settled := false
      blackFrame := true, modeChanged := false, keptLock := false, commits := 0 }
    let s := s.dropSpans fun k => k / 262144 == h
    ((((s.readsLeave h).headTo h hIDLE).endHead h WRONG_STATE).linkStop h).substIdle

/-- The head enters LOCKING (R170, R178, R179): from IDLE the link starts; from SERVICE with lock held throughout, lock is declared
at the next aligned frame start. -/
def State.goLocking (h : Nat) (s : State) : State :=
  let kept := (s.head h).wasLocked && s.headSt h = hSERVICE
  let fromIdle := s.headSt h = hIDLE
  let s := (s.headTo h hLOCKING).sf (pgAve h) R.AVE_STATUS_LOCKED 0
  let best := s.bestSource h
  let kept := kept && best = s.source h
  let s := s.setSource h best 0
  let s := if best = 2 then s.sf (pgAve h) R.AVE_PLL_OFFSET 0 else s
  let s := s.setHead h fun x => { x with
    enterAt := s.walltime, good := 0, bad := 0, black := 0, settled := false, wasLocked := false, goRun := false, keptLock := kept }
  if fromIdle then s.linkStart h else s

/-- The head enters SERVICE (R170, R121): black from the next vertical blank, or at once where no frame is being sent. -/
def State.goService (h : Nat) (s : State) : State :=
  let keep := s.locked h && !s.inService (pgAve h)
  let s := s.setHead h fun x => { x with
    wasLocked := keep, goRun := false, relockDue := false, sending := x.sending && !s.inService (pgAve h)
    blackFrame := x.blackFrame || !x.sending }
  ((if (s.head h).sending then s else s.readsLeave h).headTo h hSERVICE).endHead h IN_SERVICE

/-- The head's state follows its pages, HEAD_EN and the device mode (R170). -/
def State.headEval (h : Nat) (s : State) : State :=
  let a := s.pstate (pgAve h)
  let st := s.headSt h
  let busy := s.inService (pgAve h) || s.inService (pgDpl h)
  if a = pOFF || a = pFAULT then s.goIdle h
  else if busy then
    (if st != hSERVICE && st != hHANDOVER then s.goService h
     else if st = hSERVICE && s.inService (pgAve h) then (s.setHead h fun x => { x with wasLocked := false, sending := false }).readsLeave h else s)
  else if st = hHANDOVER then s
  else if !s.tf (pgAve h) R.AVE_CTRL_HEAD_EN || s.mode = ENUMERATE then (if st = hSERVICE then s.goLocking h else s).goIdle h
  else if st = hSERVICE || (st = hIDLE && a = pRUN) then s.goLocking h
  else s

/-- RELOCK is entered, or starts again in the newest timing (R170, R185, R190, R191): the black count starts again and the link
retrains. -/
def State.goRelock (h : Nat) (s : State) : State :=
  let s := ((s.headTo h hRELOCK).sf (pgAve h) R.AVE_STATUS_LOCKED 0).sf (pgAve h) R.AVE_STATUS_SLIPPING 0
  let s := s.setHead h fun x => { x with
    enterAt := s.walltime, good := 0, bad := 0, black := 0, relockDue := false, goRun := false, settled := false, blackFrame := true
    keptLock := false }
  (s.setSource h (s.bestSource h) 0).retrain h 3

/-- The mode or depth changes: the timing sent takes the new mode, presence is established afresh (R176, R190); also where only the
depth changes (DESIGN CHOICE, log entry 138). -/
def State.takeMode (h : Nat) (s : State) : State :=
  ((s.rePeriod (9 + h) fun s => s.sf (pgAve h) R.AVE_MODE_ACTIVE_ID (s.gf (pgAve h) R.AVE_MODE_MODE_ID)).presenceAfresh h).checkArea h

/-- The link condition of R170 for leaving LOCKING and RELOCK (R270). -/
def State.linkReady (s : State) (h : Nat) : Bool := s.linkSt h = lUP || s.linkSt h = lNO_SINK || s.linkSt h = lFAILED

/-- Lock is declared (R181). -/
def State.declareLock (h : Nat) (s : State) : State :=
  let ms := min 65535 ((s.walltime - (s.head h).enterAt) / 1000000)
  let s := (s.sf (pgAve h) R.AVE_STATUS_LOCKED 1).sf (pgAve h) R.AVE_LOCK_STAT_LOCK_MS ms
  (s.aveRaise h 2 { d6 := s.source h, d7 := ms }).wallSync h

/-- LOCKING ends in RUN once lock is declared or FREE has settled (R170), outside the vertical blank.  The
frame being sent stays black. -/
def State.lockDone (h : Nat) (s : State) : State :=
  if s.headSt h = hLOCKING && !s.tf (pgAve h) R.AVE_STATUS_IN_VBLANK && (s.locked h || (s.source h = 2 && (s.head h).settled)) then
    (s.setHead h fun x => { x with blackFrame := true }).headTo h hRUN
  else s

/-- The frame period of the source in use, in ns: its last interval, or half of it with a half-rate source; the mode's before there is
one. -/
def State.srcFrame (s : State) (h : Nat) : Nat :=
  let i := (s.sync h (s.source h)).ivs.headD 0
  if i = 0 then frameNs (s.headMode h) else if s.tf (pgAve h) (halfFld (s.source h)) then i / 2 else i

/-- The offsets of R180 in ns. -/
def State.syncOfs (s : State) (h : Nat) : Nat :=
  let m := s.headMode h
  linesNs m (s.gf (pgAve h) R.AVE_SYNC_OFS_LINE_OFS) + s.gf (pgAve h) R.AVE_SYNC_OFS_PIXEL_OFS * 1000000 / m.khz

/-- The delay from a frame start at `t` to its target: the last active edge plus the offsets, modulo the frame period, in
ns (R180, R184). -/
def State.slipDelta (s : State) (h t : Nat) : Nat :=
  let f := s.srcFrame h
  if s.source h = 2 then 0
  else match (s.sync h (s.source h)).last with
  | some e => (e + s.syncOfs h + f * ((t + f) / f) - t) % f
  | none => 0

/-- The phase error of a frame start in ns, as a signed number, where the frame start is aligned: a half-rate source aligns every second
frame start (R180, R181).  The targets are the edges of the source, at its own interval, plus the offsets. -/
def State.phaseErr (s : State) (h t : Nat) : Option Int :=
  let f := s.srcFrame h
  let half := s.tf (pgAve h) (halfFld (s.source h))
  let per := if half then 2 * f else f
  if s.source h = 2 || f = 0 then none
  else match (s.sync h (s.source h)).last with
  | none => none
  | some e =>
    let d : Int := ((t : Int) - ((e + s.syncOfs h : Nat) : Int)) % ((per : Nat) : Int)
    let d := if ((per : Nat) : Int) < 2 * d then d - per else d
    if half && (((f : Nat) : Int) < 2 * d || 2 * d < -((f : Nat) : Int)) then none else some d

/-- The phase error drives lock at an aligned frame start (R181); where lock was held through SERVICE it is declared at once (R170).
AVE_SYNC_STATUS shows the error in whole pixel periods, to the nearest (DESIGN CHOICE, log entry 147). -/
def State.lockStep (h t : Nat) (s : State) : State :=
  if s.source h = 2 then s
  else match s.phaseErr h t with
  | none => s
  | some d =>
    let khz := (s.headMode h).khz
    let px : Int := (2 * d * ((khz : Nat) : Int) + 1000000) / 2000000
    let a := d.natAbs * khz
    -- the offset that the loop gives the PLL is not stated beyond its pull range
    let pull := ofInt 32 (((s.free.toNat % 240001 : Nat) : Int) - 120000)
    let s := (s.useFree.sf (pgAve h) R.AVE_PLL_OFFSET pull).sf (pgAve h) R.AVE_SYNC_STATUS_PHASE_ERR (ofInt 16 (max (-32767) (min 32767 px)))
    let s := s.setHead h fun x => { x with
      good := if a ≤ 4000000 then x.good + 1 else 0
      bad := if 64000000 < a then x.bad + 1 else 0 }
    if !s.locked h && (16 ≤ (s.head h).good || (s.head h).keptLock) then (s.setHead h fun x => { x with keptLock := false }).declareLock h
    else if s.locked h && 4 ≤ (s.head h).bad then
      ((s.lockLost h (s.source h) 2).wallSync h |>.setHead h fun x => { x with good := 0, bad := 0 }).realign h
    else s

end Sys2Proof.Machine
end

