-- ==== Sys2Proof/Machine/Touch.lean ====
section
/-! DEFINITION. Capacitive keys, sliders and wheels (chapter 13): electrodes, objects, baselines, reports and their owners. -/

namespace Sys2Proof.Machine

open Sys2Proof

/-! Owners of the blocks that share a page (R423, R447). -/

/-- The instance, ACTIVE or SUSPENDED, in whose entry bit `b` of word 7 routes a block of the normal world (R423, R300). -/
def State.routedTo (s : State) (b : Nat) : Option Nat :=
  s.openInsts.find? fun i => s.ent i 7 b 1 = 1 && (s.instState i = iACTIVE || s.instState i = iSUSPENDED)

/-- World and instance of electrode group `g` (R423). -/
def State.grpOwner (s : State) (g : Nat) : Bool × Option Nat :=
  if s.tf PG_TCH (R.TCH_GRP_OWN_WORLD g) then (true, none) else (false, s.routedTo g)

/-- An occurrence about a block of world `own.1` and instance `own.2` (R423): of a secure block it sets no bit, and its record
goes to the secure journal whatever EVT_ENABLE holds. -/
def State.blkRaise (p b : Nat) (own : Bool × Option Nat) (ev : Ev) (s : State) : State :=
  if own.1 then s.emit p (evCode p b) { ev with world := some true }
  else s.raise p b { ev with world := some false, inst := own.2 }

/-! Objects (R407). -/

def State.objType (s : State) (o : Nat) : Nat := s.gf PG_TCH (R.OBJ_CFG_TYPE o)
def State.objTx (s : State) (o : Nat) : Nat := s.gf PG_TCH (R.OBJ_CFG_TX o)
/-- Segments of an object: a key is one node. -/
def State.objSegs (s : State) (o : Nat) : Nat := if s.objType o = 1 then 1 else s.gf PG_TCH (R.OBJ_CFG_SEGS o) + 1
/-- RX electrode of segment `i`. -/
def objRxFld (o i : Nat) : Fld := ⟨0x104 + 0x10 * o + 4 * (i / 4), 8 * (i % 4), 5⟩
def State.objRx (s : State) (o i : Nat) : Nat := s.gf PG_TCH (objRxFld o i)
def State.objRxs (s : State) (o : Nat) : List Nat := (List.range (s.objSegs o)).map fun i => s.objRx o i
/-- The electrodes an object uses, and the keys of its self and mutual baselines. -/
def State.objElecs (s : State) (o : Nat) : List Nat := s.objTx o :: s.objRxs o
def nodeKey (tx rx : Nat) : Nat := 1024 + 32 * tx + rx
def State.objNodes (s : State) (o : Nat) : List Nat := (s.objRxs o).map fun r => nodeKey (s.objTx o) r
def State.objBases (s : State) (o : Nat) : List Nat := s.objElecs o ++ s.objNodes o
/-- The enabled objects. -/
def State.objsOn (s : State) : List Nat := (List.range 40).filter fun o => s.objType o != 0
/-- A shadow field of the page, by the value a commit would apply. -/
def State.shadowWord (s : State) (p off : Nat) : Word := fget (s.rd (pageBase p + off)) s.shadow (pageBase p + off)
def State.sgf (s : State) (p : Nat) (f : Fld) : Nat := bits (s.shadowWord p f.off) f.lo f.len
/-- Whether an object's fields are a group's: an RX electrode that its staged fields name, or that it uses now, lies in the group
(R341). -/
def State.objInGroup (s : State) (g o : Nat) : Bool :=
  let segs := if s.sgf PG_TCH (R.OBJ_CFG_TYPE o) = 1 then 1 else s.sgf PG_TCH (R.OBJ_CFG_SEGS o) + 1
  ((List.range segs).any fun i => s.sgf PG_TCH (objRxFld o i) / 4 == g) ||
    (s.objType o != 0 && (s.objRxs o).any fun r => r / 4 == g)

/-- Object states (OBJ_STATE). -/
abbrev oOFF : Nat := 0
abbrev oRELEASED : Nat := 1
abbrev oTOUCHED : Nat := 2
abbrev oWATER : Nat := 3
abbrev oFAULTED : Nat := 4
abbrev oSPLIT : Nat := 5
def State.objSt (s : State) (o : Nat) : Nat := s.gf PG_TCH (R.OBJ_STATE_STATE o)
def State.setObj (o : Nat) (f : TchObj → TchObj) (s : State) : State := { s with tchObj := fmod {} s.tchObj o f }
/-- An object changes state: its counts restart (R415). -/
def State.objTo (o st : Nat) (s : State) : State :=
  let s := s.setObj o fun _ => { since := s.walltime, start := 99 }
  let s := if st = oTOUCHED then s else s.sf PG_TCH (R.OBJ_STATE_AT_START o) 0
  s.sf PG_TCH (R.OBJ_STATE_STATE o) st

/-- Owner of an object: that of the group that holds its RX electrodes (R423). -/
def State.objOwner (s : State) (o : Nat) : Bool × Option Nat := s.grpOwner (s.objRx o 0 / 4)
/-- Whether an object's RX electrodes lie in groups of different owners (R424). -/
def State.objSplit (s : State) (o : Nat) : Bool :=
  (s.objRxs o).any fun r => s.grpOwner (r / 4) != s.objOwner o
/-- Whether an electrode of the object is faulted (R421). -/
def State.objFault (s : State) (o : Nat) : Bool :=
  (s.objElecs o).any fun e => bit (s.gf PG_TCH R.TCH_OPEN_MAP_MAP) e || bit (s.gf PG_TCH R.TCH_SHORT_MAP_MAP) e

/-! Measurements and baselines. -/

def State.base (s : State) (k : Nat) : Base := fget {} s.tchBase k
def State.setBase (k : Nat) (f : Base → Base) (s : State) : State := { s with tchBase := fmod {} s.tchBase k f }
/-- Signed delta of a measurement, saturating (R410). -/
def Base.delta (b : Base) (mut2 : Bool) : Int :=
  max (-32767) (min 32767 (if mut2 then (b.val : Int) - b.raw else (b.raw : Int) - b.val))
def State.deltaOf (s : State) (k : Nat) : Int := (s.base k).delta (1024 ≤ k)
/-- Whether any baseline of an object is provisional (R420). -/
def State.objProv (s : State) (o : Nat) : Bool := (s.objBases o).any fun k => (s.base k).prov
def State.noiseMode (s : State) : Bool := s.tf PG_TCH R.TCH_STATUS_NOISE_MODE
/-- Threshold factor in sixteenths (R412). -/
def State.thrGain (s : State) : Nat := if s.noiseMode then s.gf PG_TCH R.TCH_CTRL_NOISE_GAIN else 16
/-- Whether delta `d` reaches `num / 4` of a threshold. -/
def State.reachesThr (s : State) (d : Int) (thr num : Nat) : Bool := d * 64 ≥ ((thr * s.thrGain * num : Nat) : Int)
def State.selfThr (s : State) (o : Nat) : Nat := s.gf PG_TCH (R.OBJ_THR_SELF_THR o)
def State.mutThr (s : State) (o : Nat) : Nat := s.gf PG_TCH (R.OBJ_THR_MUT_THR o)
/-- Mutual delta of segment `i`. -/
def State.segDelta (s : State) (o i : Nat) : Int := s.deltaOf (nodeKey (s.objTx o) (s.objRx o i))
/-- The peak segment: the largest mutual delta, the lower segment of equals (R413). -/
def State.peakSeg (s : State) (o : Nat) : Nat :=
  (List.range (s.objSegs o)).foldl (fun b i => if s.segDelta o b < s.segDelta o i then i else b) 0
def State.peakSelf (s : State) (o : Nat) : Int := s.deltaOf (s.objRx o (s.peakSeg o))
/-- Agreement and water (R414). -/
def State.agrees (s : State) (o : Nat) : Bool :=
  s.reachesThr (s.peakSelf o) (s.selfThr o) 4 && s.reachesThr (s.segDelta o (s.peakSeg o)) (s.mutThr o) 4
def State.watery (s : State) (o : Nat) : Bool :=
  s.reachesThr (s.peakSelf o) (s.selfThr o) 4 && !s.reachesThr (s.segDelta o (s.peakSeg o)) (s.mutThr o) 4

/-- The nearest integer to `n / d`, half away from zero, for numbers that are not negative. -/
def posRound (n d : Nat) : Nat := if d = 0 then 0 else (2 * n + d) / (2 * d)

/-- The position of a slider or wheel (R416): c is kept as the fraction `num / den`.  Where the three deltas sum to 0 the formula divides by 0:
the position is a free value in its range (log entry 161). -/
def State.objPos (s : State) (o : Nat) : Nat :=
  let n := s.objSegs o
  let wheel := s.objType o = 3
  let d := fun (i : Nat) => (s.segDelta o i).toNat
  let k := s.peakSeg o
  let lo := if k = 0 then (if wheel then d (n - 1) else 0) else d (k - 1)
  let hi := if k + 1 = n then (if wheel then d 0 else 0) else d (k + 1)
  let den := lo + d k + hi
  if s.objType o = 1 then 0
  else if den = 0 then s.free.toNat % (if wheel then 1440 else 1024)
  else
    let c : Int := (k * den : Nat) + (hi : Int) - lo
    if wheel then
      let r : Int := if c < 0 then -(posRound ((-c).toNat * 1440) (n * den) : Int) else (posRound (c.toNat * 1440) (n * den) : Int)
      (r % 1440).toNat
    else
      let c := min c.toNat ((n - 1) * den)
      posRound (c * 1023) ((n - 1) * den)

/-! Reports (R422 to R425). -/

/-- A record made earlier goes where R78 and R423 send it. -/
def State.deliver (world : Bool) (inst : Option Nat) (rec : List Word) (s : State) : State :=
  let s := s.jrnPut PG_JRN_S rec
  if world then s
  else
    let s := s.jrnPut PG_JRN_N rec
    match inst with
    | some i => s.toRing i rec
    | none => s

/-- A TOUCH_REPORT (R422): while the die-to-die link is down it waits, up to 64, the oldest dropped (R19, R425). -/
def State.report (o kind flags pos : Nat) (strength : Int) (s : State) : State :=
  let own := s.objOwner o
  let ev : Ev := {
    d6 := o + s.objType o * 256 + kind * 4096 + flags + (if s.objProv o then 0x20000 else 0) + (if s.noiseMode then 0x40000 else 0)
    d7 := pos + strength.toNat * 65536, world := some own.1, inst := if own.1 then none else own.2 }
  if s.d2dDownAt.isNone then s.emit PG_TCH 0x1620 ev
  else
    let r := s.record PG_TCH 0x1620 ev
    let s := s.stampSeq PG_TCH
    if 64 ≤ s.compQ.length then
      ({ s with
        compQ := s.compQ.drop 1 ++ [(r, own.1, ev.inst, o)]
        tch := { s.tch with dropped := s.tch.dropped + 1 } }).bump PG_TCH R.TCH_STAT_DROPPED 1
    else { s with compQ := s.compQ ++ [(r, own.1, ev.inst, o)] }

/-- The reports that waited are written once the link is up, and their losses (R425). -/
def State.reportsOut (s : State) : State :=
  let n := s.tch.dropped
  let s := forEach s.compQ (fun x s => s.deliver x.2.1 x.2.2.1 x.1) { s with compQ := [], tch := { s.tch with dropped := 0 } }
  if n = 0 then s else s.raise PG_TCH 8 { d6 := n }

/-- Strength: the mutual delta of the peak node (R422). -/
def State.strength (s : State) (o : Nat) : Int := s.segDelta o (s.peakSeg o)

/-- Provisional baselines of an object that is released from TOUCHED stop being provisional (R420). -/
def State.unProv (o : Nat) (s : State) : State :=
  forEach (s.objBases o) (fun k s => if fhas s.tchBase k then s.setBase k fun b => { b with prov := false } else s) s

/-- A TOUCHED object leaves TOUCHED for `st` with a release report (R415); 0x80000 HOLD, 0x100000 FAULT, 0x200000 STOP. -/
def State.objRelease (o st flags : Nat) (s : State) : State :=
  ((s.report o 1 flags (s.gf PG_TCH (R.OBJ_STATE_POS o)) (s.strength o)).unProv o).objTo o st

/-- An object is released with STOP if it is TOUCHED, and restarts in `st` (R427, R428). -/
def State.objStop (o st : Nat) (s : State) : State :=
  if s.objSt o = oTOUCHED then s.objRelease o st 0x200000 else s.objTo o st

/-- The baselines of an object's electrodes and nodes take their raw counts (R415). -/
def State.objRebase (o : Nat) (s : State) : State :=
  forEach (s.objBases o) (fun k s => s.setBase k fun b => { b with val := b.raw, neg := 0 }) s

/-! The decision of one object at the end of a cycle (R415). -/

/-- Press: the report, its position, and TOUCHED. -/
def State.objPress (o : Nat) (atStart : Bool) (s : State) : State :=
  let pos := s.objPos o
  let s := s.useFree.sf PG_TCH (R.OBJ_STATE_POS o) pos
  let s := s.report o 0 (if atStart then 0x10000 else 0) pos (s.strength o)
  let s := (s.objTo o oTOUCHED).sf PG_TCH (R.OBJ_STATE_AT_START o) (if atStart then 1 else 0)
  if atStart then s.blkRaise PG_TCH 0 (s.objOwner o) { d6 := o, d7 := (s.strength o).toNat } else s

/-- DEB_ON, one more in charger-noise mode (R412). -/
def State.debOn (s : State) (o : Nat) : Nat := s.gf PG_TCH (R.OBJ_CFG_DEB_ON o) + (if s.noiseMode then 1 else 0)
def State.debOff (s : State) (o : Nat) : Nat := s.gf PG_TCH (R.OBJ_CFG_DEB_OFF o)

/-- Whether the object's baselines are all stored ones (R419). -/
def State.objStored (s : State) (o : Nat) : Bool := (s.objBases o).all fun k => (s.base k).stored

/-- An object in RELEASED. -/
def State.decideReleased (o : Nat) (s : State) : State :=
  let x := fget {} s.tchObj o
  if s.debOn o ≤ x.agree then s.objPress o (x.agree ≤ x.start && x.start ≤ s.debOn o && s.objStored o)
  else if 4 ≤ x.water then
    let s := (s.report o 3 0 (s.gf PG_TCH (R.OBJ_STATE_POS o)) (s.strength o)).objTo o oWATER
    s.blkRaise PG_TCH 1 (s.objOwner o) { d6 := o, d7 := (s.peakSelf o).toNat }
  else s

/-- An object in WATER. -/
def State.decideWater (o : Nat) (s : State) : State :=
  let x := fget {} s.tchObj o
  if s.debOn o ≤ x.agree then s.objPress o false
  else if s.debOff o ≤ x.off then (s.report o 4 0 (s.gf PG_TCH (R.OBJ_STATE_POS o)) (s.strength o)).objTo o oRELEASED
  else s

/-- An object in TOUCHED: release, hold limit, move. -/
def State.decideTouched (o : Nat) (s : State) : State :=
  let x := fget {} s.tchObj o
  let hold := s.gf PG_TCH R.TCH_HOLD_MAX_HOLD
  if s.debOff o ≤ x.off then s.objRelease o oRELEASED 0
  else if hold != 0 && x.since + hold * 1000000000 ≤ s.walltime then
    let s := (s.objRelease o oRELEASED 0x80000).objRebase o
    s.blkRaise PG_TCH 5 (s.objOwner o) { d6 := o, d7 := hold }
  else
    let pos := s.objPos o
    let s := s.useFree
    let old := s.gf PG_TCH (R.OBJ_STATE_POS o)
    let diff := max pos old - min pos old
    let diff := if s.objType o = 3 then min diff (1440 - diff) else diff
    if s.objType o != 1 && pos != old && s.gf PG_TCH (R.OBJ_CFG_MOVE_MIN o) ≤ diff then
      (s.sf PG_TCH (R.OBJ_STATE_POS o) pos).report o 2 0 pos (s.strength o)
    else s

/-- The counts of an object after this cycle's measurements. -/
def State.objCount (o : Nat) (s : State) : State :=
  let agr := s.agrees o
  let wat := s.watery o
  let off := if s.objSt o = oTOUCHED then (List.range (s.objSegs o)).all fun i => !s.reachesThr (s.segDelta o i) (s.mutThr o) 3
    else (s.objRxs o).all fun r => !s.reachesThr (s.deltaOf r) (s.selfThr o) 3
  let s := s.setObj o fun x => { x with
    agree := if agr then x.agree + 1 else 0
    water := if wat then x.water + 1 else 0
    off := if off then x.off + 1 else 0
    start := if s.tch.n = 0 && agr then 1 else if agr && x.start = s.tch.n && x.start != 0 then x.start + 1 else 99 }
  s.sf PG_TCH (R.OBJ_STATE_CANDIDATE o) (if agr then 1 else 0)

/-- The decision of object `o` (R415). -/
def State.objDecide (o : Nat) (s : State) : State :=
  let s := s.objCount o
  let st := s.objSt o
  if s.objSplit o then
    if st = oSPLIT then s
    else
      -- where one of the groups is secure-owned, no bit is set (R423)
      (s.objTo o oSPLIT).blkRaise PG_TCH 7 ((s.objRxs o).any fun r => (s.grpOwner (r / 4)).1, none) { d6 := o, secret := true }
  else if st = oSPLIT then s.objTo o oRELEASED
  else if s.objFault o then
    if st = oFAULTED then s
    else if st = oTOUCHED then s.objRelease o oFAULTED 0x100000 else s.objTo o oFAULTED
  else if st = oFAULTED || st = oOFF then s.objTo o oRELEASED
  else if st = oRELEASED then s.decideReleased o
  else if st = oWATER then s.decideWater o
  else s.decideTouched o

/-! One cycle's measurements. -/

def State.roleOfElec (s : State) (e : Nat) : Nat := bits (s.rd (pageBase PG_TCH + (if e < 16 then 0x60 else 0x64))) (2 * (e % 16)) 2
def State.elecsOf (s : State) (r : Nat) : List Nat := (List.range 32).filter fun e => s.roleOfElec e = r
def State.elecsUsed (s : State) : List Nat := (List.range 32).filter fun e => s.roleOfElec e = 1 || s.roleOfElec e = 2

/-- A raw count is taken; a baseline that does not exist is taken from it, provisional (R419). -/
def State.takeRaw (k raw : Nat) (s : State) : State :=
  if fhas s.tchBase k then s.setBase k fun b => { b with raw := raw % 65536 }
  else s.setBase k fun _ => { raw := raw % 65536, val := raw % 65536, prov := true }

/-- The baselines that one electrode takes part in are re-taken as provisional (R421, R428). -/
def State.retakeElec (e : Nat) (s : State) : State :=
  { s with tchBase := s.tchBase.map fun (p : Nat × Base) =>
      if p.1 = e || (1024 ≤ p.1 && ((p.1 - 1024) / 32 = e || (p.1 - 1024) % 32 = e)) then
        (p.1, { p.2 with val := p.2.raw, prov := true, stored := false, neg := 0 }) else p }

/-- The condition of electrode `e` in this cycle (R421): 1 open, 2 shorted; a short of one of its nodes counts. -/
def State.elecCond (s : State) (muts : List (Nat × Nat)) (e : Nat) : Nat :=
  let raw := (s.base e).raw
  let short := s.gf PG_TCH R.TCH_FAULT_THR_SHORT_THR
  if short ≤ raw || muts.any (fun m => (m.1 / 32 = e || m.1 % 32 = e) && short ≤ m.2) then 2
  else if raw ≤ s.gf PG_TCH R.TCH_FAULT_THR_OPEN_THR then 1 else 0

/-- Electrode faults (R421). -/
def State.elecCheck (muts : List (Nat × Nat)) (e : Nat) (s : State) : State :=
  let c := s.elecCond muts e
  let x := fget {} s.tchElec e
  let n := if x.cond = c then min (x.n + 1) 16 else 1
  let s := { s with tchElec := fset s.tchElec e { cond := c, n } }
  let fld := if c = 1 then R.TCH_OPEN_MAP_MAP else R.TCH_SHORT_MAP_MAP
  if n < 16 then s
  else if c = 0 then
    if bit (s.gf PG_TCH R.TCH_OPEN_MAP_MAP) e || bit (s.gf PG_TCH R.TCH_SHORT_MAP_MAP) e then
      ((s.sf PG_TCH R.TCH_OPEN_MAP_MAP (setBit (s.gf PG_TCH R.TCH_OPEN_MAP_MAP) e false)).sf PG_TCH R.TCH_SHORT_MAP_MAP
        (setBit (s.gf PG_TCH R.TCH_SHORT_MAP_MAP) e false)).retakeElec e
    else s
  else if bit (s.gf PG_TCH fld) e then s
  else
    ((s.sf PG_TCH fld (setBit (s.gf PG_TCH fld) e true)).bump PG_TCH R.TCH_STAT_FAULTS 1).blkRaise PG_TCH 3 (s.grpOwner (e / 4))
      { d6 := e, d7 := c - 1 }

/-- The objects that use a baseline. -/
def State.usersOf (s : State) (k : Nat) : List Nat := s.objsOn.filter fun o => (s.objBases o).contains k
/-- A baseline is frozen while an object that uses it is TOUCHED, WATER, FAULTED or a candidate (R417). -/
def State.frozen (s : State) (k : Nat) : Bool :=
  (s.usersOf k).any fun o => s.objSt o = oTOUCHED || s.objSt o = oWATER || s.objSt o = oFAULTED ||
    s.tf PG_TCH (R.OBJ_STATE_CANDIDATE o)
/-- Whether the delta lies below half of every matching threshold (R417). -/
def State.belowHalf (s : State) (k : Nat) : Bool :=
  (s.usersOf k).all fun o => !s.reachesThr (s.deltaOf k) (if 1024 ≤ k then s.mutThr o else s.selfThr o) 2

/-- The owner that a record about a baseline carries: of the electrode's group, or of the node's RX electrode's (R423). -/
def State.baseOwner (s : State) (k : Nat) : Bool × Option Nat := s.grpOwner ((if 1024 ≤ k then k % 32 else k) / 4)

/-- Tracking and reset of one baseline (R417, R418); a baseline of a press at the start is kept as it is (R419). -/
def State.baseTrack (step : Bool) (k : Nat) (s : State) : State :=
  let d := s.deltaOf k
  let neg := -(s.gf PG_TCH R.TCH_BASE_CFG_NEG_THR : Int)
  let held := (s.usersOf k).any fun o => s.objSt o = oTOUCHED && s.tf PG_TCH (R.OBJ_STATE_AT_START o)
  let n := if d ≤ neg then (s.base k).neg + 1 else 0
  let s := s.setBase k fun b => { b with neg := n }
  if held then s
  else if 8 ≤ n then
    let s := s.setBase k fun b => { b with val := b.raw, prov := false, neg := 0 }
    s.blkRaise PG_TCH 6 (s.baseOwner k)
      { d6 := if 1024 ≤ k then k % 32 else k, d7 := if 1024 ≤ k then (k - 1024) / 32 + 0x100 else 0 }
  else if step && !s.frozen k && neg < d && s.belowHalf k then
    s.setBase k fun b => { b with val := if b.val < b.raw then b.val + 1 else if b.raw < b.val then b.val - 1 else b.val }
  else s

/-- Keys of the baselines in use: electrodes with a role, nodes of enabled objects (R417). -/
def State.baseKeys (s : State) : List Nat := s.elecsUsed ++ (s.objsOn.flatMap s.objNodes).eraseDups

/-! Rate and noise (R411, R412). -/

def State.avgNow (s : State) : Nat := s.gf PG_TCH (if s.noiseMode then R.TCH_CTRL_NOISE_AVG else R.TCH_CTRL_AVG)
/-- Duration of a cycle with `a` conversions a measurement, with or without the quiet scan, in µs (R408). -/
def State.cycleUs (s : State) (a : Nat) (quiet : Bool) : Nat :=
  (s.elecsUsed.length + 23) / 24 * a * 25 + (s.elecsOf 1).length * a * 25 + (if quiet then a * 25 else 0)

/-- The scan rate changes, with RATE_CHANGED (R411). -/
def State.rateTo (r : Nat) (s : State) : State :=
  let old := s.gf PG_TCH R.TCH_STATUS_RATE
  if old = r then s else (s.sf PG_TCH R.TCH_STATUS_RATE r).raise PG_TCH 4 { d6 := old, d7 := r }

/-- A quiet scan ends (R412). -/
def State.quietScan (noise : Nat) (s : State) : State :=
  let s := s.sf PG_TCH R.TCH_NOISE_STAT_LAST (min noise 4095)
  let on := s.noiseMode
  let enter := if s.gf PG_TCH R.TCH_NOISE_ENTER ≤ noise then s.tch.enter + 1 else 0
  let exit_ := if noise < s.gf PG_TCH R.TCH_NOISE_EXIT then s.tch.exit_ + 1 else 0
  if !on && 2 ≤ enter then
    ((({ s with tch := { s.tch with enter := 0, exit_ := 0 } }).sf PG_TCH R.TCH_STATUS_NOISE_MODE 1).bump PG_TCH
      R.TCH_NOISE_STAT_ENTRIES 1).raise PG_TCH 2 { d6 := 1, d7 := noise }
  else if on && 8 ≤ exit_ then
    (({ s with tch := { s.tch with enter := 0, exit_ := 0 } }).sf PG_TCH R.TCH_STATUS_NOISE_MODE 0).raise PG_TCH 2 { d6 := 0, d7 := noise }
  else { s with tch := { s.tch with enter, exit_ } }

/-- Idle time after a cycle's decisions (R411): it runs from the end of the first cycle in which no object is TOUCHED or a
candidate; a candidate takes the rate back to 240 Hz. -/
def State.idleNote (s : State) : State :=
  let touched := (List.range 40).any fun o => s.objSt o = oTOUCHED
  let cand := s.objsOn.any fun o => s.tf PG_TCH (R.OBJ_STATE_CANDIDATE o)
  let s := { s with tch := { s.tch with
    idle := if touched || cand then none else (match s.tch.idle with | some x => some x | none => some s.walltime) } }
  if cand then s.rateTo 0 else s

/-- The decisions of a cycle, or a step of a recalibration (R415, R429). -/
def State.cycleDecide (s : State) : State :=
  if s.tch.recal = 0 then
    let s := forEach s.objsOn (fun o s => s.objDecide o) s
    let step := s.gf PG_TCH R.TCH_BASE_CFG_TRACK ≤ s.tch.track + 1
    let s := { s with tch := { s.tch with track := if step then 0 else s.tch.track + 1 } }
    forEach s.baseKeys (fun k s => s.baseTrack step k) s
  else
    let s := { s with tch := { s.tch with
      recal := s.tch.recal - 1, sums := s.baseKeys.foldl (fun m k => fmod 0 m k fun x => x + (s.base k).raw) s.tch.sums } }
    if s.tch.recal = 0 then
      forEach s.tch.sums (fun x s => s.setBase x.1 fun b => { b with val := x.2 / 16, prov := true, stored := false, neg := 0 })
        { s with tch := { s.tch with sums := [] } }
    else s

/-- A scan cycle ends with its raw counts (R408). -/
def State.cycleEnd (selfs : List Nat) (muts : List (Nat × Nat)) (noise : Nat) (s : State) : State :=
  let k := s.gf PG_TCH R.TCH_CYCLES_CYCLES
  let quiet := k % 16 = 15
  let us := s.cycleUs s.avgNow quiet
  let s := forEach s.elecsUsed (fun e s => s.takeRaw e (selfs.getD e (s.base e).raw)) s
  let s := forEach muts (fun m s => s.takeRaw (1024 + m.1) m.2) s
  let s := forEach s.elecsUsed (fun e s => s.elecCheck muts e) s
  let s := s.cycleDecide
  let s := if s.tch.recal = 0 then s.idleNote else s
  let s := (s.sf PG_TCH R.TCH_STATUS_CYCLE_US us).sf PG_TCH R.TCH_STATUS_FREQ (if s.noiseMode then k % 4 else 0)
  let s := if quiet then s.quietScan noise else s
  ({ s with tch := { s.tch with inCycle := false, n := s.tch.n + 1 } }).bumpW PG_TCH R.TCH_CYCLES_CYCLES 1

/-! Scanning starts and stops (R408, R419, R427). -/

/-- Whether scanning runs (R408): R18's FAULT alone does not stop it (R19). -/
def State.scanOn (s : State) : Bool :=
  s.running && s.tf PG_TCH R.TCH_CTRL_SCAN_EN && !s.tch.held &&
    (s.pstate PG_TCH = pRUN || s.pstate PG_TCH = pSERVICE || s.onlyR18.any fun x => x.1 == PG_TCH && (x.2 == pRUN || x.2 == pSERVICE))

/-- Stored baselines of the configuration image that apply (R419). -/
def State.storedBases (s : State) : FMap Base :=
  s.baseKeys.foldl (fun m k => match s.tchStored.find? (fun p => p.1 = k) with
    | some p => fset m k { raw := p.2, val := p.2, stored := true }
    | none => m) []

/-- Scanning starts: baselines from the image, or those held when it stopped (R419, R427). -/
def State.scanStart (s : State) : State :=
  let bases := if s.tch.keep then s.tchBase.map fun (p : Nat × Base) => (p.1, { p.2 with stored := true, neg := 0 }) else s.storedBases
  let s := forEach s.objsOn (fun o s => s.objTo o oRELEASED) s
  let s := { s with tchBase := bases, tch := { s.tch with inCycle := false, n := 0, idle := none, track := 0, enter := 0, exit_ := 0 } }
  let s := forEach s.objsOn (fun o s => s.setObj o fun x => { x with start := 0 }) s
  (s.rateTo 0).sf PG_TCH R.TCH_STATUS_SCANNING 1

/-- Scanning stops: TOUCHED objects are released with STOP, and the baselines held are kept (R427). -/
def State.scanStop (s : State) : State :=
  let s := forEach s.objsOn (fun o s => if s.objSt o = oTOUCHED then s.objRelease o oRELEASED 0x200000 else s) s
  ({ s with tch := { s.tch with inCycle := false, keep := true, recal := 0, sums := [] } }).sf PG_TCH R.TCH_STATUS_SCANNING 0

/-- Scanning follows its conditions. -/
def State.scanCheck (s : State) : State :=
  let on := s.tf PG_TCH R.TCH_STATUS_SCANNING
  if s.scanOn && !on then s.scanStart else if !s.scanOn && on then s.scanStop else s

/-- A soft reset or OFF: baselines come from the image again, and objects are off (R427). -/
def State.touchFresh (s : State) : State :=
  { s with tchBase := [], tchElec := [], tchObj := [], tch := { dropped := s.tch.dropped }, compQ := s.compQ }

/-- Entry of the page to SERVICE performs TCH_SVC.ACTION (R429). -/
def State.touchService (s : State) : State :=
  if s.tf PG_TCH R.TCH_SVC_ACTION then ({ s with tch := { s.tch with held := true } }).scanCheck
  else if !s.tf PG_TCH R.TCH_STATUS_SCANNING then s
  else
    let s := forEach s.objsOn (fun o s => if s.objSt o = oTOUCHED then s.objRelease o oRELEASED 0x200000 else s) s
    { s with tch := { s.tch with recal := 16, sums := [] } }

/-- The objects whose RX electrodes include group `g` lose their reports and return to RELEASED, untold (R426). -/
def State.groupChange (g : Nat) (s : State) : State :=
  let os := s.objsOn.filter fun o => (s.objRxs o).any fun r => r / 4 == g
  let s := { s with compQ := s.compQ.filter fun x => !os.contains x.2.2.2 }
  forEach os (fun o s => s.objTo o oRELEASED) s

/-! Commits of the TCH page (R406 to R409, R428). -/


/-- Role of electrode `e` in the shadow. -/
def State.sRole (s : State) (e : Nat) : Nat := bits (s.shadowWord PG_TCH (if e < 16 then 0x60 else 0x64)) (2 * (e % 16)) 2

/-- Whether the shadow of object `o` breaks R407 or a field's range. -/
def State.objBad (s : State) (o : Nat) : Bool :=
  let ty := s.sgf PG_TCH (R.OBJ_CFG_TYPE o)
  let segs := s.sgf PG_TCH (R.OBJ_CFG_SEGS o)
  let rxs := (List.range (segs + 1)).map fun i => s.sgf PG_TCH (objRxFld o i)
  s.sgf PG_TCH (R.OBJ_THR_SELF_THR o) = 0 || s.sgf PG_TCH (R.OBJ_THR_MUT_THR o) = 0 ||
    s.sgf PG_TCH (R.OBJ_CFG_DEB_ON o) = 0 || s.sgf PG_TCH (R.OBJ_CFG_DEB_OFF o) = 0 ||
    (ty != 0 && (s.sRole (s.sgf PG_TCH (R.OBJ_CFG_TX o)) != 1 || rxs.any (fun r => s.sRole r != 2) || rxs.eraseDups != rxs ||
      (ty = 1 && segs != 0) || (ty != 1 && segs = 0)))

/-- Whether the shadow of the TCH page is refused with BAD_ARG (R406, R407, R409). -/
def State.tchBad (s : State) : Bool :=
  let tx := ((List.range 32).filter fun e => s.sRole e = 1).length
  let rx := ((List.range 32).filter fun e => s.sRole e = 2).length
  let a := max (s.sgf PG_TCH R.TCH_CTRL_AVG) (s.sgf PG_TCH R.TCH_CTRL_NOISE_AVG)
  let gain := s.sgf PG_TCH R.TCH_CTRL_NOISE_GAIN
  8 < tx || 24 < rx || (List.range 32).any (fun e => s.sRole e = 3) ||
    s.sgf PG_TCH R.TCH_CTRL_AVG = 0 || s.sgf PG_TCH R.TCH_CTRL_NOISE_AVG = 0 || gain < 16 || 64 < gain ||
    (List.range 4).any (fun k => s.sgf PG_TCH ⟨0x48, 8 * k, 8⟩ < 10) ||
    s.sgf PG_TCH R.TCH_NOISE_ENTER ≤ s.sgf PG_TCH R.TCH_NOISE_EXIT ||
    s.sgf PG_TCH R.TCH_FAULT_THR_SHORT_THR ≤ s.sgf PG_TCH R.TCH_FAULT_THR_OPEN_THR ||
    s.sgf PG_TCH R.TCH_BASE_CFG_TRACK = 0 ||
    4000 < ((tx + rx + 23) / 24 + tx + 1) * a * 25 || (List.range 40).any s.objBad

/-- Whether a commit changes the TYPE, SEGS, TX or RX fields of an object (R428). -/
def State.objChanges (s : State) (o : Nat) : Bool :=
  let k := pageBase PG_TCH + 0x100 + 16 * o
  let d := fun (off : Nat) (m : Word) => (fget (s.rd (k + off)) s.shadow (k + off) &&& m) != (s.rd (k + off) &&& m)
  d 0 0x1F73#32 || d 4 0x1F1F1F1F#32 || d 8 0x1F1F1F1F#32

/-- Before a commit of the TCH page is applied: an object it changes is released with STOP if it is TOUCHED (R415, R428). -/
def State.tchBefore (s : State) : State :=
  forNat 40 (fun o s => if s.objChanges o && s.objType o != 0 then s.objStop o oRELEASED else s) s

/-- After it is applied: objects go on or off, changed roles re-take their baselines (`roles` as they were), the rate and the
scanning follow (R411, R415, R428). -/
def State.tchAfter (roles : List Nat) (s : State) : State :=
  let s := forNat 32 (fun e s =>
    if roles.getD e 0 = s.roleOfElec e then s
    else if s.roleOfElec e = 0 then { s with tchBase := fdel s.tchBase e, tchElec := fdel s.tchElec e } else s.retakeElec e) s
  let s := forNat 40 (fun o s =>
    if s.objType o = 0 then (if s.objSt o = oOFF then s else s.objTo o oOFF)
    else if s.objSt o = oOFF then s.objTo o oRELEASED else s) s
  let new := s.storedBases.filter fun (p : Nat × Base) => !fhas s.tchBase p.1
  let s := { s with tchBase := new.foldl (fun m (p : Nat × Base) => fset m p.1 p.2) s.tchBase }
  let s := if s.tf PG_TCH R.TCH_CTRL_IDLE_EN then s else s.rateTo 0
  s.scanCheck

end Sys2Proof.Machine
end

