-- ==== Sys2Proof/Machine/Haptic.lean ====
section
/-! DEFINITION. ERM haptics (R431 to R437): channels, triggers, phases, duty and faults. -/

namespace Sys2Proof.Machine

open Sys2Proof

/-- Channel states (HAP_CH_STATUS). -/
abbrev cIDLE : Nat := 0
abbrev cKICK : Nat := 1
abbrev cSUSTAIN : Nat := 2
abbrev cBRAKE : Nat := 3
abbrev cFAULTED : Nat := 4

def State.hapSt (s : State) (n : Nat) : Nat := s.gf PG_HAP (R.HAP_CH_STATUS_STATE n)
def State.hap (s : State) (n : Nat) : HapCh := fget {} s.haps n
def State.setHap (n : Nat) (f : HapCh → HapCh) (s : State) : State := { s with haps := fmod {} s.haps n f }
/-- World and instance of channel `n` (R447). -/
def State.hapOwner (s : State) (n : Nat) : Bool × Option Nat :=
  if bits (s.rd (pageBase PG_HAP + 0x94 + 0x20 * n)) 0 1 = 1 then (true, none) else s.routedTo (8 + n) |> fun i => (false, i)

/-- Level and duration of a phase of a slot: 1 kick, 2 sustain, 3 brake (R432). -/
def State.phaseMv (s : State) (slot ph : Nat) : Nat :=
  s.gf PG_HAP (if ph = 1 then R.HAP_SLOT_KICK_MV slot else if ph = 2 then R.HAP_SLOT_SUS_MV slot else R.HAP_SLOT_BRK_MV slot)
def State.phaseMs (s : State) (slot ph : Nat) : Nat :=
  s.gf PG_HAP (if ph = 1 then R.HAP_SLOT_KICK_MS slot else if ph = 2 then R.HAP_SLOT_SUS_MS slot else R.HAP_SLOT_BRK_MS slot)
def State.hapSlot (s : State) (n : Nat) : Nat := s.gf PG_HAP (R.HAP_CH_STATUS_SLOT n)

/-- PWM duty of the running phase in hundredths of a percent (R431). -/
def State.pwmDuty (s : State) (n : Nat) : Nat :=
  let mv := s.phaseMv (s.hapSlot n) (s.hapSt n)
  let vdd := s.gf PG_HAP R.HAP_STATUS_VDD_MV
  if s.hapSt n = cIDLE || s.hapSt n = cFAULTED then 0 else if vdd ≤ mv then 10000 else mv * 10000 / vdd
/-- Which side drives high: A, B or neither (R431). -/
def State.hapSide (s : State) (n : Nat) : Option Bool :=
  if !(s.hap n).drive then none else some ((s.hapSt n = cBRAKE) != s.tf PG_HAP (R.HAP_CH_STATUS_POL_SWAP n))

/-- Nanoseconds of the last WIN_MS in which the channel drove a level that is not 0 (R435). -/
def State.drivenNs (s : State) (n : Nat) : Nat :=
  let x := s.hap n
  let t0 := s.walltime - s.gf PG_HAP (R.HAP_CH_THERM_WIN_MS n) * 1000000
  let all := if x.drive then x.hist ++ [(x.phaseAt, s.walltime)] else x.hist
  all.foldl (fun a p => a + (p.2 - max p.1 t0)) 0
/-- DUTY_NOW in percent, and whether it has reached DUTY_PCT (R435). -/
def State.dutyNow (s : State) (n : Nat) : Nat :=
  let w := s.gf PG_HAP (R.HAP_CH_THERM_WIN_MS n) * 1000000
  if w = 0 then 0 else min 100 (s.drivenNs n * 100 / w)
def State.dutyOver (s : State) (n : Nat) : Bool :=
  decide (s.gf PG_HAP (R.HAP_CH_THERM_DUTY_PCT n) * s.gf PG_HAP (R.HAP_CH_THERM_WIN_MS n) * 1000000 ≤ s.drivenNs n * 100)

/-- The drive of the running phase ends; its interval enters the history, which keeps the last 10 s. -/
def State.driveEnd (n : Nat) (s : State) : State :=
  s.setHap n fun x =>
    let h := if x.drive then x.hist ++ [(x.phaseAt, s.walltime)] else x.hist
    { x with drive := false, hist := h.filter fun p => s.walltime ≤ p.2 + 10000000000 }

/-- A channel enters a state; in a phase it drives that phase's level. -/
def State.hapTo (n st : Nat) (s : State) : State :=
  let s := (s.driveEnd n).sf PG_HAP (R.HAP_CH_STATUS_STATE n) st
  let mv := if st = cKICK || st = cSUSTAIN || st = cBRAKE then s.phaseMv (s.hapSlot n) st else 0
  s.setHap n fun x => { x with
    phaseAt := s.walltime, drive := mv != 0, full := if 1000 ≤ mv then some (x.full.getD s.walltime) else none, stall := 0,
    rev := if st = cKICK then 0 else x.rev }

/-- A HAPTIC_PLAY that waits completes with `code`. -/
def State.hapCmd (c : Option Nat) (code : Nat) (s : State) : State :=
  match c with
  | some id => s.cmdDone id code 0
  | none => s

/-- The queued trigger is discarded, or replaced; its HAPTIC_PLAY completes with `code` (R434). -/
def State.dropQueued (n code : Nat) (s : State) : State :=
  match (s.hap n).queued with
  | none => s
  | some q => ((s.setHap n fun x => { x with queued := none }).sf PG_HAP (R.HAP_CH_STATUS_QUEUED n) 0).hapCmd q.cmd code
/-- The pending timed start is discarded. -/
def State.dropTimed (n code : Nat) (s : State) : State :=
  match (s.hap n).timed with
  | none => s
  | some q => ((s.setHap n fun x => { x with timed := none }).sf PG_HAP (R.HAP_CH_STATUS_TIMED n) 0).hapCmd q.cmd code

/-- The code with which a trigger is refused now (R435): WRONG_STATE in FAULT, else NO_RESOURCE for the supply or the duty. -/
def State.trigCode (s : State) (n : Nat) : Option Nat :=
  if s.hapSt n = cFAULTED || fhas s.handovers (0x2000 + n) then some WRONG_STATE
  else if s.tf PG_HAP R.HAP_STATUS_LOW || s.dutyOver n then some NO_RESOURCE else none

/-- A refusal under R435: counted, with THERMAL_LIMIT where duty refused it. -/
def State.trigRefused (n : Nat) (s : State) : State :=
  let s' := s.bump PG_HAP (R.HAP_CH_STAT_REFUSED n) 1
  if s.hapSt n != cFAULTED && s.dutyOver n then s'.blkRaise PG_HAP 1 (s.hapOwner n) { d6 := n, d7 := s.dutyNow n } else s'

/-- The phase from `ph` on that has a time, skipping phases of 0 ms (R432); 0 when none is left. -/
def State.phaseFrom (s : State) (slot : Nat) (ph : Nat) : Nat :=
  if ph ≤ 1 && s.phaseMs slot 1 != 0 then 1
  else if ph ≤ 2 && s.phaseMs slot 2 != 0 then 2
  else if ph ≤ 3 && s.phaseMs slot 3 != 0 then 3 else 0

/-- An effect starts (R433): EFFECT_STARTED, the count, the first phase; a polarity swap found before applies (R436). -/
def State.effectStart (n slot : Nat) (cmd : Option Nat) (s : State) : State :=
  let s := (s.sf PG_HAP (R.HAP_CH_STATUS_SLOT n) slot).bumpW PG_HAP (R.HAP_CH_STAT_EFFECTS n) 1
  let s := if (s.hap n).swapNext then
      (s.setHap n fun x => { x with swapNext := false }).sf PG_HAP (R.HAP_CH_STATUS_POL_SWAP n)
        (1 - s.gf PG_HAP (R.HAP_CH_STATUS_POL_SWAP n)) else s
  let s := (s.setHap n fun x => { x with rev := 0, thenFault := false }).hapTo n (s.phaseFrom slot 1)
  (s.blkRaise PG_HAP 0 (s.hapOwner n) { d6 := n, d7 := slot }).hapCmd cmd OK

/-- Outputs high-impedance or low at once, with no brake (R433). -/
def State.hapStopAt (n st : Nat) (s : State) : State := (s.setHap n fun x => { x with thenFault := false }).hapTo n st

/-- The brake has ended (R433): FAULT after a stall, else the queued effect if it passes R435, else IDLE. -/
def State.brakeEnd (n : Nat) (s : State) : State :=
  if (s.hap n).thenFault then
    ((s.hapStopAt n cFAULTED).sf PG_HAP (R.HAP_CH_STATUS_FAULT n) 3).dropQueued n WRONG_STATE
  else match (s.hap n).queued with
    | none => s.hapTo n cIDLE
    | some q =>
      if fhas s.handovers (0x2000 + n) then (s.dropQueued n CANCELLED).hapTo n cIDLE else
      let s := (s.setHap n fun x => { x with queued := none }).sf PG_HAP (R.HAP_CH_STATUS_QUEUED n) 0
      let s := s.hapTo n cIDLE
      match s.trigCode n with
      | some c => (s.trigRefused n).hapCmd q.cmd c
      | none => s.effectStart n q.slot q.cmd

/-- The channel moves to its brake; a brake of 0 ms ends at once. -/
def State.toBrake (n : Nat) (s : State) : State :=
  if s.phaseMs (s.hapSlot n) 3 = 0 then s.brakeEnd n else s.hapTo n cBRAKE

/-- The running phase's time has ended (R433). -/
def State.phaseEnd (n : Nat) (s : State) : State :=
  let st := s.hapSt n
  if st = cBRAKE then s.brakeEnd n
  else if st = cKICK || st = cSUSTAIN then
    let next := s.phaseFrom (s.hapSlot n) (st + 1)
    if next = 0 then s.brakeEnd n else s.hapTo n next
  else s

/-- A trigger that is taken (R433): queued in BRAKE, replacing a queued one; else the effect starts.  `trigCode` has been checked
for a channel that is not in BRAKE. -/
def State.trigTake (n slot : Nat) (cmd : Option Nat) (s : State) : State :=
  if s.hapSt n = cBRAKE then
    ((s.dropQueued n CANCELLED).setHap n fun x => { x with queued := some { slot, cmd } }).sf PG_HAP (R.HAP_CH_STATUS_QUEUED n) 1
  else s.effectStart n slot cmd

/-- A trigger (R433, R435), and what a refusal does. -/
def State.trigger (n slot : Nat) (cmd : Option Nat) (onRefuse : Nat → State → State) (s : State) : State :=
  match (if s.hapSt n = cBRAKE && !fhas s.handovers (0x2000 + n) then none else s.trigCode n) with
  | some c => onRefuse c (s.trigRefused n)
  | none => s.trigTake n slot cmd

/-- An open (1) or short (2) fault (R436): high impedance at once. -/
def State.hapFault (n code : Nat) (s : State) : State :=
  if s.hapSt n = cFAULTED then s
  else
    let s := ((s.hapStopAt n cFAULTED).sf PG_HAP (R.HAP_CH_STATUS_FAULT n) code).dropQueued n WRONG_STATE
    s.blkRaise PG_HAP 2 (s.hapOwner n) { d6 := n, d7 := code }

/-- Stall (R436): HAP_FAULT, then the brake, then FAULT. -/
def State.hapStall (n : Nat) (s : State) : State :=
  let s := s.blkRaise PG_HAP 2 (s.hapOwner n) { d6 := n, d7 := 3 }
  (s.setHap n fun x => { x with thenFault := true }).toBrake n

/-- Two back-EMF samples of the wrong sign (R436). -/
def State.hapReversed (n : Nat) (s : State) : State :=
  let s := s.blkRaise PG_HAP 3 (s.hapOwner n) { d6 := n, d7 := s.gf PG_HAP (R.HAP_CH_STATUS_POL_SWAP n) }
  if s.tf PG_HAP (R.HAP_CH_CTRL_AUTO_POL n) then s.setHap n fun x => { x with swapNext := true } else s

/-- A back-EMF sample in SUSTAIN, `mv` the voltage of A over B (R436). -/
def State.backEmf (n : Nat) (mv : Int) (s : State) : State :=
  if s.hapSt n != cSUSTAIN || !(s.hap n).drive then s
  else
    let level := s.phaseMv (s.hapSlot n) 2
    let wrong := if s.tf PG_HAP (R.HAP_CH_STATUS_POL_SWAP n) then decide (0 < mv) else decide (mv < 0)
    let s := s.setHap n fun x => { x with
      stall := if mv.natAbs * 10 < level then x.stall + 1 else 0, rev := if wrong then x.rev + 1 else 0 }
    let s := if (s.hap n).rev = 2 && wrong then s.hapReversed n else s
    if 3 ≤ (s.hap n).stall then s.hapStall n else s

/-- VDD_HAP is measured (R435). -/
def State.vddHap (mv : Nat) (s : State) : State :=
  let s := s.sf PG_HAP R.HAP_STATUS_VDD_MV (min mv 8191)
  if 2900 ≤ mv then s.sf PG_HAP R.HAP_STATUS_LOW 0
  else if s.tf PG_HAP R.HAP_STATUS_LOW then s
  else
    let s := s.sf PG_HAP R.HAP_STATUS_LOW 1
    let s := forNat 4 (fun n s => if s.hapSt n = cFAULTED then s else (s.hapStopAt n cIDLE).dropQueued n CANCELLED) s
    s.raise PG_HAP 4 { d6 := mv }

/-- STOP (R434): KICK and SUSTAIN move to BRAKE, a queued trigger is discarded. -/
def State.hapStopReg (n : Nat) (s : State) : State :=
  if s.hapSt n = cKICK || s.hapSt n = cSUSTAIN then s.toBrake n
  else if s.hapSt n = cBRAKE then s.dropQueued n CANCELLED else s

/-- What an instance reset, or the device leaving RUN and SERVICE, does to a channel (R446): a running effect completes. -/
def State.hapCancel (n : Nat) (s : State) : State := (s.dropQueued n CANCELLED).dropTimed n CANCELLED

/-- The die-to-die link goes down (R19): a brake in progress completes, other drive stops, and what waits is discarded. -/
def State.hapLinkDown (s : State) : State :=
  forNat 4 (fun n s =>
    let s := (s.dropQueued n LINK_ERROR).dropTimed n LINK_ERROR
    if s.hapSt n = cKICK || s.hapSt n = cSUSTAIN then s.hapStopAt n cIDLE else s) s

/-- The HAP block initialises: outputs low, channels IDLE (R61). -/
def State.hapFresh (s : State) : State :=
  forNat 4 (fun n s => ((s.hapCancel n).hapStopAt n cIDLE).sf PG_HAP (R.HAP_CH_STATUS_FAULT n) 0) s

/-- Hand-over of a channel (R341): queued triggers are discarded and the drive ends. -/
def State.hapRelease (n : Nat) (s : State) : State :=
  let s := s.hapCancel n
  if s.hapSt n = cFAULTED then s else s.hapStopAt n cIDLE

/-! Commits of the HAP page (R432). -/

def levelOk (v : Nat) : Bool := v = 0 || (1000 ≤ v && v ≤ 5000)

/-- Whether slot `i` of channel `n` breaks R432 in the shadow. -/
def State.slotBad (s : State) (n i : Nat) : Bool :=
  let g := fun (f : Fld) => s.sgf PG_HAP f
  let kick := g (R.HAP_SLOT_KICK_MV i)
  let sus := g (R.HAP_SLOT_SUS_MV i)
  let brk := g (R.HAP_SLOT_BRK_MV i)
  !levelOk kick || !levelOk sus || !levelOk brk || g (R.HAP_CH_LIM_VKICK_MV n) < kick || g (R.HAP_CH_LIM_VMAX_MV n) < sus ||
    g (R.HAP_CH_LIM_VKICK_MV n) < brk || g (R.HAP_CH_TIME_KICK_MAX_MS n) < g (R.HAP_SLOT_KICK_MS i) ||
    g (R.HAP_CH_TIME_TMAX_MS n) < g (R.HAP_SLOT_SUS_MS i) || 40 < g (R.HAP_SLOT_BRK_MS i) || 40 < g (R.HAP_SLOT_KICK_MS i)

/-- Whether channel `n`'s limits are out of range in the shadow. -/
def State.chanBad (s : State) (n : Nat) : Bool :=
  let g := fun (f : Fld) => s.sgf PG_HAP f
  let vmax := g (R.HAP_CH_LIM_VMAX_MV n)
  let vkick := g (R.HAP_CH_LIM_VKICK_MV n)
  let kmax := g (R.HAP_CH_TIME_KICK_MAX_MS n)
  let win := g (R.HAP_CH_THERM_WIN_MS n)
  let pct := g (R.HAP_CH_THERM_DUTY_PCT n)
  vkick < vmax || vmax < 1000 || 5000 < vkick || kmax < 1 || 40 < kmax || g (R.HAP_CH_TIME_TMAX_MS n) < 10 ||
    win < 100 || 10000 < win || pct < 10 || 100 < pct || g (R.HAP_CH_CTRL_TRIG_EDGE n) = 3

def State.hapBad (s : State) : Bool :=
  (List.range 4).any fun n => s.chanBad n || (List.range 8).any fun k => s.slotBad n (8 * n + k)

/-- After a commit of the HAP page: AUTO_POL applied as 0 clears POL_SWAP (R436). -/
def State.hapAfter (s : State) : State :=
  forNat 4 (fun n s => if s.tf PG_HAP (R.HAP_CH_CTRL_AUTO_POL n) then s
    else (s.setHap n fun x => { x with swapNext := false }).sf PG_HAP (R.HAP_CH_STATUS_POL_SWAP n) 0) s

end Sys2Proof.Machine
end

