-- ==== Sys2Proof/Machine/Audio.lean ====
section
/-! DEFINITION. TDM ports, streams, cues, ducking and alarm generators (R438 to R446). -/

namespace Sys2Proof.Machine

open Sys2Proof

/-- Port states (AUD_PORT_STATUS). -/
abbrev tOFF : Nat := 0
abbrev tLOCKING : Nat := 1
abbrev tRUN : Nat := 2
abbrev tNO_CLOCK : Nat := 3

def State.tdmSt (s : State) (p : Nat) : Nat := s.gf PG_AUD (R.AUD_PORT_STATUS_STATE p)
/-- Sample rate code to hertz (AUD_PORT_CFG.RATE). -/
def audioHz (r : Nat) : Nat :=
  [8000, 11025, 16000, 22050, 32000, 44100, 48000, 88200, 96000, 176400, 192000].getD r 0
def audioWidth (w : Nat) : Nat := [16, 24, 32].getD w 0
/-- Bytes of a sample (AUD_STR_CFG.FMT). -/
def sampleBytes (f : Nat) : Nat := if f = 0 then 2 else 4

def State.strm (s : State) (n : Nat) : Strm := fget {} s.strs n
def State.setStrm (n : Nat) (f : Strm → Strm) (s : State) : State := { s with strs := fmod {} s.strs n f }
def State.strPort (s : State) (n : Nat) : Nat := s.gf PG_AUD (R.AUD_STR_CFG_PORT n)
/-- World and instance of stream `n` (R447). -/
def State.strOwner (s : State) (n : Nat) : Bool × Option Nat :=
  if bits (s.rd (pageBase PG_AUD + 0x10C + 0x10 * n)) 0 1 = 1 then (true, none) else (false, s.routedTo (16 + n))
/-- Class of a stream (R442): C0 of the secure world, else its instance's CLASS. -/
def State.strClass (s : State) (n : Nat) : Nat :=
  match s.strOwner n with
  | (true, _) => 0
  | (_, some i) => s.ent i 0 8 2
  | _ => 0

/-! Ducking (R443). -/

def State.alarm (s : State) (g : Nat) : Alarm := fget {} s.alarms g
/-- Whether a source of a class above `c` sounds on port `p`; a generator is C0 in its on-time (R442). -/
def State.sounding (s : State) (p c : Nat) : Bool :=
  ((List.range 16).any fun n => s.strPort n = p && (s.strm n).play.isSome && decide (s.strClass n < c)) ||
  ((List.range 4).any fun g => fhas s.alarms g && (s.alarm g).on && s.gf PG_AUD (R.ALM_CTRL_PORT g) = p && decide (0 < c))

/-- The present duck attenuation in 0.5 dB: a linear ramp over RAMP_MS (R443). -/
def State.duckNow (s : State) (n : Nat) : Nat :=
  let x := s.strm n
  let ramp := s.gf PG_AUD R.AUD_DUCK_RAMP_MS * 1000000
  let dt := s.walltime - x.duckAt
  if ramp ≤ dt then x.duckTo
  else if x.duckFrom ≤ x.duckTo then x.duckFrom + (x.duckTo - x.duckFrom) * dt / ramp
  else x.duckFrom - (x.duckFrom - x.duckTo) * dt / ramp

/-- A ramp to `v` starts from the present attenuation. -/
def State.duckTo (n v : Nat) (s : State) : State :=
  let now := s.duckNow n
  s.setStrm n fun x => { x with duckFrom := now, duckTo := v, duckAt := s.walltime, duckHold := none }

/-- How many samples of a port in RUN have saturated since what sounds on it last changed: the samples are not State, and the count goes up by a
free value (R442; log entry 121). -/
def State.clipSome (p : Nat) (s : State) : State :=
  if s.tdmSt p = tRUN then s.useFree.bump PG_AUD (R.AUD_PORT_STAT_CLIPS p) (s.free.toNat % 65536) else s

/-- What sounds has changed: every stream's duck follows (R443), applied at once, released HOLD_MS after. -/
def State.duckAll (s : State) : State :=
  let s := forNat 2 (fun p s => s.clipSome p) s
  forNat 16 (fun n s =>
    let c := s.strClass n
    let atten := s.gf PG_AUD R.AUD_DUCK_ATTEN
    if c != 0 && s.sounding (s.strPort n) c then
      (if (s.strm n).duckTo = atten && (s.strm n).duckHold.isNone then s else s.duckTo n atten)
    else if (s.strm n).duckTo != 0 && (s.strm n).duckHold.isNone then
      s.setStrm n fun x => { x with duckHold := some (s.walltime + s.gf PG_AUD R.AUD_DUCK_HOLD_MS * 1000000) }
    else s) s

/-! Cues (R440, R441). -/

/-- The registers show a stream's state and its pending timed cues. -/
def State.strShow (n : Nat) (s : State) : State :=
  let x := s.strm n
  let st := match x.play with | none => 0 | some c => if c.loop then 2 else 1
  (s.sf PG_AUD (R.AUD_STR_STATUS_STATE n) st).sf PG_AUD (R.AUD_STR_STATUS_PENDING n) (x.pend.filter fun c => c.timed).length

/-- An AUDIO_CUE that waits completes. -/
def State.cueCmd (c : Cue) (code : Nat) (s : State) : State :=
  match c.cmd with
  | some id => s.cmdDone id code 0
  | none => s

/-- Pending cues that satisfy `p` complete with `code`. -/
def State.dropCues (n code : Nat) (p : Cue → Bool) (s : State) : State :=
  let gone := (s.strm n).pend.filter p
  let s := s.setStrm n fun x => { x with pend := x.pend.filter fun c => !p c }
  (forEach gone (fun c s => s.cueCmd c code) s).strShow n

/-- The samples of a cue, and those that its port has had time for: none while it has no clock (R439). -/
def State.cueLen (s : State) (n : Nat) (c : Cue) : Nat := c.len / sampleBytes (s.gf PG_AUD (R.AUD_STR_CFG_FMT n))
def State.cueTime (s : State) (n : Nat) (c : Cue) : Nat :=
  (fget s.walltime s.tdmLost (s.strPort n) - c.begun) * audioHz (s.gf PG_AUD (R.AUD_PORT_CFG_RATE (s.strPort n)))
/-- Samples played of a cue by now. -/
def State.played (s : State) (n : Nat) (c : Cue) : Nat :=
  let k := s.cueTime n c / 1000000000
  if c.loop then k else min k (s.cueLen n c)

/-- The playing cue ends without replacement after `k` samples: CUE_ENDED (R448). -/
def State.cueOver (n k : Nat) (s : State) : State :=
  let s := (s.setStrm n fun x => { x with play := none, stopAt := false }).strShow n
  (s.blkRaise PG_AUD 1 (s.strOwner n) { d6 := n, d7 := k }).duckAll

/-- Whether a pending cue may start at a frame now (R440, R441). -/
def State.cueDue (s : State) (c : Cue) : Bool := c.ready && (!c.timed || decide (c.start ≤ s.localTime (islandOf PG_AUD)))

/-- A frame at which cues of stream `n` fall due (R441, R446): STOP wins; of several the one executed last starts. -/
def State.cueFrame (n : Nat) (s : State) : State :=
  if s.tdmSt (s.strPort n) != tRUN || s.d2dDownAt.isSome then s
  else
    let x := s.strm n
    let due := x.pend.filter fun c => s.cueDue c
    if x.stopAt then
      let s := s.dropCues n CANCELLED fun c => due.contains c
      match x.play with
      | some c => s.cueOver n (s.played n c)
      | none => s.setStrm n fun x => { x with stopAt := false }
    else match due.getLast? with
      | none => s
      | some c =>
        let s := s.setStrm n fun y => { y with pend := y.pend.filter fun d => d != c }
        let s := s.dropCues n CANCELLED fun d => due.contains d
        let s := s.setStrm n fun y => { y with play := some { c with begun := s.walltime, cmd := none } }
        let s := (s.strShow n).blkRaise PG_AUD 0 (s.strOwner n) { d6 := n, d7 := if c.late then 1 else 0 }
        (s.cueCmd c OK).duckAll

/-- The playing cue passes its last sample, on a port whose clock may be 1 % fast (R439), or its STOP takes effect (R441). -/
def State.cueEnds (n : Nat) (s : State) : State :=
  match (s.strm n).play with
  | none => s
  | some c =>
    if (s.strm n).stopAt then s.cueOver n (s.played n c)
    else if c.loop || decide (s.cueTime n c * 101 < s.cueLen n c * 100000000000) then s
    else s.cueOver n (s.cueLen n c)

/-- Whether a read for a cue at address `a` is blocked by the DRAM watermark (R325). -/
def State.cueBlocked (s : State) (c : Cue) (a : Nat) : Bool := c.owner != 256 && decide (a < s.wmDram)
/-- A read for a cue of `k` bytes at `a`: the watermark and the capacity capture it (R325, R355).  A blocked one reads zeros. -/
def State.cueAccess (c : Cue) (a k : Nat) (s : State) : State :=
  s.noteAccess none (c.owner == 256) (if c.owner = 256 then none else some c.owner) a k

/-- A read for a stream ends (R325, R440, R441, R388): before the start it makes the cue ready or fails it, after it late data count as
UNDERRUN and a lasting error stops the cue. -/
def State.cueData (n zeroed : Nat) (err : Bool) (s : State) : State :=
  match (s.strm n).pend.find? fun c => !c.ready with
  | some c =>
    let s := if err then s else s.cueAccess c c.addr (min 4096 c.len)
    if !err && s.cueBlocked c c.addr then
      ((s.setStrm n fun x => { x with pend := x.pend.filter fun d => d != c }).strShow n).cueCmd c SECURE_DENIED
    else if err then
      let s := (s.setStrm n fun x => { x with pend := x.pend.filter fun d => d != c }).strShow n
      s.cueCmd c MEM_ERROR
    else s.setStrm n fun x => { x with pend := x.pend.map fun (d : Cue) => if d == c then { d with ready := true } else d }
  | none => match (s.strm n).play with
    | none => s
    | some c =>
      if err then
        let s := (s.setStrm n fun x => { x with play := none, stopAt := false }).strShow n
        (s.blkRaise PG_AUD 2 (s.strOwner n) { status := MEM_ERROR, d6 := n, d7 := c.addr }).duckAll
      else
        let s := s.cueAccess c (c.addr + s.played n c * sampleBytes (s.gf PG_AUD (R.AUD_STR_CFG_FMT n)) % max 1 c.len) 1
        if zeroed = 0 then s else
        let own := s.strOwner n
        let s := s.setStrm n fun x => { x with play := some { c with zeroed := c.zeroed + zeroed, under := true } }
        if c.under then s
        else (s.bump PG_AUD (R.AUD_PORT_STAT_UNDERRUNS (s.strPort n)) 1).blkRaise PG_AUD 3 own { d6 := n, d7 := zeroed }

/-- STOP of a stream (R441): the playing cue ends at the next frame, pending cues complete with CANCELLED. -/
def State.strStop (n : Nat) (s : State) : State :=
  let s := s.dropCues n CANCELLED fun _ => true
  s.setStrm n fun x => { x with stopAt := x.play.isSome }

/-- Instance reset, or the device leaving RUN and SERVICE (R446). -/
def State.strCancel (n : Nat) (s : State) : State :=
  let s := s.dropCues n CANCELLED fun _ => true
  s.setStrm n fun x => { x with stopAt := x.play.isSome }

/-- A stream stops at once and sends zeros: link loss (R19), hand-over (R341), block stop. -/
def State.strKill (n code : Nat) (s : State) : State :=
  let s := s.dropCues n code fun _ => true
  match (s.strm n).play with
  | some c => s.cueOver n (s.played n c)
  | none => s.setStrm n fun x => { x with stopAt := false }

/-! Ports and generators. -/

/-- A timed cue whose START has passed starts late (R441, R446). -/
def Cue.passed (now : Nat) (c : Cue) : Cue := if c.timed && decide (c.start ≤ now) then { c with late := true } else c

/-- A port's clock is good (R439): cues that fell due without it start late (R446). -/
def State.clockLock (p : Nat) (s : State) : State :=
  let st := s.tdmSt p
  if st != tLOCKING && st != tNO_CLOCK then s
  else
    let s := forNat 16 (fun n s => if s.strPort n != p then s
      else s.setStrm n fun x => { x with
        pend := x.pend.map (Cue.passed (s.localTime (islandOf PG_AUD)))
        play := x.play.map fun c => { c with begun := c.begun + (s.walltime - fget s.walltime s.tdmLost p) } }) s
    let s := { s with tdmLost := fdel s.tdmLost p }.sf PG_AUD (R.AUD_PORT_STATUS_STATE p) tRUN
    if st = tNO_CLOCK then s.raise PG_AUD 4 { d6 := p, d7 := tRUN } else s

/-- A port loses FSYNC (R439). -/
def State.clockLost (p : Nat) (s : State) : State :=
  let st := s.tdmSt p
  if (st != tRUN && st != tLOCKING) || !s.tf PG_AUD (R.AUD_PORT_CFG_TARGET p) then s
  else
    let s := { s with tdmLost := fset s.tdmLost p s.walltime }.sf PG_AUD (R.AUD_PORT_STATUS_STATE p) tNO_CLOCK
    if st = tRUN then s.raise PG_AUD 4 { d6 := p, d7 := tNO_CLOCK } else s

/-- Modes in which generators play (R444). -/
def State.alarmMode (s : State) : Bool := s.mode != ENUMERATE && s.mode != FALLBACK

/-- A generator starts at phase 0, in its on-time (R444). -/
def State.alarmStart (g : Nat) (s : State) : State :=
  if !s.tf PG_AUD (R.ALM_CTRL_EN g) || !s.alarmMode || fhas s.alarms g ||
      s.tdmSt (s.gf PG_AUD (R.ALM_CTRL_PORT g)) != tRUN then s
  else { s with alarms := fset s.alarms g { on := true, at_ := s.walltime } }.duckAll

/-- An on-time or off-time of a generator ends (R444). -/
def State.alarmStep (g : Nat) (s : State) : State :=
  if !fhas s.alarms g || s.gf PG_AUD (R.ALM_PATTERN_OFF_MS g) = 0 then s
  else { s with alarms := fmod {} s.alarms g fun x => { on := !x.on, at_ := s.walltime } }.duckAll

/-- Generators fall silent where EN is 0 or the mode does not let them play. -/
def State.alarmCheck (s : State) : State :=
  { s with alarms := s.alarms.filter fun (p : Nat × Alarm) => s.tf PG_AUD (R.ALM_CTRL_EN p.1) && s.alarmMode }.duckAll

/-- The port's slot sample (R442): the saturated sum of parts in 32-bit full scale, rounded half up to `w` bits, and whether it
saturated. -/
def slotMix (parts : List Int) (w : Nat) : Int × Bool :=
  let sum := parts.foldl (· + ·) 0
  let sat := max (-2147483648) (min 2147483647 sum)
  let top : Int := 2 ^ (w - 1) - 1
  let r := if w = 32 then sat else (sat + 2 ^ (31 - w)) / 2 ^ (32 - w)
  (min r top, sat != sum || decide (top < r))

/-! Commits of the AUD page (R438, R444). -/

/-- Whether port `p`, or its clocks, are out of range in the shadow (R438). -/
def State.portBad (s : State) (p : Nat) : Bool :=
  let w := s.sgf PG_AUD (R.AUD_PORT_CFG_WIDTH p)
  let r := s.sgf PG_AUD (R.AUD_PORT_CFG_RATE p)
  let m := s.sgf PG_AUD (R.AUD_PORT_CFG_MCLK p)
  w = 3 || 10 < r || m = 3 || 49152000 < audioHz r * 8 * audioWidth w ||
    49152000 < audioHz r * (if m = 1 then 256 else if m = 2 then 512 else 0)

def State.audBad (s : State) : Bool :=
  (List.range 2).any s.portBad || (List.range 16).any (fun n => s.sgf PG_AUD (R.AUD_STR_CFG_FMT n) = 3) ||
  (List.range 4).any fun g =>
    let f := s.sgf PG_AUD (R.ALM_TONE_FREQ_HZ g)
    f < 100 || 8000 < f || s.sgf PG_AUD (R.ALM_PATTERN_ON_MS g) = 0

/-- A port follows its configuration: off, clocked by itself, or locking to its input (R439). -/
def State.portFollow (p : Nat) (fresh : Bool) (s : State) : State :=
  let st := if !s.tf PG_AUD (R.AUD_PORT_CFG_EN p) then tOFF
    else if !s.tf PG_AUD (R.AUD_PORT_CFG_TARGET p) then tRUN
    else if fresh || s.tdmSt p = tOFF then tLOCKING else s.tdmSt p
  let s := if st = tNO_CLOCK then s else { s with tdmLost := fdel s.tdmLost p }
  s.sf PG_AUD (R.AUD_PORT_STATUS_STATE p) st

/-- After a commit of the AUD page; `cfgs` are the ports' configurations before it. -/
def State.audAfter (cfgs : List Word) (s : State) : State :=
  let s := forNat 2 (fun p s =>
    s.portFollow p (cfgs.getD p 0#32 != s.rd (pageBase PG_AUD + 0x40 + 0x10 * p))) s
  s.alarmCheck

/-- The AUD block stops or initialises (R61). -/
def State.audFresh (s : State) : State :=
  let s := forNat 16 (fun n s => s.strKill n CANCELLED) s
  let s := forNat 2 (fun p s => s.sf PG_AUD (R.AUD_PORT_STATUS_STATE p) tOFF) s
  { s with alarms := [], strs := [], tdmLost := [] }

/-- The die-to-die link goes down (R19): streams stop; generators play on. -/
def State.audLinkDown (s : State) : State := forNat 16 (fun n s => s.strKill n LINK_ERROR) s

end Sys2Proof.Machine
end

