-- ==== Sys2Proof/Machine/Console.lean ====
section
/-! DEFINITION. What reaches the whole console at once: an instance that leaves ACTIVE or SUSPENDED (R426, R446), the mode
leaving RUN and SERVICE (R427, R446), and the die-to-die link (R19). -/

namespace Sys2Proof.Machine

open Sys2Proof

/-- The electrode groups of instance `i` change owner when it leaves ACTIVE or SUSPENDED (R426). -/
def State.touchInst (i : Nat) (s : State) : State :=
  forNat 8 (fun g s => if s.ent i 7 g 1 = 1 && !s.tf PG_TCH (R.TCH_GRP_OWN_WORLD g) then s.groupChange g else s) s

/-- What the reset of instance `i` does to the console (R426, R434, R446). -/
def State.consoleInst (i : Nat) (s : State) : State :=
  let s := s.touchInst i
  let s := forNat 4 (fun n s => if s.ent i 7 (8 + n) 1 = 1 && !(s.hapOwner n).1 then s.hapCancel n else s) s
  forNat 16 (fun n s => if s.ent i 7 (16 + n) 1 = 1 && !(s.strOwner n).1 then s.strCancel n else s) s

/-- The device leaves RUN and SERVICE (R427, R446). -/
def State.consoleMode (s : State) : State :=
  let s := forNat 4 (fun n s => s.hapCancel n) s
  let s := forNat 16 (fun n s => s.strCancel n) s
  s.scanCheck.alarmCheck

/-- The die-to-die link goes down (R19). -/
def State.consoleLinkDown (s : State) : State := s.hapLinkDown.audLinkDown

end Sys2Proof.Machine
end

