-- ==== Sys2Proof/Machine/Tenants.lean ====
section
/-! DEFINITION. Instances (R302), reservations and their withdrawal (R309 to R311), instance reset (R312 to R314), and real-time
capacity (R363, R364). -/

namespace Sys2Proof.Machine

open Sys2Proof

/-- RES_MBPS of an instance. -/
def State.resMbps (s : State) (i : Nat) : Nat := s.ent i 5 0 18
/-- Sum of the held instance reservations (INST_RES_TOTAL). -/
def State.resTotal (s : State) : Nat := (s.insts.filter fun p => p.2.holds).foldl (fun n p => n + s.resMbps p.1) 0
def State.capMbps (s : State) : Nat := s.gf PG_INST R.INST_CAPACITY_MBPS
def State.c0Res (s : State) : Nat := s.gf PG_INST R.INST_C0_RES_MBPS
/-- Free capacity (R309). -/
def State.freeCap (s : State) : Nat := s.capMbps - s.c0Res - s.resTotal
def State.shed (s : State) (i : Nat) : Bool := s.ent i 0 4 1 = 1

/-- An INST_NOTE record (R320): kind 0 state change, 1 withdrawn, 2 restored. -/
def State.instNote (i old new kind status : Nat) (s : State) : State :=
  s.emit PG_INST 0x0521 { status, d6 := old + new * 256 + kind * 65536, d7 := s.resMbps i, inst := some i }

/-- The state of an instance changes; the record is written from the state that was (R302, R320). -/
def State.setInstState (i new status : Nat) (s : State) : State :=
  (s.instNote i (s.instState i) new 0 status).setEnt i 0 0 3 new

/-- The heads on which an instance has a plane or a window. -/
def State.instHeads (s : State) (i : Nat) : List Nat :=
  (List.range 8).filter fun h => s.grantsHead i h || !(s.windows i h).isEmpty

/-- The heads on which an instance's vacated fill stands or is to come. -/
def State.vacHeads (s : State) (i : Nat) : List Nat :=
  (List.range 8).filter fun h => (fget [] s.vacated h).contains i || (fget [] s.vacate h).contains i

/-- Vacated fill over the windows that an instance has on a head when it comes, with its planes out of the picture (R310, R312). -/
def State.showVacated (h i : Nat) (s : State) : State :=
  let rects := if (fget [] s.vacated h).contains i then fget [] s.vacRects (256 * h + i) else s.windows i h
  { s with vacated := fmod [] s.vacated h fun v => nadd v i, vacRects := fset s.vacRects (256 * h + i) rects }.setEnt i 0 3 1 1
/-- Vacated fill removed on a head; VACATED reads 0 once no head shows it. -/
def State.hideVacated (h i : Nat) (s : State) : State :=
  let v := fmod [] s.vacated h fun v => ndel v i
  { s with vacated := v, vacRects := fdel s.vacRects (256 * h + i) }.setEnt i 0 3 1 (if v.any fun p => p.2.contains i then 1 else 0)

/-- The planes of an instance on a head are disabled and unbound (R312 step 8). -/
def State.unbindInst (h i : Nat) (s : State) : State :=
  forNat 14 (fun p s => if s.granted i h p then s.unbindPlane h p else s) s

/-- An instance's windows on a head are vacated at the head's next vertical blank; a head in IDLE has none and shows it at once
(DEDUCED, log entry 8).  A shed instance keeps its planes bound (R311). -/
def State.vacateOn (h i : Nat) (s : State) : State :=
  if s.headSt h = hIDLE then ((if s.shed i then s else s.unbindInst h i)).showVacated h i
  else { s with vacate := fmod [] s.vacate h fun v => nadd v i, unvacate := fmod [] s.unvacate h fun v => ndel v i }
def State.unvacateOn (h i : Nat) (s : State) : State :=
  if s.headSt h = hIDLE then s.hideVacated h i
  else { s with unvacate := fmod [] s.unvacate h fun v => nadd v i, vacate := fmod [] s.vacate h fun v => ndel v i }
def State.vacateAll (i : Nat) (s : State) : State := forEach (s.instHeads i) (fun h s => s.vacateOn h i) s
def State.unvacateAll (i : Nat) (s : State) : State := forEach (s.vacHeads i) (fun h s => s.unvacateOn h i) s

/-- INST_RES_TOTAL shows the sum of held reservations. -/
def State.showRes (s : State) : State := s.sf PG_INST R.INST_RES_TOTAL_MBPS s.resTotal

/-- SHED of an instance and its bit of INST_SHED_MAP. -/
def State.setShed (i : Nat) (b : Bool) (s : State) : State :=
  (s.setEnt i 0 4 1 (if b then 1 else 0)).sf PG_INST (R.INST_SHED_MAP_MAP (i / 32))
    (setBit (s.gf PG_INST (R.INST_SHED_MAP_MAP (i / 32))) (i % 32) b)

/-- A reservation is withdrawn (R310). -/
def State.withdraw (i : Nat) (s : State) : State :=
  let s := ((s.setInst i fun x => { x with holds := false, fitSince := none }).setShed i true).showRes
  let s := s.instNote i (s.instState i) (s.instState i) 1 WITHDRAWN
  let s := s.raise PG_INST 5 { status := WITHDRAWN, d6 := i, d7 := s.resMbps i, inst := some i }
  s.vacateAll i

/-- A withdrawn reservation is restored (R311). -/
def State.restore (i : Nat) (s : State) : State :=
  let s := ((s.setInst i fun x => { x with holds := true, fitSince := none }).setShed i false).showRes
  let s := s.instNote i (s.instState i) (s.instState i) 2 OK
  let s := s.raise PG_INST 6 { d6 := i, d7 := s.resMbps i, inst := some i }
  s.unvacateAll i

/-- Instances of a class, in ascending number. -/
def State.ofClass (s : State) (c : Nat) : List Nat := s.openInsts.filter fun i => s.ent i 0 8 2 = c

/-- Reservations are withdrawn until the sum fits: C3 first, within a class descending instance number (R310). -/
def State.withdrawLoop (s : State) : State :=
  forEach ([3, 2, 1].flatMap fun c => (s.ofClass c).reverse)
    (fun i s => if (s.inst i).holds && s.capMbps < s.c0Res + s.resTotal then s.withdraw i else s) s

/-- Since when the free capacity has covered each withdrawn reservation (R311). -/
def State.refreshFit (s : State) : State :=
  forEach s.openInsts (fun i s =>
    if s.shed i then
      s.setInst i fun x => { x with fitSince := if s.resMbps i ≤ s.freeCap then (x.fitSince <|> some s.walltime) else none }
    else s) s

/-- The capacity takes effect at set point `sp` (R363, R364): both registers, CAPACITY_CHANGED, withdrawal and restore timers. -/
def State.capTo (sp : Nat) (s : State) : State :=
  let old := s.gf 14 R.MEM_RT_CAP_MBPS
  let new := s.capacityAt sp
  if new = old then s
  else
    let s := (s.sf 14 R.MEM_RT_CAP_MBPS new).sf PG_INST R.INST_CAPACITY_MBPS new
    ((s.raise 14 6 { d6 := old, d7 := new }).withdrawLoop).refreshFit
def State.capUpdate (s : State) : State :=
  let cur := s.gf 14 R.MEM_FREQ_CURRENT
  s.capTo (if s.tf 14 R.MEM_FREQ_BUSY then max cur (fget ({} : MemGrp) s.mem 0).reqSp else cur)

/-! Calls to the Gatehouse that a list makes (R333 to R336). -/

/-- A call ends: its slot is released and no reply is taken (R333). -/
def State.closeCall (rid : Nat) (s : State) : State := { s with calls := fmod {} s.calls rid fun c => { c with open_ := false } }

/-- A list is cancelled at its present command with CANCELLED (R39, R312); notes not yet delivered are dropped. -/
def State.cancelList (q : Nat) (s : State) : State :=
  let l := s.lr q
  if l.st = .idle then s
  else
    let s := match l.wait with | .call rid => s.closeCall rid | _ => s
    s.listEnd q CANCELLED l.here

/-- The lists still queued in a ring are dropped (R123): HEAD meets TAIL, so that none of them is ever run.  The manual does not say where
the ring stands then (DESIGN CHOICE, log entry 150). -/
def State.emptyRing (q : Nat) (s : State) : State := s.setWin (q / 4) (0x24 + 8 * (q % 4)) (s.win (q / 4) (0x20 + 8 * (q % 4)))

/-- The work of an instance is cancelled (R123, R312 steps 2 to 5): lists, plane changes, commands in progress. -/
def State.cancelInst (i : Nat) (s : State) : State :=
  let s := forNat 4 (fun r s => (s.cancelList (4 * i + r)).emptyRing (4 * i + r)) s
  let s := forNat 8 (fun h s => forNat 14 (fun p s =>
    if s.granted i h p then s.setPlane h p fun x => { x with
      com := x.act, stg := none, held := x.held.filter fun f => f.owner != i, queue := [] } else s) s) s
  { s with cmds := s.cmds.filter fun p => !(qInst p.2.q == some i) }

/-- The SDT entries of an instance move as R123 and R92 give. -/
def State.dropSurfs (i : Nat) (s : State) : State :=
  forEach (s.sdt.map (·.1)) (fun k s =>
    let e := s.surf k
    if e.secure || e.inst != i then s
    else if e.state = sALLOCATED then s.freeSurf k
    else if e.state = sLIVE then s.setSurf k fun e => { e with state := sRETIRING, retCmd := none }
    else if e.state = sRETIRING then s.setSurf k fun e => { e with retCmd := none }
    else s) s

/-- The migration copy in progress ends with `code` (R320 to R322). -/
def State.migEnd (code : Nat) (s : State) : State :=
  if !s.tf PG_DMA R.MIG_STATUS_BUSY then s
  else
    let i := s.mig.inst
    let s := ((s.sf PG_DMA R.MIG_STATUS_BUSY 0).sf PG_DMA R.MIG_STATUS_RESULT code).raise PG_DMA 0
      { status := code, d6 := i, d7 := s.mig.mode, inst := some i }
    if code = OK then s else s.err PG_DMA code

/-- An EXPORT ends having written `n` bytes; an IMPORT ends (R318). -/
def State.exportEnd (i code n : Nat) (s : State) : State :=
  let s := (s.setInst i fun x => { x with exporting := false }).raise PG_INST 3 { status := code, d6 := i, d7 := n, inst := some i }
  if code = OK then s else s.err PG_INST code
def State.importEnd (i code : Nat) (s : State) : State :=
  let s := (s.setInst i fun x => { x with importing := false }).raise PG_INST 4 { status := code, d6 := i, inst := some i }
  if code = OK then s else s.err PG_INST code

/-- A migration copy in progress for the instance, and its EXPORT or IMPORT, end with CANCELLED (R314, R322). -/
def State.cancelMig (i : Nat) (s : State) : State :=
  let s := if s.mig.inst = i then s.migEnd CANCELLED else s
  let s := if (s.inst i).exporting then s.exportEnd i CANCELLED 0 else s
  if (s.inst i).importing then s.importEnd i CANCELLED else s

/-- What RESET and entry to FAULTED do (R302, R312): the state, the cancellations, and the vacate of its windows. -/
def State.resetInstTo (i new status : Nat) (s : State) : State :=
  let s := s.instNote i (s.instState i) new 0 status
  let s := (s.cancelInst i).setEnt i 0 0 3 new
  let s := (s.dropSurfs i).cancelMig i
  let s := { s with fences := s.fences.filter fun p => p.1 / 32 != i }
  let s := (s.setInst i fun x => { x with
    resetAt := s.walltime, suspending := false, holds := false, fitSince := none
    cndDeficit := 0, dmaDeficit := 0 }).setShed i false
  ((s.showRes.vacateAll i).consoleInst i).refreshFit

/-- An instance enters FAULTED (R302). -/
def State.faultInst (i code : Nat) (s : State) : State :=
  if s.instState i = iACTIVE then
    (s.resetInstTo i iFAULTED code).raise PG_INST 1 { status := code, d6 := i, d7 := code, inst := some i }
  else s

/-- A request of an instance to host memory that failed or could not be issued (R293): DMA_HOST_ERROR. -/
def State.dmaHostError (inst : Option Nat) (a code : Nat) (s : State) : State :=
  (s.raise PG_PCI 3 { status := code, d6 := a, d7 := a / 4294967296, inst }).err PG_PCI code

/-- What is settled at the end of a command (R97, R293, R302, R315, R325, R355).  No requester code is listed for an access of a dirty
bitmap, of Plaza, the Arcade or an audio cue: there it is a free value (log entry 151). -/
def State.settleOne (x : Deferred) (s : State) : State :=
  match x with
  | .ring i a => (s.dmaHostError (some i) a NO_RIGHT).faultInst i NO_RIGHT
  | .log i a =>
    let s := s.setEnt i 56 17 1 1
    ((s.raise PG_INST 8 { d6 := i, d7 := 1, inst := some i }).dmaHostError (some i) a NO_RIGHT).faultInst i NO_RIGHT
  | .logFull i => s.raise PG_INST 8 { d6 := i, d7 := 0, inst := some i }
  | .blocked (some code) inst a => s.wmViolation { code, inst } a
  | .blocked none inst a => s.useFree.wmViolation { code := s.free.toNat % 16, inst } a
  | .beyond a n => s.capErrors a n
  | .landed id => s.cmdLanded id

/-- At the end of every command: the deferred effects, twice over since their own records may add to them. -/
def State.settle (s : State) : State :=
  let s := forEach s.deferred State.settleOne { s with deferred := [] }
  let s := forEach s.deferred State.settleOne { s with deferred := [] }
  { s with deferred := [] }

/-- The end of a command that began in state `s0` and has brought about `s`: the deferred effects come, and the queue is as the step
left it. -/
def State.ends (s0 s : State) : State := { s.settle with pending := s0.pending }

/-- The same for a command that leaves the unit out of reset. -/
def State.done (s0 s : State) : State := { s0.ends s with rstHold := [] }

/-- The next state of a command at WALLTIME `t` with effect `f`.  While the unit is held in reset it finds nothing to act on, and
it puts nothing into reset (R489). -/
def nxt (t : Time) (f : State → State) (s : State) : Host.Outcome State Fault Refusal :=
  .next (if s.rstHold.isEmpty then s.done (f (s.atTime t)) else s.atTime t)

/-- The next state of a command that acts while the unit is held in reset too: RESET_N, the supplies, the thermal trip (R489).  `hold`
is what holds the unit in reset from then on; the effect `f` sees the state before and the one in which that holds. -/
def nxtReset (t : Time) (hold : State → List Nat) (f : State → State → State) (s : State) : Host.Outcome State Fault Refusal :=
  let u := s.atTime t
  .next { s.ends (f u { u with rstHold := hold u }) with rstHold := hold u }

end Sys2Proof.Machine
end

