-- ==== Sys2Proof/Machine/MemOps.lean ====
section
/-! DEFINITION. The memory controller beside single accesses (chapters 11 and 12): set points, service, QUIESCE, range passes. -/

namespace Sys2Proof.Machine

open Sys2Proof

def State.mgrp (s : State) (g : Nat) : MemGrp := fget {} s.mem g
def State.setMgrp (g : Nat) (f : MemGrp → MemGrp) (s : State) : State := { s with mem := fmod {} s.mem g f }
def State.sweepOf (s : State) (g : Nat) : Sweep := fget {} s.sweep g
def State.setSweep (g : Nat) (f : Sweep → Sweep) (s : State) : State := { s with sweep := fmod {} s.sweep g f }

/-- A field that both MEM pages, or both SWEEP pages, show ("unit"). -/
def State.sfUnit (f : Fld) (v : Nat) (s : State) : State := (s.sf 14 f v).sf 15 f v

/-- Whether either group is in SERVICE or TEST (R374). -/
def State.memBusy (s : State) : Bool := s.inService 14 || s.inService 15

/-! Range passes (R397, R398). -/

/-- The summary and the end of a range pass: RANGE_DONE (R398). -/
def State.rangeEnd (code : Nat) (s : State) : State :=
  if !s.tf 16 R.RNG_STATUS_BUSY then s
  else
    let us := (s.walltime - s.range.startAt) / 1000
    let sec := s.tf 16 R.RNG_STATUS_SECURE
    let s := ((s.sf 16 R.RNG_STATUS_BUSY 0).sf 16 R.RNG_STATUS_RESULT code).sf 16 R.RNG_TIME_US_US (min us 4294967295)
    let s := { s with memRetry := s.memRetry.filter fun x => x.req != MemReq.range }
    let s := s.raise 16 5 { status := code, d6 := s.gf 16 R.RNG_CORR_WORDS, d7 := s.gf 16 R.RNG_UNCORR_LASTING, secret := sec }
    if code = OK then s else s.err 16 code

/-! Sweepers (R394). -/

/-- A Sweeper runs (R394, R378). -/
def State.sweeping (s : State) (g : Nat) : Bool :=
  s.tf (pgSwp g) R.SWP_CTRL_EN && s.pstate (pgSwp g) = pRUN && s.pstate (pgMem g) = pRUN && !s.tf (pgMem g) R.MEM_STATUS_SELF_REFRESH &&
    s.capBytes != 0

/-- A new lap from the group's first block. -/
def State.newLap (g : Nat) (s : State) : State :=
  (s.s64 (pgSwp g) R.SWP_POS_LO_ADDR R.SWP_POS_HI_ADDR (128 * g)).setSweep g fun _ => { lapAt := s.localTime (5 + g), slow := false }

/-! Pages of the page-valid bitmap. -/

/-- Every bit is cleared (R392). -/
def State.clearAllPages (s : State) : State :=
  { s with validPg := [], dram := [], poison := [], wbuf := [], wwait := [], fills := [] }.landed s.wwait

/-- Segments of R377 that hold an address below the watermark. -/
def State.pasrForced (s : State) : Nat :=
  (List.range 8).foldl (fun m k => if k * s.capBytes / 8 < s.wmDram then m + 2 ^ k else m) 0
/-- Whether a page lies in a retained segment (R377). -/
def State.retained (s : State) (n : Nat) : Bool :=
  s.capBytes != 0 && bit (s.gf 14 R.MEM_PASR_KEEP ||| s.pasrForced) (n * 4096 * 8 / s.capBytes)

/-- Pages outside the retained segments lose their valid bits (R40). -/
def State.dropUnretained (s : State) : State :=
  { s with
    validPg := s.validPg.filter fun n => s.retained n
    dram := s.dram.filter fun c => s.retained (dpageOf c.1)
    poison := s.poison.filter fun a => s.retained (dpageOf a)
    wbuf := s.wbuf.filter fun e => s.retained (e.1 / 32)
    fills := s.fills.filter fun f => s.retained f.page }

/-! Set points (R369 to R373). -/

/-- A switch to a VALID set point begins (R372, R364): a fall of capacity takes effect now. -/
def State.freqStart (sp : Nat) (s : State) : State :=
  let s := s.sfUnit R.MEM_FREQ_BUSY 1
  (s.setMgrp 0 fun x => { x with reqSp := sp }).capUpdate

/-- A request for a set point is carried out (R371): a switch, with full training where it is not VALID; nothing for the present one. -/
def State.freqGo (sp : Nat) (s : State) : State :=
  let s := s.sfUnit R.MEM_FREQ_PENDING 0
  if sp = s.gf 14 R.MEM_FREQ_CURRENT then s.sfUnit R.MEM_FREQ_RESULT OK
  else if bit (s.gf 14 R.MEM_FREQ_VALID) sp then s.freqStart sp
  else (s.freqStart sp).sfUnit R.MEM_STATUS_TRAINING 1

/-- CURRENT takes a set point, and with it the clocks of both MEM islands their period (R21). -/
def State.setPoint (sp : Nat) (s : State) : State := s.rePeriod 5 fun s => s.rePeriod 6 fun s => s.sfUnit R.MEM_FREQ_CURRENT sp

/-- A switch ends at set point `sp` (R372). -/
def State.freqEnd (sp : Nat) (s : State) : State :=
  let old := s.gf 14 R.MEM_FREQ_CURRENT
  let s := ((s.sfUnit R.MEM_FREQ_BUSY 0).setPoint sp).sfUnit R.MEM_FREQ_RESULT OK
  (s.raise 14 2 { d6 := old, d7 := sp }).capUpdate

/-- Full training of the requested set point failed: the previous set point stands (R373). -/
def State.freqFailed (s : State) : State :=
  (((s.sfUnit R.MEM_FREQ_BUSY 0).sfUnit R.MEM_FREQ_RESULT MEM_ERROR).err 14 MEM_ERROR).capUpdate

/-- A pending change is carried out once nothing holds it back (R371). -/
def State.freqPending (s : State) : State :=
  let busy := s.tf 14 R.MEM_STATUS_TRAINING || s.tf 15 R.MEM_STATUS_TRAINING || s.tf 14 R.MEM_FREQ_BUSY || s.mode = QUIESCE
  if s.tf 14 R.MEM_FREQ_PENDING && !busy then s.freqGo (s.mgrp 0).reqSp else s

/-! Service (R375) and self-refresh (R378). -/

/-- Entry of a group to SERVICE: its action starts, a range pass ends (R375, R398). -/
def State.memService (g : Nat) (s : State) : State :=
  let s := (s.rangeEnd CANCELLED).capUpdate
  let a := s.gf (pgMem g) R.MEM_SVC_ACTION
  if a = 2 then s.sf (pgMem g) R.MEM_SVC_PROGRESS 100
  else
    let s := (s.sf (pgMem g) R.MEM_SVC_PROGRESS 0).setMgrp g fun x => { x with svcRuns := some a }
    if a = 0 then s.sf (pgMem g) R.MEM_STATUS_TRAINING 1 else s

/-- A group leaves SERVICE: an action not ended stops, and capacity rises at once (R364). -/
def State.memServiceEnd (g : Nat) (s : State) : State :=
  let run := (s.mgrp g).svcRuns == some 0
  let s := s.setMgrp g fun x => { x with svcRuns := none }
  let s := if run then s.sf (pgMem g) R.MEM_STATUS_TRAINING 0 else s
  s.capUpdate.freqPending

/-- Devices enter self-refresh: refresh, retraining steps and the Sweepers stop (R378). -/
def State.selfRefresh (s : State) : State :=
  forNat 2 (fun g s =>
    (s.sf (pgMem g) R.MEM_STATUS_SELF_REFRESH 1).setMgrp g fun x => { x with
      owed := [], pulled := [], forced := false, stepDue := false, stepForced := false, stepRuns := false
      refAt := none, outAt := none, mr4At := none, stepLast := none }) s
/-- They leave it (R378, R40). -/
def State.leaveRefresh (s : State) : State :=
  (forNat 2 (fun g s => s.sf (pgMem g) R.MEM_STATUS_SELF_REFRESH 0) s).dropUnretained.freqPending

end Sys2Proof.Machine
end

