-- ==== Sys2Proof/Machine/PageOps.lean ====
section
/-! DEFINITION. Device modes (R32 to R42, R241), page states (R61, R62), the spares of slices and Conductors (R160 to R163, R462 to
R464), and SRAM macros (R453 to R455). -/

namespace Sys2Proof.Machine

open Sys2Proof

/-! Modes. -/

/-- A transition ends: the mode, SYS_MODE_TIME, MODE_ENTERED (R34).  The traffic generator stops on any mode change (R458). -/
def State.modeEnter (new : Nat) (s : State) : State :=
  let old := s.mode
  let s := (s.sf PG_SYS R.SYS_STATE_MODE new).s64 PG_SYS R.SYS_MODE_TIME_LO_TIME R.SYS_MODE_TIME_HI_TIME (s.localTime 1)
  let s := ((s.sf PG_SYS R.SYS_STATE_TRANSITION 0).sf PG_BIST R.BIST_TG_CTRL_EN 0).raise PG_SYS 0 { d6 := old, d7 := new }
  if new = CONFIGURE then s.timeRejoin else s

/-- Whether R18 keeps companion page `p` in FAULT: the die-to-die link is down and a retraining has failed. -/
def State.linkFault (s : State) (p : Nat) : Bool := companionPage p && s.d2dFailed && !s.tf PG_SYS R.SYS_D2D_STATUS_LINK_UP
/-- The state that R18 alone hides behind FAULT, if it does. -/
def State.r18State (s : State) (p : Nat) : Option Nat := (s.onlyR18.find? fun x => x.1 == p).map (·.2)
/-- A companion page keeps reading FAULT with LINK_ERROR whatever it is told (R18). -/
def State.r18Hold (p : Nat) (s : State) : State :=
  { s.sf p R.PAGE_STATE_REASON LINK_ERROR with onlyR18 := if fhas s.onlyR18 p then s.onlyR18 else fset s.onlyR18 p pFAULT }

/-- SERVICE_COUNT counts the pages in SERVICE or TEST, and MODE follows it (R34, R42), but not while QUIESCE is being entered.  A page
that R18 took from there counts on, so that MODE does not change (DEDUCED, log entry 17). -/
def State.serviceCount (s : State) : State :=
  let n := (allPages.filter fun p => s.inService p || s.r18State p = some pSERVICE || s.r18State p = some pTEST).length
  let s := s.sf PG_SYS R.SYS_STATE_SERVICE_COUNT n
  if s.quiescing then s
  else if s.mode = RUNMODE && n != 0 then s.modeEnter SERVICEMODE
  else if s.mode = SERVICEMODE && n = 0 then s.modeEnter RUNMODE else s

/-- Every head follows the device mode. -/
def State.headsEval (s : State) : State := forNat 8 (fun h s => s.headEval h) s

/-! SRAM macros (R453). -/

/-- Macros that a page's block uses (R453); the Arcade's are not among them, for they stop no page. -/
def pageMacros (p : Nat) : List Nat :=
  if 40 ≤ p && p ≤ 47 then [96 + 3 * (p - 40), 97 + 3 * (p - 40), 98 + 3 * (p - 40)]
  else if p = 14 || p = 15 then [120, 121, 122, 123]
  else if p = PG_SYS then [124]
  else if p = PG_INST then [125]
  else if 2 ≤ p && p ≤ 10 then [126 + (p - 2)]
  else if 33 ≤ p && p ≤ 37 then [135 + (p - 33)]
  else if p = PG_SEC then [140, 141, 142, 143, 144, 145]
  else []

def State.macro (s : State) (m : Nat) : Macro := fget {} s.macros m
/-- Unrepairable macros among those of a list. -/
def State.badMacros (s : State) (ms : List Nat) : List Nat := ms.filter fun m => (s.macro m).bad

/-! Slices (R160, R161). -/

/-- A slice has entered FAULT (R160, R161). -/
def State.sliceFaulted (n : Nat) (s : State) : State :=
  let act := s.slcRole n = 0
  let s := s.sf (pgSlc n) R.SLC_ROLE_ROLE 2
  let s := if act then s.checkCapacityLow else s
  if act && s.tf PG_PLAZA R.PLZ_CTRL_AUTO_SUBST && s.spareSlice.isSome then s.substWait n false else s

/-! Conductors (R462 to R464). -/

def cndRoleFld (c : Nat) : Fld := ⟨0x90, 2 * c, 2⟩
def State.cndRole (s : State) (c : Nat) : Nat := s.gf PG_BIST (cndRoleFld c)
/-- A SPARE Conductor in RUN (R463, R464); of several the lowest (DESIGN CHOICE, log entry 141). -/
def State.spareCnd (s : State) : Option Nat := (List.range 9).find? fun c => s.cndRole c = 1 && s.pstate (pgCnd c) = pRUN
/-- The rings whose lists Conductor `c` holds. -/
def State.cndLists (s : State) (c : Nat) : List Nat := (s.lists.filter fun p => p.2.st != .idle && p.2.cnd == c).map (·.1)

/-- The lists of a Conductor halt with `code` at their commands; the rings go on with their next lists (R464). -/
def State.haltAll (c code : Nat) (s : State) : State :=
  forEach (s.cndLists c) (fun q s => s.haltList q (s.lr q).here code 1) s

/-- A substitution of Conductors has completed (R463, R464). -/
def State.cndSubstituted (old new : Nat) (s : State) : State :=
  ((s.sf PG_BIST (cndRoleFld old) 2).sf PG_BIST (cndRoleFld new) 0).raise PG_BIST 3 { d6 := old, d7 := new }

/-- A Conductor has entered FAULT (R464): a spare in RUN takes its role at once. -/
def State.cndFaulted (c : Nat) (s : State) : State :=
  let act := s.cndRole c = 0
  let s := s.haltAll c MEM_ERROR
  -- a substitution that waited for this Conductor's lists ends: they have all halted
  let s := match s.cndSubst with
    | some (o, _) => if o = c then { s with cndSubst := none }.sf PG_BIST R.BIST_CND_SUBST_PENDING 0 else s
    | none => s
  match s.spareCnd with
  | some n => if act then s.cndSubstituted c n else s.sf PG_BIST (cndRoleFld c) 2
  | none => s.sf PG_BIST (cndRoleFld c) 2

/-- The lists of a Conductor that stops otherwise are cancelled (R74). -/
def State.cndStopped (c : Nat) (s : State) : State := forEach (s.cndLists c) (fun q s => s.cancelList q) s

/-- The DMA page stops: the commands of the upload engine and the migration copy end with `code` (R61, R74). -/
def State.dmaStop (code : Nat) (s : State) : State :=
  (forEach (s.cmdsWhere fun c => c.op == 0x40 || c.op == 0x41 || c.op == 0x42) (fun id s => s.cmdDone id code 0) s).migEnd code

/-! Page states (R61). -/

/-- A block enters a page state: what the chapters give beside STATE. -/
def State.enterHook (p old new : Nat) (s : State) : State :=
  let ty := pageType p
  if ty = 0x03 then
    let c := p - 2
    if new = pFAULT then s.cndFaulted c
    else if new = pOFF || new = pINIT then s.cndStopped c
    else if new = pRUN && old = pINIT && s.cndRole c = 2 then s.sf PG_BIST (cndRoleFld c) 1 else s
  else if ty = 0x07 then
    let g := p - 14
    -- reads between their two attempts end with CANCELLED (R73)
    let s := if new = pRUN || new = pFAULT then s
      else { s with memRetry := s.memRetry.map fun x => if groupOf x.blk = g then { x with cancelled := true } else x }
    let s := if old = pSERVICE then s.memServiceEnd g else s
    let s := if old = pTEST then s.clearAllPages.newLap g else s
    if new = pSERVICE then s.memService g
    else if new = pTEST then s.rangeEnd CANCELLED
    else if new = pFAULT then s.capUpdate else s
  else if ty = 0x0A then
    let n := p - 33
    let s := { s with slcLast := ndel s.slcLast n }
    if new = pFAULT then s.sliceFaulted n
    else if old = pRUN && s.slcRole n = 0 then s.checkCapacityLow
    else if new = pRUN && old = pINIT && s.slcRole n = 2 then s.sf p R.SLC_ROLE_ROLE 1 else s
  else if ty = 0x0B then
    if new = pRUN then s else forNat 8 (fun h s => s.dropTiles h fun _ _ => true) s
  else if ty = 0x0C then s.headEval (p - 40)
  else if ty = 0x0E then
    let h := p - 56
    let s := if new = pOFF then s.auxStop h CANCELLED
      else if new = pFAULT then s.auxStop h (s.gf p R.PAGE_STATE_REASON)
      else if (new = pSERVICE || new = pTEST) && (s.dp h).swErr then s.auxStop h CANCELLED else s
    let s := if new = pSERVICE || new = pTEST then s.setDp h fun x => { x with llErr := false } else s
    let s := s.headEval h
    if new = pOFF || new = pFAULT then s.linkStop h
    else if new = pRUN && s.headSt h != hIDLE then s.linkStart h else s
  else if ty = 0x16 then
    let s := if new = pSERVICE then s.touchService
      else if old = pSERVICE then { s with tch := { s.tch with held := false } } else s
    if new = pOFF then s.scanCheck.touchFresh else s.scanCheck
  else if ty = 0x17 then (if new = pOFF || new = pINIT then s.hapFresh else s)
  else if ty = 0x18 then
    (if new = pOFF || new = pINIT then s.audFresh else if new = pRUN then s.audAfter [] else s)
  else if ty = 0x0F then (if new = pRUN then s.chainRuns else s.chainStops)
  else if new = pOFF || new = pINIT || new = pFAULT then
    let code := if new = pFAULT then s.gf p R.PAGE_STATE_REASON else CANCELLED
    if ty = 0x06 then s.dmaStop code else if p = 16 then s.rangeEnd code else s
  else s

/-- The test in progress ends with `code` (R452): RESULT, TEST_DONE, and its port or macro is in use again. -/
def State.bistOver (code : Nat) (s : State) : State :=
  match s.bistRun with
  | none => s
  | some (p, u, k) =>
    -- between the two attempts of an analogue check no count changes (R73)
    let retry := s.gf PG_BIST R.BIST_STATUS_STATE = 2
    let s := ({ s with bistRun := none }.sf PG_BIST R.BIST_STATUS_BUSY 0).sf PG_BIST R.BIST_STATUS_STATE 0
    let s := (s.sf PG_BIST R.BIST_STATUS_RESULT code).raise PG_BIST 0 { status := code, d6 := p * 256 + u, d7 := k }
    let s := if k = 4 then s.portWake (u = 1) else s
    if code = OK || code = RETRIED_OK || (code = CANCELLED && retry) then s else s.err PG_BIST code

/-- Whether page `p` is the target of the test in progress. -/
def State.bistTarget (s : State) (p : Nat) : Bool := match s.bistRun with | some (p', _, _) => p' = p | none => false

/-- PAGE_STATE.STATE changes (R61): STATE_CHANGED, the request bits of R62, the block's part, the device mode. -/
def State.setPState (p new : Nat) (s : State) : State :=
  let old := s.pstate p
  if old = new then s
  else if s.linkFault p then s.r18Hold p
  else
    let s := (s.sf p R.PAGE_STATE_STATE new).raise p 29 { d6 := old, d7 := new }
    let s := if old = pSERVICE then s.sf p R.PAGE_CTRL_SERVICE_REQ 0 else if old = pTEST then s.sf p R.PAGE_CTRL_TEST_REQ 0 else s
    let s := s.enterHook p old new
    let s := if s.bistTarget p && (old = pTEST || new = pFAULT || new = pOFF) then s.bistOver CANCELLED else s
    s.serviceCount

/-- A page in RUN, SERVICE or TEST enters FAULT with REASON `code` (R61). -/
def State.faultPage (p code : Nat) (s : State) : State :=
  let st := s.pstate p
  if st = pRUN || st = pSERVICE || st = pTEST then (s.sf p R.PAGE_STATE_REASON code).setPState p pFAULT else s

/-- What an unrepairable macro does when its block leaves INIT (R453, R455). -/
def State.macroEffects (p : Nat) (s : State) : State :=
  let bad := s.badMacros (if p = PG_ARCADE then List.range 96 else pageMacros p)
  if bad.isEmpty then s
  else
    let s := forEach bad (fun m s => s.raise PG_BIST 2 { d6 := m }) s
    if p = PG_ARCADE then s
    else if p = 14 || p = 15 then (s.faultPage 14 MEM_ERROR).faultPage 15 MEM_ERROR else s.faultPage p MEM_ERROR

/-- Initialisation completes (R61): INIT to RUN, then the macros' effects. -/
def State.initDone (p : Nat) (s : State) : State :=
  if s.pstate p != pINIT then s
  else (s.setPState p pRUN).macroEffects p

/-- The shadow of a page is dropped and COMMIT_STATUS reads IDLE (R66). -/
def State.dropShadow (p : Nat) (s : State) : State :=
  let s := { s with
    shadow := s.shadow.filter fun c => !(pageBase p ≤ c.1 && c.1 < pageBase p + 0x1000)
    commitAt := fdel s.commitAt p
    plzWait := if p = PG_PLAZA then [] else s.plzWait
    plzRes := if p = PG_PLAZA then [] else s.plzRes }
  s.sf p R.COMMIT_STATUS_STATE 0

/-! The end of a commit (R64, R66). -/

/-- A commit of page `p` ends with `code`: COMMIT_STATUS, COMMIT_DONE, and for a failure the count and capture (R64, R66).  STATE
reads DIRTY while the shadow holds a value; after a refused commit given at IDLE, whose shadow equals active, it reads IDLE, as the
register says, where R66 says DIRTY (DESIGN CHOICE, log entry 140). -/
def State.commitEnd (p code : Nat) (s : State) : State :=
  let dirty := s.shadow.any fun c => pageBase p ≤ c.1 && c.1 < pageBase p + 0x1000
  let s := { s with commitAt := fdel s.commitAt p }
  let s := (s.sf p R.COMMIT_STATUS_STATE (if dirty then 1 else 0)).sf p R.COMMIT_STATUS_RESULT code
  let fr := if pageType p = 0x0C then some (s.frameCount (p - 40)) else none
  let s := s.raise p 31 { status := code, d6 := code, frame := fr }
  if code = OK then s else s.err p code

/-- The SET_REGION_AGE commands whose commit ends with its AGE page's (R219). -/
def State.regionAgesDone (p code result : Nat) (s : State) : State :=
  if pageType p != 0x0D then s
  else forEach (s.headCmds (p - 48) [0x50]) (fun id s => s.cmdDone id code result) s

/-- The shadow of a page is copied back from active; a commit that was pending is discarded with CANCELLED (R66). -/
def State.discardCommit (p : Nat) (s : State) : State :=
  let was := s.gf p R.COMMIT_STATUS_STATE = 2
  let s := s.dropShadow p
  if was then (s.commitEnd p CANCELLED).regionAgesDone p CANCELLED 0 else s

/-- A block's island state is re-initialised by a soft reset (R10): what the chapters say it clears.  Configuration fields, LOCK,
OWNER and ENABLE keep their values. -/
def State.softHook (p : Nat) (s : State) : State :=
  let ty := pageType p
  if ty = 0x09 then { s with slcSubst := s.slcSubst.filter fun x => !x.2 }.substShow
  else if ty = 0x0C then
    let h := p - 40
    ((s.goIdle h).setSync h 0 fun _ => {}).setSync h 1 fun _ => {}
  else if ty = 0x0D then s.ageSoftReset (p - 48)
  else if ty = 0x0E then (((s.auxStop (p - 56) CANCELLED).linkStop (p - 56)).sf p R.DPL_STATUS_POL_FOUND 0)
  else if ty = 0x06 then s.dmaStop CANCELLED
  else if p = 16 then s.rangeEnd CANCELLED
  else if ty = 0x16 then (if s.tf p R.TCH_STATUS_SCANNING then s.scanStop else s).touchFresh
  else if ty = 0x02 then { s with ppsLast := none }
  else if ty = 0x15 then { s with jrnGap := fdel s.jrnGap p }
  else if ty = 0x19 then { s with qspiOp := none }
  else if ty = 0x1B then { s.bistOver CANCELLED with bistFails := [], bistCount := 0 }
  else s

/-- Status bits that a soft reset keeps, beside the configuration (DEDUCED, log entry 127): what shows more than the page's own
block (the mode, the links, the images, the chain, the owners), what the block's own state still is once it has started again, what
counts from RESET_N by its own words, and RW fields whose write is a request. -/
def softKeepMask (p off : Nat) : Word :=
  let ty := pageType p
  let all : Word := BitVec.allOnes 32
  let keep (b : Bool) : Word := if b then all else 0#32
  if off < 0x40 then all
  else if ty = 0x01 then
    (if off = 0x40 || off = 0x48 then all else if off = 0x44 then 0x10007#32 else if off = 0x58 then 1#32 else 0#32)
  else if ty = 0x02 then (if off = 0x40 then 7#32 else 0#32)
  else if ty = 0x04 then keep (off = 0x40)
  else if ty = 0x05 then keep (off != 0x4C)
  else if ty = 0x07 then (if off = 0x58 then 0#32 else keep (off < 0x68))
  else if ty = 0x09 then (if off = 0x44 then all else if off = 0x4C then 0x200#32 else 0#32)
  else if ty = 0x0A then keep (off = 0x40)
  else if ty = 0x0C then (if off = 0x54 then 2#32 else keep (off = 0x44 || off = 0x60 || off = 0x64))
  else if ty = 0x0E then keep (0x4C ≤ off && off < 0x60)
  else if ty = 0x0F then keep (off != 0x78 && off != 0xC0 && off != 0xC4)
  else if ty = 0x10 then (if off = 0x74 then 1#32 else 0#32)
  else if ty = 0x12 then keep (off = 0x4C)
  else if ty = 0x14 then keep (off = 0x48 || (0x80 ≤ off && off < 0x90))
  else if ty = 0x15 then (if off = 0x48 then 1#32 else keep (off = 0x50))
  else if ty = 0x16 then keep (0x80 ≤ off && off < 0xA0)
  else if ty = 0x17 then keep (off < 0x100 && (off % 0x20 = 0x10 || off % 0x20 = 0x14))
  else if ty = 0x18 then keep (0x100 ≤ off && off < 0x200 && off % 0x10 = 0xC)
  else if ty = 0x19 then keep (off = 0x44)
  else if ty = 0x1A then (if off = 0x40 then 0x7E00#32 else if 0x80 ≤ off && off < 0x100 then 0xFF00#32 else 0#32)
  else if ty = 0x1B then (if off = 0x94 then 0x200#32 else keep (off = 0x90))
  else 0#32

/-- Bits of a register that hold configuration. -/
def cfgMask (p off : Nat) : Word :=
  if off = 0x18 then BitVec.allOnes 32
  else match findRow (pageRows p) off with
    | some r => BitVec.ofNat 32 (r.rw ||| r.rws ||| r.rwl)
    | none => 0#32

/-- The status fields of a page take their reset values (R10). -/
def State.softRegs (p : Nat) (s : State) : State :=
  { s with regs := s.regs.map fun (c : Nat × Word) =>
      if pageBase p ≤ c.1 && c.1 < pageBase p + 0x1000 then
        let k := cfgMask p (c.1 - pageBase p) ||| softKeepMask p (c.1 - pageBase p)
        (c.1, (c.2 &&& k) ||| (resetWord c.1 &&& ~~~k))
      else c }

/-- The event and error registers of the header, and the result of the last commit, take their reset values before the soft reset
raises its own events (R10). -/
def State.softHeader (p : Nat) (s : State) : State :=
  (forEach [0x10, 0x1C, 0x20, 0x24, 0x28, 0x2C] (fun o s => s.wr (pageBase p + o) 0#32) s).sf p R.COMMIT_STATUS_RESULT 0

/-- A write of 1 to SOFT_RESET (R10, R61, R66): INIT if ENABLE is 1, otherwise OFF. -/
def State.softResetPage (p : Nat) (s : State) : State :=
  let s := (((s.softHeader p).discardCommit p).softHook p).softRegs p
  if s.tf p R.PAGE_CTRL_ENABLE then
    (if s.pstate p = pINIT then s else s.setPState p pINIT)
  else s.setPState p pOFF

/-- Whether a hand-over of a block on the page is in progress (R342). -/
def State.inHandover (s : State) (p : Nat) : Bool :=
  let ty := pageType p
  s.handovers.any fun x =>
    let kind := x.1 / 4096
    let n := x.1 % 256
    (kind = 0 && (p = pgAve n || p = pgAge n || p = pgDpl n)) || (kind = 1 && ty = 0x16) || (kind = 2 && ty = 0x17) ||
      (kind = 3 && ty = 0x18) || (kind = 4 && ty = 0x14)

/-- The code with which a request for SERVICE (`test` false) or TEST of a page is refused (R42, R62, R163, R171, R342, R374,
R376, R462). -/
def State.serviceCode (s : State) (p : Nat) (test : Bool) : Option Nat :=
  let ty := pageType p
  let cap := bit (pageCaps p) (if test then 1 else 0)
  refusal [
    (!cap, BAD_ARG),
    (s.pstate p != pRUN || s.tf PG_SYS R.SYS_STATE_TRANSITION || s.tf p R.PAGE_CTRL_SERVICE_REQ || s.tf p R.PAGE_CTRL_TEST_REQ ||
      (ty = 0x0A && s.slcRole (p - 33) = 0) || (ty = 0x03 && s.cndRole (p - 2) = 0) ||
      (ty = 0x0C && s.headSt (p - 40) = hHANDOVER) || s.inHandover p ||
      (ty = 0x07 && !test && s.inService (29 - p)) ||
      (ty = 0x07 && test && !(s.mode = CONFIGURE || s.mode = FALLBACK)), WRONG_STATE)]

end Sys2Proof.Machine
end

