-- ==== Sys2Proof/Machine/Commit.lean ====
section
/-! DEFINITION. Shadow and commit (R63 to R66): the check at the commit point, the copy, and what each page's new values do
(R155, R164, R175, R180, R188, R190, R219, R245, R252, R259, R273, R287, R428, R432, R438). -/

namespace Sys2Proof.Machine

open Sys2Proof

/-- RWS bits of the register at offset `off` of page `p`. -/
def rwsMask (p off : Nat) : Word :=
  match findRow (pageRows p) off with
  | some r => BitVec.ofNat 32 r.rws
  | none => 0#32

/-- One shadow word is copied to active (R64). -/
def State.copyOne (p : Nat) (c : Nat × Word) (s : State) : State :=
  let m := rwsMask p (c.1 - pageBase p)
  { s.wr c.1 ((s.rd c.1 &&& ~~~m) ||| (c.2 &&& m)) with shadow := fdel s.shadow c.1 }

/-- The shadow words of page `p` whose offset satisfies `f` are copied to active. -/
def State.copyShadow (p : Nat) (f : Nat → Bool) (s : State) : State :=
  forEach (s.shadow.filter fun c => pageBase p ≤ c.1 && c.1 < pageBase p + 0x1000 && f (c.1 - pageBase p)) (State.copyOne p) s

/-! The checks (R66). -/

/-- A mode named by an AVE commit that would exceed Plaza's budget (R145, R175). -/
def State.modeOverBudget (s : State) (h id : Nat) : Bool :=
  id != s.gf (pgAve h) R.AVE_MODE_MODE_ID && s.budget < (s.sf (pgAve h) R.AVE_MODE_ACTIVE_ID id).unitLoad true

def State.aveCode (s : State) (h : Nat) : Option Nat :=
  let p := pgAve h
  let id := s.sgf p R.AVE_MODE_MODE_ID
  let m := modeRow id
  refusal [
    (47 < id || m.vt ≤ s.sgf p R.AVE_SYNC_OFS_LINE_OFS || m.ht ≤ s.sgf p R.AVE_SYNC_OFS_PIXEL_OFS || s.sgf p R.AVE_LBUF_URGENT = 0,
      BAD_ARG),
    (!s.linkCarries h m (bpcOf (s.sgf p R.AVE_CTRL_BPC)) || s.modeOverBudget h id, NO_RESOURCE)]

/-- Region `r` of an AGE page is out of range in the shadow (chapter 06, RGN registers). -/
def State.rgnBad (s : State) (h r : Nat) : Bool :=
  let p := pgAge h
  let age := s.sgf p (R.RGN_MAX_AGE_MAX_AGE_US r)
  s.sgf p (R.RGN_CTRL_ACTION r) = 3 ||
    (s.sgf p (R.RGN_CTRL_ENABLE r) = 1 &&
      (s.sgf p (R.RGN_BR_X1 r) ≤ s.sgf p (R.RGN_TL_X0 r) || s.sgf p (R.RGN_BR_Y1 r) ≤ s.sgf p (R.RGN_TL_Y0 r) ||
        (s.sgf p (R.RGN_CTRL_AGE_EN r) = 1 && (age < 1000 || 65000000 < age))))

def State.ageCode (s : State) (h : Nat) : Option Nat :=
  if (List.range 64).any (s.rgnBad h) then some BAD_ARG else none

def State.dplCode (s : State) (h : Nat) : Option Nat :=
  let p := pgDpl h
  let map := s.sgf p R.DPL_LANE_MAP_MAP
  let lanes := s.sgf p R.DPL_LINK_CFG_MAX_LANES
  let pr := s.permit h (s.sgf p R.DPL_LINK_CFG_MAX_RATE) lanes
  refusal [
    (((List.range 4).map fun k => map / 4 ^ k % 4).eraseDups.length != 4 || lanes = 3 || s.sgf p R.DPL_PANEL_PWM_PERIOD < 10 ||
      s.sgf p R.DPL_PANEL_PWM_PERIOD < s.sgf p R.DPL_PANEL_PWM_DUTY, BAD_ARG),
    (!carries (s.headMode h) (s.headBpc h) pr.1 pr.2, NO_RESOURCE)]

/-- Base and size of a spill region in bytes, as the shadow holds them: the normal one at 0x44, the secure one at 0x50 (R155). -/
def State.sSpill (s : State) (off : Nat) : Nat × Nat :=
  (pair64 (s.shadowWord PG_ARCADE off) (s.shadowWord PG_ARCADE (off + 4)) / 2097152 * 2097152,
    bits (s.shadowWord PG_ARCADE (off + 8)) 0 8 * 2097152)

def State.arcCode (s : State) : Option Nat :=
  let n := s.sSpill 0x44
  let c := s.sSpill 0x50
  if 128 * 2097152 < n.2 || 128 * 2097152 < c.2 || (n.2 != 0 && n.1 < s.wmDram) || (c.2 != 0 && s.wmDram < c.1 + c.2) then some BAD_ARG
  else none

def State.chnCode (s : State) : Option Nat :=
  let n := s.sgf PG_CHN R.CHN_MARK_PERIOD_PERIOD
  let us := s.sgf PG_CHN R.CHN_WALL_CFG_VOTE_US
  if n < 160000000 || 1600000000 < n || us < 500 || n < (us + 500) * 16000 then some BAD_ARG else none

/-- The code with which the commit of page `p` is refused as a whole; none: it applies (R66). -/
def State.commitCode (s : State) (p : Nat) : Option Nat :=
  let ty := pageType p
  if ty = 0x0C then s.aveCode (p - 40) else if ty = 0x0D then s.ageCode (p - 48) else if ty = 0x0E then s.dplCode (p - 56)
  else if ty = 0x0B then s.arcCode else if ty = 0x0F then s.chnCode
  else if ty = 0x16 then (if s.tchBad then some BAD_ARG else none)
  else if ty = 0x17 then (if s.hapBad then some BAD_ARG else none)
  else if ty = 0x18 then (if s.audBad then some BAD_ARG else none)
  else none

/-! What the new values do. -/

/-- A change of MODE_ID or BPC applies (R188, R190, R191): the old pair is kept for MODE_CHANGED. -/
def State.modeApplied (h old : Nat) (s : State) : State :=
  let st := s.headSt h
  let s := if st = hIDLE then s else s.setHead h fun x => { x with oldMode := if x.modeChanged then x.oldMode else old, modeChanged := true }
  let s := (s.dropTiles h fun _ _ => true).takeMode h
  if st = hLOCKING then (s.lockAfresh h).retrain h 2
  else if st = hRUN || st = hRELOCK then s.goRelock h
  else s

/-- MODE_ID and BPC as MODE_CHANGED shows them (R198). -/
def State.modePair (s : State) (h : Nat) : Nat := s.gf (pgAve h) R.AVE_MODE_MODE_ID + 256 * s.gf (pgAve h) R.AVE_CTRL_BPC

def State.applyAve (h : Nat) (s : State) : State :=
  let p := pgAve h
  let mode := s.modePair h
  let src := s.gf p R.AVE_SYNC_SRC
  let ofs := s.rd (pageBase p + 0x50)
  let en := s.tf p R.AVE_CTRL_HEAD_EN
  let s := s.copyShadow p fun _ => true
  let s := if s.modePair h = mode then s else s.modeApplied h mode
  let s := if s.gf p R.AVE_SYNC_SRC = src then s else s.srcApplied h
  let s := if s.rd (pageBase p + 0x50) = ofs then s else s.realign h
  if s.tf p R.AVE_CTRL_HEAD_EN = en then s else s.headEval h

/-- Rectangle and PLANE_MASK of a region, as words. -/
def State.rgnKey (s : State) (h r : Nat) : List Word :=
  [s.rd (pageBase (pgAge h) + 0x800 + 0x20 * r) >>> 16, s.rd (pageBase (pgAge h) + 0x804 + 0x20 * r),
    s.rd (pageBase (pgAge h) + 0x808 + 0x20 * r)]

def State.applyAge (h : Nat) (s : State) : State :=
  let old := (List.range 64).map (s.rgnKey h)
  let s := s.copyShadow (pgAge h) fun _ => true
  (forNat 64 (fun r s => s.regionApplied h r (old.getD r [] = s.rgnKey h r)) s).checkArea h

def State.applyDpl (h : Nat) (s : State) : State :=
  let p := pgDpl h
  let cfg := fun (s : State) => (s.rd (pageBase p + 0x44), s.rd (pageBase p + 0x48), s.gf p R.DPL_CTRL_EDP)
  let old := cfg s
  let inv := s.gf p R.DPL_LANE_MAP_TX_INV
  let force := s.tf p R.DPL_CTRL_HPD_FORCE
  let s := s.copyShadow p fun _ => true
  let s := s.sf p R.DPL_STATUS_POL_FOUND
    (s.gf p R.DPL_STATUS_POL_FOUND &&& (15 ^^^ (inv ^^^ s.gf p R.DPL_LANE_MAP_TX_INV)))
  let s := if cfg s = old then s else s.retrain h 2
  let now := s.tf p R.DPL_CTRL_HPD_FORCE
  let s := if now && !force && s.linkSt h = lNO_SINK then s.plug h
    else if !now && force && (s.dp h).hpdLow then s.unplug h else s
  s.panelPoll h

def State.applyArc (s : State) : State :=
  let reg := fun (s : State) (off : Nat) =>
    (s.rd (pageBase PG_ARCADE + off), s.rd (pageBase PG_ARCADE + off + 4), s.rd (pageBase PG_ARCADE + off + 8))
  let n := reg s 0x44
  let c := reg s 0x50
  let en := s.gf PG_ARCADE R.ARC_CTRL_HEAD_EN
  let s := s.copyShadow PG_ARCADE fun _ => true
  -- HEAD_EN going to 0 empties the head's tiles at its vertical blank (R150); an IDLE head has none (DEDUCED, log entry 23)
  let s := forNat 8 (fun h s =>
    if !bit en h || bit (s.gf PG_ARCADE R.ARC_CTRL_HEAD_EN) h then s
    else if s.headSt h = hIDLE then s.dropTiles h fun _ _ => true
    else s.setHead h fun x => { x with flush := true }) s
  let s := if reg s 0x44 = n then s else s.dropSlots fun k => 65536 ≤ k && k < 131072
  if reg s 0x50 = c then s else s.dropSlots fun k => 131072 ≤ k

/-- GROUP and MEMBER of a head. -/
def groupOf7 (w : Word) : Nat := bits w 0 7

def State.applyChn (s : State) : State :=
  let mark := fun (s : State) => (s.rd (pageBase PG_CHN + 0x60), s.rd (pageBase PG_CHN + 0x64))
  let old := mark s
  let s := forNat 8 (fun h s =>
    if groupOf7 (s.shadowWord PG_CHN (0x80 + 4 * h)) = groupOf7 (s.rd (pageBase PG_CHN + 0x80 + 4 * h)) then s else s.wallLeave h) s
  let s := s.copyShadow PG_CHN fun _ => true
  let s := forNat 8 (fun h s => (s.showExcluded h).wallSync h) s
  if mark s = old then s else s.markStart true

/-- The shadow of page `p` applies (R64). -/
def State.applyPage (p : Nat) (s : State) : State :=
  let ty := pageType p
  if ty = 0x0C then s.applyAve (p - 40) else if ty = 0x0D then s.applyAge (p - 48) else if ty = 0x0E then s.applyDpl (p - 56)
  else if ty = 0x0B then s.applyArc else if ty = 0x0F then s.applyChn
  else if ty = 0x16 then
    let roles := (List.range 32).map s.roleOfElec
    (s.tchBefore.copyShadow p fun _ => true).tchAfter roles
  else if ty = 0x17 then (s.copyShadow p fun _ => true).hapAfter
  else if ty = 0x18 then
    let cfgs := [s.rd (pageBase p + 0x40), s.rd (pageBase p + 0x50)]
    (s.copyShadow p fun _ => true).audAfter cfgs
  else s.copyShadow p fun _ => true

/-- The commit of page `p` reaches its commit point: it applies, or is refused (R64, R66, R219).  A SET_REGION_AGE completes with
it; its result is `frame`, the first frame judged against it. -/
def State.commitPoint (p frame : Nat) (s : State) : State :=
  match s.commitCode p with
  | some c => (s.commitEnd p c).regionAgesDone p c 0
  | none => ((s.applyPage p).commitEnd p OK).regionAgesDone p OK frame

/-! The PLAZA page, head by head (R164). -/

/-- Registers of head `h` on the PLAZA page. -/
def plzPart (h off : Nat) : Bool := 0x100 + 0x10 * h ≤ off && off < 0x110 + 0x10 * h

/-- A head's part of the PLAZA commit ends; the last one ends the commit (R164). -/
def State.plzPartEnd (h code : Nat) (s : State) : State :=
  let s := { s with plzWait := ndel s.plzWait h, plzRes := s.plzRes ++ [code] }
  if !s.plzWait.isEmpty then s
  else
    let bad := s.plzRes.filter fun c => c != OK && c != CANCELLED
    let res := bad.headD (if s.plzRes.contains CANCELLED then CANCELLED else OK)
    { s with plzRes := [] }.commitEnd PG_PLAZA res

/-- A head applies its part, or refuses it: LEAD runs from 2 to 32 (R164).  A new background empties the head's tiles (R150). -/
def State.plzApply (h : Nat) (s : State) : State :=
  let lead := s.sgf PG_PLAZA (R.PLZ_LEAD_LEAD h)
  if lead < 2 || 32 < lead then s.plzPartEnd h BAD_ARG
  else
    let bg := s.bgColour h
    let s := s.copyShadow PG_PLAZA (plzPart h)
    let s := if s.bgColour h = bg then s
      else (s.setHead h fun x => { x with bgSince := s.frameCount h + 1 }).dropTiles h fun _ _ => true
    s.plzPartEnd h OK

/-- A head discards its part (R194). -/
def State.plzDiscard (h : Nat) (s : State) : State :=
  if !s.plzWait.contains h then s
  else
    let s := { s with shadow := s.shadow.filter fun c =>
      !(pageBase PG_PLAZA ≤ c.1 && c.1 < pageBase PG_PLAZA + 0x1000 && plzPart h (c.1 - pageBase PG_PLAZA)) }
    s.plzPartEnd h CANCELLED

/-! Requests (R57, R63, R65, R188). -/

/-- COMMIT.GO: PENDING (R63, R65); a second GO has no effect. -/
def State.commitGo (p : Nat) (s : State) : State :=
  if s.gf p R.COMMIT_STATUS_STATE = 2 then s
  else
    let s := { s with commitAt := fset s.commitAt p s.walltime }
    let s := if p = PG_PLAZA then { s with plzWait := List.range 8, plzRes := [] } else s
    s.sf p R.COMMIT_STATUS_STATE 2

/-- Whether the pending commit of an AVE page changes MODE_ID or BPC. -/
def State.commitsMode (s : State) (h : Nat) : Bool :=
  s.sgf (pgAve h) R.AVE_MODE_MODE_ID != s.gf (pgAve h) R.AVE_MODE_MODE_ID ||
    s.sgf (pgAve h) R.AVE_CTRL_BPC != s.gf (pgAve h) R.AVE_CTRL_BPC

/-- The commit point that is not a vertical blank (R63, R188, R164): what a pending commit of page `p` does now. -/
def State.commitNow (p : Nat) (s : State) : State :=
  if s.gf p R.COMMIT_STATUS_STATE != 2 then s
  else
    let ty := pageType p
    if ty = 0x0C then
      let h := p - 40
      let st := s.headSt h
      if st = hIDLE then s.commitPoint p 0
      else if (st = hLOCKING || st = hRELOCK) && s.commitsMode h then
        -- recorded with the first counted frame of the new timing (R190)
        (if (s.commitCode p).isNone then s.setHead h fun x => { x with commits := x.commits + 1 } else s).commitPoint p 0
      else s
    else if ty = 0x0D then (if s.headSt (p - 48) = hIDLE then s.commitPoint p 0 else s)
    else if ty = 0x0E then (if s.headSt (p - 56) = hIDLE then s.commitPoint p 0 else s)
    else if p = PG_PLAZA then
      forNat 8 (fun h s => if s.headSt h = hIDLE && s.plzWait.contains h then s.plzApply h else s) s
    else if ty = 0x16 then (if s.tf PG_TCH R.TCH_STATUS_SCANNING then s else s.commitPoint p 0)
    else s.commitPoint p 0

end Sys2Proof.Machine
end

