-- ==== Sys2Proof/Machine/Handover.lean ====
section
/-! DEFINITION. Hand-over of blocks between the worlds (R338 to R345), and the GPIO pins as blocks (R505). -/

namespace Sys2Proof.Machine

open Sys2Proof

/-! Blocks (R338). -/

def blkKind (b : Nat) : Nat := b / 4096
def blkIdx (b : Nat) : Nat := b % 256
/-- A BLOCK_ID that names a block. -/
def blkOk (b : Nat) : Bool :=
  b / 256 % 16 = 0 && ((blkKind b = 0 && blkIdx b < 8) || (blkKind b = 1 && blkIdx b < 8) || (blkKind b = 2 && blkIdx b < 4) ||
    (blkKind b = 3 && blkIdx b < 16) || (blkKind b = 4 && blkIdx b < 4))
/-- The page from which the block's records come (R340). -/
def blkPage (b : Nat) : Nat :=
  if blkKind b = 0 then pgAve (blkIdx b) else if blkKind b = 1 then PG_TCH else if blkKind b = 2 then PG_HAP
  else if blkKind b = 3 then PG_AUD else PG_GPIO
/-- Offset of the block's owner register on its page (R54, R423, R447). -/
def blkOff (b : Nat) : Nat :=
  if blkKind b = 0 then 0x38 else if blkKind b = 2 then 0x94 + 0x20 * blkIdx b else if blkKind b = 3 then 0x10C + 0x10 * blkIdx b
  else 0x80 + 4 * blkIdx b
/-- Keys of the owner registers: a head's AVE, AGE and DPL pages. -/
def blkOwners (b : Nat) : List Nat :=
  if blkKind b = 0 then [pgAve (blkIdx b), pgAge (blkIdx b), pgDpl (blkIdx b)].map fun p => regKey p 0x38
  else [regKey (blkPage b) (blkOff b)]
/-- Bit of the block in the SEC page's maps: LO in bits 31:0, HI from bit 32. -/
def blkBit (b : Nat) : Nat :=
  if blkKind b = 0 then blkIdx b else if blkKind b = 1 then 8 + blkIdx b else if blkKind b = 2 then 16 + blkIdx b
  else if blkKind b = 3 then 32 + blkIdx b else 20 + blkIdx b

/-- World of a block. -/
def State.blkSecure (s : State) (b : Nat) : Bool := bits (s.rd (regKey (blkPage b) (blkOff b))) 0 1 = 1
/-- World and instance of GPIO bank `n` (R505). -/
def State.gpioOwner (s : State) (n : Nat) : Bool × Option Nat :=
  if bits (s.rd (regKey PG_GPIO (0x80 + 4 * n))) 0 1 = 1 then (true, none) else (false, s.routedTo (12 + n))
/-- World and instance of a block. -/
def State.blkOwner (s : State) (b : Nat) : Bool × Option Nat :=
  let n := blkIdx b
  if blkKind b = 0 then
    (s.secureOwned (pgAve n), if s.tf (pgAve n) R.OWNER_INST_VALID then some (s.gf (pgAve n) R.OWNER_INSTANCE) else none)
  else if blkKind b = 1 then s.grpOwner n else if blkKind b = 2 then s.hapOwner n else if blkKind b = 3 then s.strOwner n
  else s.gpioOwner n

/-- The instances, not UNASSIGNED, to which a block is granted (R339). -/
def State.blkGrants (s : State) (b : Nat) : List Nat :=
  s.openInsts.filter fun i =>
    if blkKind b = 0 then s.grantsHead i (blkIdx b) || !(s.windows i (blkIdx b)).isEmpty
    else s.ent i 7 (if blkKind b = 1 then blkIdx b else if blkKind b = 2 then 8 + blkIdx b
      else if blkKind b = 3 then 16 + blkIdx b else 12 + blkIdx b) 1 = 1

/-- Whether the block is in SERVICE or TEST (R339, R171). -/
def State.blkBusy (s : State) (b : Nat) : Bool :=
  s.inService (blkPage b) || (blkKind b = 0 && (s.inService (pgDpl (blkIdx b)) || s.headSt (blkIdx b) = hSERVICE))

/-- The code with which a hand-over is refused (R339). -/
def State.hoCode (s : State) (b : Nat) (toSecure force : Bool) : Option Nat :=
  refusal [
    (!blkOk b || (force && !toSecure), BAD_ARG), (blkOk b && s.blkBusy b, IN_SERVICE),
    (blkOk b && (fhas s.handovers b || s.blkSecure b == toSecure || (toSecure && !force && !(s.blkGrants b).isEmpty)), WRONG_STATE)]

/-- OWNER.HANDOVER of a block (R340). -/
def State.hoShow (b v : Nat) (s : State) : State :=
  forEach (blkOwners b) (fun k s => s.wr k (putBits (s.rd k) 17 2 v)) s

/-- An accepted hand-over begins: RELEASING, and HO_START (R340).  No rule gives words 6 and 7 of HO_START: they are free values
(log entry 10). -/
def State.hoStart (b : Nat) (toSecure fromCmd : Bool) (q : Option Nat) (s : State) : State :=
  let own := s.blkOwner b
  let x : Handover := { toSecure, oldSecure := own.1, oldInst := own.2.getD 0, oldInstValid := own.2.isSome, fromCmd, q }
  let s := { s with handovers := fset s.handovers b x }
  let s := s.hoShow b 1
  let p := blkPage b
  let d6 := s.free.toNat % 4294967296
  let s := s.useFree
  let d7 := s.free.toNat % 4294967296
  let s := s.useFree
  let ev : Ev := { d6, d7, world := some own.1 }
  let code := pageType p * 256 + 0x30
  let others := if blkKind b = 0 then (s.blkGrants b).filter fun i => some i != own.2 else []
  let copies := others.map fun i => (i, s.record p code { ev with inst := some i })
  forEach copies (fun c s => s.toRing c.1 c.2) (s.emit p code { ev with inst := own.2 })

/-! Scrubs (R341, R286). -/

/-- The value a scrub gives register `k`: its Reset value, with "cfg" bits as the applied image gave them. -/
def State.scrubWord (s : State) (p off : Nat) : Word :=
  let k := regKey p off
  match findRow (pageRows p) off with
  | some r => (resetWord k &&& ~~~(BitVec.ofNat 32 r.cfg)) ||| (fget (resetWord k) s.img k &&& BitVec.ofNat 32 r.cfg)
  | none => resetWord k

/-- The bits `m` of a register, and of its shadow, are scrubbed. -/
def State.scrub (p : Nat) (x : Nat × Word) (s : State) : State :=
  let k := regKey p x.1
  let v := s.scrubWord p x.1
  let put := fun (w : Word) => (w &&& ~~~x.2) ||| (v &&& x.2)
  let s := s.wr k (put (s.rd k))
  if fhas s.shadow k then { s with shadow := fset s.shadow k (put (fget 0#32 s.shadow k)) } else s

/-- EVT_RAW, EVT_MISS, ERR_CAPTURE, ERR_COUNT and the RW field EVT_ENABLE of a page. -/
def State.scrubHeader (p : Nat) (s : State) : State :=
  forEach [0x10, 0x18, 0x1C, 0x20, 0x24] (fun o s => s.wr (regKey p o) 0#32) s

/-- The registers of head `h` that a scrub sets: AVE fields but MODE_ID, BPC, HEAD_EN, SRC, the offsets and the counts; the DPL
page's AUX mailbox and status counts (R341, R286). -/
def State.scrubHead (h : Nat) (s : State) : State :=
  let s := forEach [(0x40, 4#32), (0x80, 0x1F#32)] (State.scrub (pgAve h)) s
  let s := (s.scrubHeader (pgAve h)).scrubHeader (pgDpl h)
  let s := forEach [0x60, 0x64, 0x68, 0x6C, 0x70, 0x74, 0x78, 0x88] (fun o s => s.wr (regKey (pgDpl h) o) 0#32) s
  let s := s.setDp h fun x => { x with swErr := false, swDefers := 0, swWait := false }
  let s := forNat 15 (fun p s => s.unbindPlane h p) s
  let s := s.dropTiles h fun _ _ => true
  { s with spans := s.spans.filter fun c => c.1 / 262144 != h, spanQ := s.spanQ.filter fun k => k / 262144 != h }

/-- Electrode group `g`: its electrodes' roles, and the objects whose RX electrodes include it; baselines are kept. -/
def State.scrubGroup (g : Nat) (s : State) : State :=
  let os := (List.range 40).filter fun o => s.objInGroup g o
  let s := s.groupChange g
  let s := s.scrub PG_TCH (if g < 4 then 0x60 else 0x64, BitVec.ofNat 32 (255 * 256 ^ (g % 4)))
  forEach os (fun o s =>
    let s := forEach [0, 4, 8, 12] (fun w s => s.scrub PG_TCH (0x100 + 16 * o + w, BitVec.allOnes 32)) s
    if s.objType o = 0 then s.objTo o oOFF else s) s

/-- Haptic channel `n`: its limits, times, protection, control and its eight slots. -/
def State.scrubHap (n : Nat) (s : State) : State :=
  let s := s.hapRelease n
  let s := forEach [0x80, 0x84, 0x88] (fun o s => s.scrub PG_HAP (o + 0x20 * n, BitVec.allOnes 32)) s
  let s := s.scrub PG_HAP (0x8C + 0x20 * n, 0x1F001F0F#32)
  forNat 8 (fun k s => forEach [0x200, 0x204, 0x208] (fun o s => s.scrub PG_HAP (o + 0x10 * (8 * n + k), BitVec.allOnes 32)) s) s

/-- Audio stream `n`: its cues complete with CANCELLED and it sends zeros (R341). -/
def State.scrubStr (n : Nat) (s : State) : State :=
  (s.strKill n CANCELLED).scrub PG_AUD (0x100 + 0x10 * n, 0xFF07#32)

/-- GPIO bank `n`: every field of its eight pins; the pins become inputs. -/
def State.scrubGpio (n : Nat) (s : State) : State :=
  let m := BitVec.ofNat 32 (255 * 256 ^ n)
  let s := forEach [0x40, 0x44, 0x54, 0x58] (fun o s => s.scrub PG_GPIO (o, m)) s
  s.scrub PG_GPIO (if n < 2 then 0x4C else 0x50, BitVec.ofNat 32 (65535 * 65536 ^ (n % 2)))

/-- OWNER takes the new world once the block's registers are scrubbed: INST_VALID 0, SCRUBBING (R340). -/
def State.hoOwner (b : Nat) (secure : Bool) (s : State) : State :=
  let s := { s with handovers := fmod {} s.handovers b fun x => { x with scrubbing := true } }
  forEach (blkOwners b) (fun k s =>
    s.wr k (putBits (putBits (putBits (s.rd k) 0 1 (if secure then 1 else 0)) 8 9 0) 17 2 2)) s

/-- A head's release point (R341, R194, R343): its pending commits are discarded, its commands end, and it is scrubbed.  A head
that sends frames enters HANDOVER. -/
def State.releaseHead (h : Nat) (s : State) : State :=
  let x := fget ({} : Handover) s.handovers h
  let s := ((s.discardCommit (pgAve h)).discardCommit (pgAge h)).discardCommit (pgDpl h)
  let s := s.plzDiscard h
  let s := if s.headSt h = hIDLE then s
    else ((s.headTo h hHANDOVER).setHead h fun y => { y with blackFrame := true, hoBlank := true, relockDue := false, goRun := false })
  let s := s.endHead h WRONG_STATE
  ((s.auxStop h CANCELLED).scrubHead h).hoOwner h x.toSecure

/-- Release of a block (R341): at once for every kind but a head, which releases at its vertical blank, and a channel that
brakes. -/
def State.hoRelease (b : Nat) (s : State) : State :=
  let x := fget ({} : Handover) s.handovers b
  let n := blkIdx b
  if !fhas s.handovers b || x.scrubbing then s
  else if blkKind b = 0 then (if s.headSt n = hIDLE then s.releaseHead n else s)
  else if blkKind b = 1 then (s.scrubGroup n).hoOwner b x.toSecure
  else if blkKind b = 2 then (if s.hapSt n = cBRAKE then s else (s.scrubHap n).hoOwner b x.toSecure)
  else if blkKind b = 3 then (s.scrubStr n).hoOwner b x.toSecure
  else (s.scrubGpio n).hoOwner b x.toSecure

/-- The scrub ends: HO_DONE, HANDOVER_DONE, and the answer to the request (R337, R340). -/
def State.hoEnd (b : Nat) (s : State) : State :=
  let x := fget ({} : Handover) s.handovers b
  if !fhas s.handovers b || !x.scrubbing then s
  else
    let s := { s with handovers := fdel s.handovers b }
    let s := s.hoShow b (if x.toSecure then 3 else 0)
    let new := if x.toSecure then 1 else 0
    let p := blkPage b
    let s := s.emit p (pageType p * 256 + 0x31)
      { d6 := b, d7 := (if x.oldSecure then 1 else 0) + 2 * new + x.oldInst * 256 + (if x.oldInstValid then 65536 else 0),
        world := some x.toSecure }
    let s := s.raise PG_SEC 2 { d6 := b, d7 := new }
    let s := if x.fromCmd then
        (s.sf PG_SEC R.SEC_HO_STATUS_BUSY (if s.handovers.any fun h => h.2.fromCmd then 1 else 0)).sf PG_SEC
          R.SEC_HO_STATUS_RESULT OK
      else s
    match x.q with
    | some q => if (s.lr q).wait = .handover b then s.replyTo q OK 0 else s
    | none => s

/-- A head's scrub ends with its black frame; an IDLE head's at once (R341). -/
def State.hoScrubEnd (b : Nat) (s : State) : State :=
  if blkKind b = 0 && s.headSt (blkIdx b) != hIDLE then s else s.hoEnd b

end Sys2Proof.Machine
end

