-- ==== Sys2Proof/Machine/Scan.lean ====
section
/-! DEFINITION. Scan-out: the vertical blank (R126, R148 to R153, R161, R185 to R197), the frame start (R168, R169, R181, R184,
R189), and the lines of a frame (R124, R125, R130, R192, R193, R201). -/

namespace Sys2Proof.Machine

open Sys2Proof

/-! The vertical blank. -/

/-- The counts of the frame that ends show (PLZ_ACCT, AVE_LBUF_STAT). -/
def State.frameEnds (h : Nat) (s : State) : State :=
  let x := s.head h
  let a := [s.frameCount h, x.lateLines.length, x.errors] ++ (List.range 16).map fun p => fget 0 x.blocks p
  let s := s.setHead h fun y => { y with
    acct := a, lateLines := [], errors := 0, blocks := [], minAhead := 34, urgentLines := 0, flips := false }
  (s.sf (pgAve h) R.AVE_LBUF_STAT_MIN_AHEAD x.minAhead).sf (pgAve h) R.AVE_LBUF_STAT_URGENT_LINES (min x.urgentLines 65535)

/-- The commits of a plane that are on time: made before the cutoff (R186). -/
def State.planeDue (s : State) (h p cutoff : Nat) : List PlCommit := (s.plane h p).queue.filter fun c => decide (c.at_ < cutoff)

/-- The on-time commits of a plane collapse into the last, which applies for frame `n` (R110, R126, R202). -/
def State.planeTake (h n cutoff p : Nat) (s : State) : State :=
  match (s.planeDue h p cutoff).reverse with
  | [] => s
  | c :: older =>
    let fl := (c :: older).find? fun k => k.flip
    let s := s.setPlane h p fun x => { x with
      act := c.cfg, changed := n, queue := x.queue.filter fun k => !decide (k.at_ < cutoff)
      ct := (match fl with | some k => k.ct | none => x.ct), hasCt := x.hasCt || fl.isSome }
    s.setHead h fun x => { x with commits := x.commits + 1, flips := true }

/-- The plane commands whose commits have applied complete with OK and frame `n` (R97, R110, R256). -/
def State.planeCmds (h n cutoff : Nat) (s : State) : State :=
  forEach (s.cmdsWhere fun c => c.key / 16 == h && c.phase == 0 && [0x20, 0x21, 0x22].contains c.op && decide (c.at_ < cutoff))
    (fun id s => s.cmdDone id OK (n % 4294967296)) s

/-- Inserts a page by the time of its COMMIT.GO. -/
def commitInsert (x : Nat × Nat) : List (Nat × Nat) → List (Nat × Nat)
  | [] => [x]
  | y :: r => if x.1 < y.1 then x :: y :: r else y :: commitInsert x r

/-- The page commits of a head that are on time, in the order of their COMMIT.GO (R186). -/
def State.pagesDue (s : State) (h cutoff : Nat) : List (Nat × Nat) :=
  ([pgAve h, pgAge h, pgDpl h, PG_PLAZA].filterMap fun p =>
    let t := fget 0 s.commitAt p
    if s.gf p R.COMMIT_STATUS_STATE = 2 && decide (t < cutoff) && (p != PG_PLAZA || s.plzWait.contains h) then some (t, p) else none).foldl
      (fun l x => commitInsert x l) []

/-- One page commit at the vertical blank. -/
def State.pageTake (h n : Nat) (x : Nat × Nat) (s : State) : State :=
  let ok := s.commitCode x.2 = none
  let s := if x.2 = PG_PLAZA then s.plzApply h else s.commitPoint x.2 (n % 4294967296)
  if ok then s.setHead h fun y => { y with commits := y.commits + 1 } else s

/-- Every on-time commit of the head applies for frame `n`: planes, then pages (R126, R186). -/
def State.takeCommits (h n cutoff : Nat) (s : State) : State :=
  let s := forNat 16 (fun p s => s.planeTake h n cutoff p) s
  let s := s.planeCmds h n cutoff
  forEach (s.pagesDue h cutoff) (fun x s => s.pageTake h n x) s

/-- Vacated fill begins and ends on the head (R310 to R312). -/
def State.vacates (h : Nat) (s : State) : State :=
  let s := forEach (fget [] s.vacate h) (fun i s => (if s.shed i then s else s.unbindInst h i).showVacated h i) s
  let s := forEach (fget [] s.unvacate h) (fun i s => s.hideVacated h i) s
  { s with
    vacate := fdel s.vacate h
    unvacate := fdel s.unvacate h
    closedWins := fdel s.closedWins h }

/-- Whether the head may leave RELOCK at the next frame start (R170, R270). -/
def State.relockReady (s : State) (h : Nat) : Bool :=
  s.headSt h = hRELOCK && (s.locked h || (s.source h = 2 && (s.head h).settled)) && s.linkReady h && 2 ≤ (s.head h).black

/-- The head's hand-over at the vertical blank: it enters HANDOVER from RUN, or leaves it once the black frame has been sent
(R170, R194, R341, R343). -/
def State.vblankHandover (h : Nat) (s : State) : State :=
  let x := fget ({} : Handover) s.handovers h
  if fhas s.handovers h && !x.scrubbing && s.headSt h = hRUN then s.releaseHead h
  else if s.headSt h = hHANDOVER then
    (((s.hoEnd h).setHead h fun y => { y with hoBlank := false }).headTo h hRUN).headEval h
  else s

/-- The tiles at the vertical blank that ends a frame: invalidated, then validated or freed (R149 to R151). -/
def State.tilesEnd (h : Nat) (old : List PlaneCfg) (flat flips : List Nat) (s : State) : State :=
  let s := s.invalidate h old flat flips
  let off := !bit (s.gf PG_ARCADE R.ARC_CTRL_HEAD_EN) h || (s.head h).flush
  let s := if off then s.dropTiles h fun _ _ => true else s
  ((s.setHead h fun x => { x with flush := false }).endCapture h).arcStat h (s.frameCount h)

/-- The frame that the vertical blank precedes: black or composed, its device mode, its tiles and its regions (R33, R148, R172,
R203). -/
def State.nextFrame (h : Nat) (s : State) : State :=
  let st := s.headSt h
  let black := !(st = hRUN || (st = hRELOCK && (s.head h).goRun))
  let s := s.setHead h fun x => { x with blackFrame := black, showMode := if s.quiescing then QUIESCE else s.mode }
  let s := { s with
    badBlocks := s.badBlocks.filter fun c => c.1 / 16 != h
    tileBad := s.tileBad.filter fun c => c.1 / 8192 != h
    tileLost := s.tileLost.filter fun c => c.1 / 8192 != h }.dropSpans fun k => k / 262144 == h
  if black then s
  else forNat 64 (fun r s => s.fixContent h r) ((s.countHits h).captureFrame h (s.frameCount h + 1))

/-- The main stream attributes of a frame that is sent (R264). -/
def State.sendMsa (h : Nat) (m : ModeRow) (s : State) : State :=
  { s with msaOut := fset s.msaOut h (s.frameCount h,
    [m.khz, m.ha, m.ht, m.hfp, m.hs, m.va, m.vt, m.vfp, m.vs, if m.hpol then 1 else 0, if m.vpol then 1 else 0, s.headBpc h]) }

/-- The start of a head's vertical blank. -/
def State.vblank (h : Nat) (s : State) : State :=
  if !(s.head h).sending || s.tf (pgAve h) R.AVE_STATUS_IN_VBLANK then s
  else
    let m := s.headMode h
    let s := if (s.head h).sent then s.sendMsa h m else s
    let cutoff := s.walltime - linesNs m 1
    let n := s.frameCount h + 1
    let s := (s.sf (pgAve h) R.AVE_STATUS_IN_VBLANK 1).sf (pgAve h) R.AVE_STATUS_OUT_LINE m.va
    let s := ((s.readsLeave h).frameEnds h).vblankHandover h
    let ready := s.relockReady h
    let s := s.setHead h fun x => { x with goRun := ready }
    let old := (List.range 14).map fun p => (s.plane h p).act
    let flat := (s.flatten h).filter fun p => !s.planeVacated h p
    let apply := s.headSt h = hRUN || ready
    let flips := if apply then (List.range 14).filter fun p => (s.planeDue h p cutoff).any (·.flip) else []
    let s := if apply then s.takeCommits h n cutoff else s
    let s := (s.vacates h).tilesEnd h old flat flips
    let s := if (s.head h).relockDue && s.headSt h = hRUN then s.goRelock h else s
    s.substApply.nextFrame h

/-! The frame start. -/

/-- SLIP realignment at a frame start: the lines to add to this frame, or the end of the realignment (R184, R195). -/
def State.slipStep (h : Nat) (s : State) : State :=
  let m := s.headMode h
  let s := s.setHead h fun x => { x with lines := m.vt }
  if !s.slipping h then s
  else
    let x := s.head h
    let d := s.slipDelta h s.walltime
    let late := s.srcFrame h - d
    let line := m.ht * 1000000
    -- within half a pixel period of the target, on either side
    if 2 * d * m.khz ≤ 1000000 || 2 * late * m.khz ≤ 1000000 then
      (s.sf (pgAve h) R.AVE_STATUS_SLIPPING 0).aveRaise h 7 { d6 := x.slipDone, d7 := x.slipFrames }
    else
      -- what the PLL has pulled too far it pulls back: no line is added for it
      let add := if x.pulling && late * m.khz < line then 0 else min (d * m.khz / line) (m.vt / 32)
      s.setHead h fun x => { x with
        lines := m.vt + add, slipDone := x.slipDone + add, slipFrames := x.slipFrames + 1, pulling := add = 0 }

/-- The lists that wait for frame `n` or an earlier one of head `h` go on (R112). -/
def State.framesReached (h : Nat) (s : State) : State :=
  let c := s.frameCount h
  let due := (s.lists.filter fun p => p.2.st == .wait && match p.2.wait with
    | .frame h' target => h' == h && decide ((c + 4294967296 - target % 4294967296) % 4294967296 < 2147483648)
    | _ => false).map (·.1)
  forEach due (fun q s => s.waitDone q OK (c % 4294967296)) s

/-- AVE_FLIP_TIME and AVE_FLIP_FRAME, with FLIP_APPLIED, at the counted frame start that follows the commits: those of the vertical blank
before it, and a mode change that came before black frames (R189, R190). -/
def State.flipStamp (h n : Nat) (s : State) : State :=
  let k := (s.head h).commits
  if k = 0 then s
  else
    let p := pgAve h
    let s := s.s64 p R.AVE_FLIP_TIME_LO_TIME R.AVE_FLIP_TIME_HI_TIME (s.localTime (9 + h))
    ((s.s64 p R.AVE_FLIP_FRAME_LO_FRAME R.AVE_FLIP_FRAME_HI_FRAME n).setHead h fun x => { x with commits := 0 }).aveRaise h 1 { d6 := k }

/-- The surfaces that a composed frame `n` reads (R93). -/
def State.noteReads (h n : Nat) (s : State) : State :=
  forNat 16 (fun p s => match (s.plane h p).act.surf with
    | some i => if (s.plane h p).act.enable then s.setSurf i fun e => { e with lastRead := fset e.lastRead h n, leftAt := fdel e.leftAt h } else s
    | none => s) s

/-- A frame that counts: the number, FRAME_START and MODE_CHANGED (R169, R190, R198). -/
def State.countFrame (h lines : Nat) (s : State) : State :=
  let p := pgAve h
  let s := s.s64 p R.AVE_FRAME_COUNT_LO_COUNT R.AVE_FRAME_COUNT_HI_COUNT (s.frameCount h + 1)
  let s := s.aveRaise h 0 { d6 := lines }
  let x := s.head h
  if x.modeChanged && s.headSt h = hRUN then
    (s.setHead h fun y => { y with modeChanged := false }).aveRaise h 5 { d6 := x.oldMode, d7 := s.modePair h }
  else s

/-- The start of a frame on the output raster (R168). -/
def State.frameStarts (h : Nat) (s : State) : State :=
  let p := pgAve h
  if s.headSt h = hIDLE || (s.headSt h = hSERVICE && s.inService p) then s
  else
    let x := s.head h
    let lines := if x.sending then x.lines else 0
    let s := (s.sf p R.AVE_STATUS_IN_VBLANK 0).sf p R.AVE_STATUS_OUT_LINE 0
    let s := if x.goRun then (s.setHead h fun y => { y with goRun := false }).headTo h hRUN else s
    let sent := s.streaming h
    let st := s.headSt h
    let counted := sent && (st = hRUN || st = hHANDOVER || st = hSERVICE)
    let s := s.setHead h fun y => { y with
      sending := true, sent, frameAt := s.walltime, black := if st = hRELOCK && s.linkReady h then y.black + 1 else y.black }
    let s := if counted then s.countFrame h lines else s
    let n := if counted then s.frameCount h else s.frameCount h + 1
    let s := s.s64 p R.AVE_FRAME_TIME_LO_TIME R.AVE_FRAME_TIME_HI_TIME (s.localTime (9 + h))
    let s := if counted then s.flipStamp h n else s
    let composed := s.composing h
    let s := s.ageFrame h sent composed
    let s := if composed then s.noteReads h n else s
    let s := ((s.slipStep h).lockStep h s.walltime).lockDone h
    let s := if sent && s.panelSt h = vVIDEO_WAIT && (s.dp h).firstFrame.isNone then
        s.setDp h fun y => { y with firstFrame := some s.walltime } else s
    ((s.framesReached h).wallDue h).wallSync h

/-! Lines. -/

/-- Spans of a line (R125). -/
def ModeRow.spansOf (m : ModeRow) : Nat := (m.ha + 255) / 256

/-- The lines of a head that its line buffer holds or has storage set aside for (R192). -/
def State.linesHeld (s : State) (h : Nat) : NSet :=
  (s.spans.map (·.1) ++ s.spanQ ++ s.flight).foldl (fun l k => if k / 262144 = h then nadd l (k / 32) else l) []

/-- Whether the composition raster, the lead ahead of the output raster, has reached line `y` (R124, R128).  The pixel clock may run up to
1,200 ppm fast (R181). -/
def State.released (s : State) (h y : Nat) : Bool :=
  let at_ := s.lineAt h y - linesNs (s.headMode h) (s.gf PG_PLAZA (R.PLZ_LEAD_LEAD h))
  decide ((s.head h).frameAt + (at_ - (s.head h).frameAt) * 998800 / 1000000 ≤ s.walltime)

/-- Whether the output raster has already passed line `y`. -/
def State.linePassed (s : State) (h y : Nat) : Bool :=
  !s.tf (pgAve h) R.AVE_STATUS_IN_VBLANK && decide (y < s.gf (pgAve h) R.AVE_STATUS_OUT_LINE)

/-- Whether every span of a line has been written. -/
def State.lineWritten (s : State) (h y : Nat) : Bool := (List.range (s.headMode h).spansOf).all fun k => fhas s.spans (spanKey h y k)
/-- The lines ahead of line `y` (R193): those of the 33 after it that are written whole; past the last active line nothing is wanting. -/
def State.linesAhead (s : State) (h y : Nat) : Nat :=
  ((List.range 33).filter fun k => (s.headMode h).va ≤ y + 1 + k || s.lineWritten h (y + 1 + k)).length

/-- Whether a head's memory reads are urgent while its output raster is at line `y` (R193). -/
def State.headUrgent (s : State) (h y : Nat) : Bool :=
  s.linesAhead h y < s.gf (pgAve h) R.AVE_LBUF_URGENT || s.gf PG_PLAZA (R.PLZ_LEAD_LEAD h) ≤ s.gf (pgAve h) R.AVE_LBUF_URGENT

/-- A line job is released into its spans, and the blocks it reads are counted (R124, R125, R192). -/
def State.lineJob (h y : Nat) (s : State) : State :=
  let m := s.headMode h
  let x := s.head h
  let held := s.linesHeld h
  if s.pstate PG_PLAZA != pRUN || x.blackFrame || !(s.headSt h = hRUN || x.goRun) || m.va ≤ y || held.contains (h * 8192 + y) ||
      34 ≤ held.length || !s.released h y || s.linePassed h y then s
  else
    let s := { s with spanQ := (List.range m.spansOf).foldl (fun l k => nadd l (spanKey h y k)) s.spanQ }.dispatch
    if s.composing h then s.countBlocks h y (s.headUrgent h (s.gf (pgAve h) R.AVE_STATUS_OUT_LINE)) else s

/-- The rectangle of span `k` of line `y`. -/
def ModeRow.spanRect (m : ModeRow) (y k : Nat) : Rect := { x0 := 256 * k, y0 := y, x1 := min (256 * k + 256) m.ha, y1 := y + 1 }

/-- Whether span `k` of line `y` fetches pixels of a plane: not where VALID tiles serve them (R147, R159). -/
def State.spanReads (s : State) (h y k p : Nat) : Bool :=
  let c := (s.plane h p).act
  c.shows && c.surf.isSome && c.dst.meets ((s.headMode h).spanRect y k) && !s.planeVacated h p &&
    (s.liveSegs h p y c).any fun g => decide (g.1 < 256 * k + 256) && decide (256 * k < g.2)

/-- A plane's fetch for a span is refused because a memory group is in FAULT (R61, R159). -/
def State.spanFetch (h y k p : Nat) (s : State) : State :=
  if s.spanReads h y k p then
    (s.setHead h fun x => { x with errors := x.errors + 1 }).raise PG_PLAZA 1
      { status := MEM_ERROR, d6 := h * 256 + p, d7 := y, frame := some (s.frameCount h), inst := if p < 14 then s.planeInst h p else none }
  else s

/-- The tile under a pixel takes what the span composed (R147, R149): its flattened value, or the mark of an error colour. -/
def State.tileTake (h x y : Nat) (bad : Bool) (s : State) : State :=
  let i := tileAt (s.headMode h) x y
  match s.tile h i with
  | some t =>
    if t.valid then s
    else
      let q := s.flatMix h x y
      let s := s.tilePut h i (y % 64 * 64 + x % 64) (pixWord 10 (outComp 10 q.1.1, outComp 10 q.1.2.1, outComp 10 q.1.2.2))
      if bad || q.2 then (match s.tile h i with | some t => s.setTile h i { t with bad := true } | none => s) else s
  | none => s

/-- The line is written in a capturing tile once its last span of that tile is composed (R149). -/
def State.tileRow (h y x : Nat) (s : State) : State :=
  let i := tileAt (s.headMode h) x y
  match s.tile h i with
  | some t => if t.valid then s else s.setTile h i { t with rows := nadd t.rows (y % 64) }
  | none => s

/-- The tiles of a span that are served from spill cannot be read while a memory group is in FAULT (R156, R369). -/
def State.spanSpill (h y k : Nat) (s : State) : State :=
  let m := s.headMode h
  let r := m.spanRect y k
  forNat 4 (fun j s =>
    let x := r.x0 + 64 * j
    match s.tile h (tileAt m x y) with
    | some t =>
      if x < r.x1 && t.valid && 65536 ≤ t.slot then
        s.tileError h (tileAt m x y) ((List.range (min 64 (r.x1 - x))).map fun i => y % 64 * 64 + i)
      else s
    | none => s) s

/-- The fetches of a span that the DRAM watermark blocks are noted (R325): one for each plane. -/
def State.spanBlocked (h y k p : Nat) (s : State) : State :=
  let c := (s.plane h p).act
  match c.surf with
  | some i =>
    let e := s.surf i
    if s.spanReads h y k p && !e.secure && decide (e.base < s.wmDram) then s.noteAccess none false (s.planeInst h p) e.base 1 else s
  | none => s

/-- A slice finishes a span (R125, R160, R162): the words, SLC_SPANS, and the tiles it captures; `sram` names tile words that SRAM could
not correct (R156). -/
def State.spanDone (h y k n : Nat) (sram : List (Nat × Nat)) (s : State) : State :=
  let key := spanKey h y k
  if !s.flight.contains key || !s.composes n then s
  else
    let m := s.headMode h
    let r := m.spanRect y k
    let s := forEach sram (fun e s =>
      match s.tileSlot h e.1 e.2 with
      | some slot => if slot < 65536 then s.tileError h e.1 [e.2 / 2 * 2, e.2 / 2 * 2 + 1] else s
      | none => s) s
    let s := if s.memFault && s.composing h then forNat 16 (fun p s => if p = 14 then s else s.spanFetch h y k p) (s.spanSpill h y k) else s
    let s := if s.composing h then forNat 16 (fun p s => if p = 14 then s else s.spanBlocked h y k p) s else s
    let xs := (List.range r.width).map (· + r.x0)
    let px := xs.map fun x => s.pixelOut h x y
    let s := { s with
      spans := fset s.spans key (px.map fun (e : Nat × Bool) => e.1), flight := ndel s.flight key, slcLast := ndel s.slcLast n }.dispatch
    let s := s.bumpW (pgSlc n) R.SLC_SPANS_SPANS 1
    let s := forEach (xs.zip px) (fun (e : Nat × Nat × Bool) s => s.tileTake h e.1 y e.2.2) s
    forNat 4 (fun j s => if r.x0 + 64 * j < r.x1 then s.tileRow h y (r.x0 + 64 * j) else s) s


/-- The tiles of a late span are bad (R149). -/
def State.lateTiles (h y k : Nat) (s : State) : State :=
  let r := (s.headMode h).spanRect y k
  forNat 4 (fun j s =>
    let x := r.x0 + 64 * j
    if r.x1 ≤ x then s
    else
      let i := tileAt (s.headMode h) x y
      match s.tile h i with
      | some t => if t.valid then s else s.setTile h i { t with bad := true }
      | none => s) s

/-- The words of a line as the line buffer holds them: a span that was not written is black (R130). -/
def State.lineWords (s : State) (h y : Nat) : List Nat :=
  let m := s.headMode h
  (List.range m.spansOf).flatMap fun k =>
    if fhas s.spans (spanKey h y k) then fget [] s.spans (spanKey h y k) else List.replicate (m.spanRect y k).width 0

/-- WALLTIME of the DPL island at time `t` (R210). -/
def State.glassTime (s : State) (h t : Nat) : Nat := ({ s with walltime := t }).localTime (17 + h)

/-- The output raster reaches line `y` of a frame (R201); `delay` is the time from the raster to the transmitter. -/
def State.outLine (h y delay : Nat) (s : State) : State :=
  let m := s.headMode h
  let x := s.head h
  if !x.sending || s.tf (pgAve h) R.AVE_STATUS_IN_VBLANK || m.va ≤ y then s
  else
    let t := s.walltime
    let s := s.sf (pgAve h) R.AVE_STATUS_OUT_LINE y
    let glass := fun (px : Nat) => s.glassTime h (t + px * 1000000 / m.khz + delay)
    if x.blackFrame then s.ageLine h y glass (List.replicate m.ha 0)
    else
      let missing := (List.range m.spansOf).filter fun k => !fhas s.spans (spanKey h y k)
      let ahead := s.linesAhead h y
      let urgent := s.headUrgent h y
      let s := s.setHead h fun z => { z with
        minAhead := min z.minAhead ahead, urgentLines := z.urgentLines + (if urgent then 1 else 0) }
      let ws := s.lineWords h y
      let s := if missing.isEmpty then s
        else (s.setHead h fun z => { z with lateLines := nadd z.lateLines y }).raise PG_PLAZA 0
          { d6 := h, d7 := y, frame := some (s.frameCount h) } |>.perf 0x0C 1 none (s.secureOwned (pgAve h))
      let s := forEach missing (fun k s => s.lateTiles h y k) s
      (s.dropSpans fun k => k / 32 == h * 8192 + y).ageLine h y glass ws

end Sys2Proof.Machine
end

