-- ==== Sys2Proof/Machine/View.lean ====
section
/-! DEFINITION. Reads of the management space (R51 to R59, R83, R174, R300): what each register shows, the LO/HI latches (R56), and
what a read that is not answered captures. -/

namespace Sys2Proof.Machine

open Sys2Proof

/-- A number whose bit `i` is `f i`, for `i` below `n`. -/
def bitmap (n : Nat) (f : Nat → Bool) : Nat := (List.range n).foldl (fun m i => if f i then m + 2 ^ i else m) 0

/-- A register as it is held: RWS fields read the shadow (R57). -/
def State.plainWord (s : State) (p off : Nat) : Word :=
  let m := rwsMask p off
  (s.rd (regKey p off) &&& ~~~m) ||| (s.shadowOf (regKey p off) &&& m)

/-! PLAZA and ARCADE (chapter 04). -/

/-- A rectangle's corner as a word: X in the low half. -/
def cornerWord (x y : Nat) : Nat := x % 65536 + y % 65536 * 65536

/-- The handle of an SDT entry (R82). -/
def State.handleOf (s : State) (i : Nat) : Nat := i % 4096 + (s.surf i).gen * 65536

/-- Whether any tile of a head is VALID. -/
def State.anyValid (s : State) (h : Nat) : Bool := s.tiles.any fun (p : Nat × Tile) => p.1 / 8192 == h && p.2.valid

/-- PLZ_PLANE_VIEW[k] of the selected plane. -/
def State.planeView (s : State) (sec : Bool) (k : Nat) : Nat :=
  let h := s.gf PG_PLAZA R.PLZ_PLANE_SEL_HEAD
  let p := s.gf PG_PLAZA R.PLZ_PLANE_SEL_PLANE
  let x := s.plane h p
  let c := x.act
  if !sec && (p = 15 || s.secureOwned (pgAve h)) then 0
  else if p = 14 then (if k = 1 && s.anyValid h then 1 else 0)
  else match k with
    | 0 => match c.surf with | some i => s.handleOf i | none => 0
    | 1 => (if c.enable then 1 else 0) + (if c.static then 2 else 0) + c.alpha % 4 * 4 + (if c.keyEn then 16 else 0) +
        (if (s.flatten h).contains p then 32 else 0) + c.z % 16 * 256 + c.csc % 4 * 4096 + c.galpha % 256 * 65536
    | 2 => cornerWord c.dst.x0 c.dst.y0
    | 3 => cornerWord c.dst.x1 c.dst.y1
    | 4 => cornerWord c.src.x0 c.src.y0
    | 5 => cornerWord c.src.x1 c.src.y1
    | 6 => c.key
    | _ => x.changed

/-- The accounting of the last completed frame of the selected head. -/
def State.acctOf (s : State) : List Nat := (s.head (s.gf PG_PLAZA R.PLZ_ACCT_SEL_HEAD)).acct

def State.plazaView (s : State) (sec : Bool) (off : Nat) : Option Nat :=
  if off = 0x44 then some (s.activeSlices + (if s.spareSlice.isSome then 8 else 0))
  else if off = 0x48 then some (min 65535 (s.unitLoad false) + s.budget * 65536)
  else if 0x60 ≤ off && off < 0x80 then some (s.planeView sec ((off - 0x60) / 4))
  else if 0x180 ≤ off && off < 0x1A0 then
    let h := (off - 0x180) / 4
    some (min 65535 (s.headLoad h false) + min 65535 ((maxCost (s.headMode h) (s.cfgs h false) + 3) / 4) * 65536)
  else if off = 0x1C4 then some (s.acctOf.getD 0 0)
  else if off = 0x1C8 then some (s.acctOf.getD 0 0 / 4294967296)
  else if 0x200 ≤ off && off < 0x240 then some (s.acctOf.getD (3 + (off - 0x200) / 4) 0)
  else if off = 0x240 then some (min 65535 (s.acctOf.getD 1 0) + min 65535 (s.acctOf.getD 2 0) * 65536)
  else none

def State.arcadeView (s : State) (off : Nat) : Option Nat :=
  if off = 0x5C then
    let sram := (s.tiles.filter fun (p : Nat × Tile) => decide (p.2.slot < 1536)).length
    some (sram + (s.tiles.length - sram) * 32768)
  else none

/-! AGE (chapter 06). -/

def State.ageView (s : State) (p off : Nat) : Option Nat :=
  let h := p - 48
  let x := s.region h (s.gf p R.AGE_SEL_REGION)
  let count (f : Region → Bool) := ((List.range 64).filter fun r => f (s.region h r)).length
  let armed := s.running && s.headSt h = hRUN && s.linkSt h = lUP && !s.blanked h
  let map (f : Region → Bool) := bitmap 64 fun r => f (s.region h r)
  if off = 0x40 then
    some ((if s.blanked h then 1 else 0) + (if armed then 2 else 0) + count (fun y => y.stale) * 256 +
      count (fun y => y.sig = 3) * 65536)
  else if off = 0x58 then some (map fun y => y.stale)
  else if off = 0x5C then some (map (fun y => y.stale) / 4294967296)
  else if off = 0x60 then some (map fun y => y.sig = 3)
  else if off = 0x64 then some (map (fun y => y.sig = 3) / 4294967296)
  else if off = 0x74 then some x.vFrame
  else if off = 0x78 then some (x.vFrame / 4294967296)
  else if off = 0x7C then some x.vCt
  else if off = 0x80 then some (x.vCt / 4294967296)
  else if off = 0x84 then some x.vGlass
  else if off = 0x88 then some (x.vGlass / 4294967296)
  else if off = 0x8C then some (min 4294967295 x.vAge)
  else if off = 0x90 then
    some ((if x.vStale then 1 else 0) + (if x.noContent then 2 else 0) + (if x.outOfArea then 4 else 0) + x.sig * 16 +
      (if x.vMatch then 64 else 0) + (if x.vSubst then 128 else 0) + x.vPlane % 16 * 256 +
      (match x.vInst with | some i => i % 256 * 65536 + 16777216 | none => 0))
  else if off = 0x94 then some x.staleFrames
  else if off = 0x98 then some (x.transient + x.lasting * 65536)
  else none

/-! CHN and SEC (chapters 07 and 10). -/

def State.chnView (s : State) (off : Nat) : Option Nat :=
  let x := s.group (s.gf PG_CHN R.CHN_WALL_SEL_GROUP)
  let count (f : Member → Bool) := (x.mem.filter fun (p : Nat × Member) => f p.2).length
  let last := x.last.getD (0, 0)
  if off = 0x5C then (if s.isMaster then some (s.unitCount + s.unitCount * 65536) else none)
  else if off = 0xAC then some (count (fun m => m.present) + count (fun m => m.excluded) * 65536)
  else if off = 0xB0 then some (count (fun m => m.ready.isSome) + min 255 x.defers * 65536)
  else if off = 0xB4 then some last.1
  else if off = 0xB8 then some (last.1 / 4294967296)
  else if off = 0xBC then some last.2
  else none

/-- The BLOCK_IDs of R338. -/
def allBlocks : List Nat :=
  (List.range 8) ++ (List.range 8).map (· + 0x1000) ++ (List.range 4).map (· + 0x2000) ++ (List.range 16).map (· + 0x3000) ++
    (List.range 4).map (· + 0x4000)
/-- SEC_OWN_MAP: the blocks whose OWNER.WORLD is 1. -/
def State.ownMap (s : State) : Nat := (allBlocks.filter fun b => s.blkSecure b).foldl (fun m b => m + 2 ^ blkBit b) 0

/-- The effective debug enables, in DBG_CTRL order (R347). -/
def State.dbgEffective (s : State) : Nat :=
  let e (i : Nat) := !Config.fuseDebugKill && (bit (s.rd (regKey PG_DEBUG 0x40)).toNat i || bit Config.fuseDebugEn i)
  let sni := e 1 || e 0
  let ni := e 2 || e 0
  (if e 0 then 1 else 0) + (if sni then 2 else 0) + (if ni then 4 else 0) + (if e 3 || sni || ni then 8 else 0)

/-! MEM and SWEEP (chapters 11 and 12). -/

/-- Signed owed refreshes of a group (R368). -/
def State.owedCount (s : State) (g : Nat) : Int := ((s.mgrp g).owed.length : Int) - ((s.mgrp g).pulled.length : Int)

/-- Registers that page 15 shows as page 14, and page 17 as page 16 ("unit"). -/
def unitReg (p off : Nat) : Bool :=
  ((p = 14 || p = 15) && (off = 0x44 || off = 0x60 || off = 0x64)) || ((p = 16 || p = 17) && 0x80 ≤ off && off < 0xB8)

def State.memView (s : State) (p off : Nat) : Option Nat :=
  if off = 0x48 then
    let w := s.rd (regKey p 0x48)
    some (putBits w 4 5 (ofInt 5 (s.owedCount (p - 14)))).toNat
  else if off = 0x5C then some (putBits (s.rd (regKey p 0x5C)) 8 8 (s.gf 14 R.MEM_SVC_KEEP)).toNat
  else if off = 0x60 then some ((s.rd (regKey 14 0x60)).toNat % 256 + s.pasrForced * 256)
  else if unitReg p off then some (s.rd (regKey 14 off)).toNat
  else none

/-- SWP_LOG_INFO of an entry. -/
def logInfo (e : LogEnt) : Nat :=
  e.state + (if e.marked then 8 else 0) + min 15 e.count * 16 + e.channel % 8 * 256 + e.position % 128 * 65536 + e.repair % 256 * 16777216

def State.sweepView (s : State) (sec : Bool) (p off : Nat) : Option Nat :=
  let g := p - 16
  let e := s.logEnt g (s.gf p R.SWP_LOG_SEL_INDEX)
  let hidden := !sec && e.state != 0 && decide (e.addr < s.wmDram)
  let secret := !sec && s.tf 16 R.RNG_STATUS_SECURE
  if off = 0x60 then
    some (((List.range 64).filter fun k => (s.logEnt g k).state != 0).length + s.gf p R.SWP_LOG_STAT_DROPPED * 65536)
  else if off = 0x68 then some (if hidden then 0 else e.addr)
  else if off = 0x6C then some (if hidden then 0 else e.addr / 4294967296)
  else if off = 0x70 then some (if hidden then 0 else logInfo e)
  else if off = 0x74 then some e.at_
  else if off = 0x78 then some (e.at_ / 4294967296)
  else if off = 0xB4 then some (min 8388608 s.validPg.length)
  else if unitReg p off then some (if secret && 0x98 ≤ off then 0 else (s.rd (regKey 16 off)).toNat)
  else none

/-! The companion die's pages (chapters 13 and 14) and GPIO (chapter 16). -/

/-- An owner register as TCH_GRP_OWN lays it out (R423). -/
def State.ownWord (s : State) (p off : Nat) (own : Bool × Option Nat) : Nat :=
  (putBits (putBits (s.rd (regKey p off)) 8 8 (own.2.getD 0)) 16 1 (if own.2.isSome then 1 else 0)).toNat

/-- Whether the one-second mark holds a GPIO pin high (R244). -/
def State.markPin (s : State) (pin : Nat) : Bool := s.markHigh.any fun m => m.1 == pin && decide (s.walltime < m.2)

/-- Whether the normal world may see what concerns electrode `e`, or object `o` (chapter 13). -/
def State.seesElec (s : State) (sec : Bool) (e : Nat) : Bool := sec || !(s.grpOwner (e / 4)).1
def State.seesObj (s : State) (sec : Bool) (o : Nat) : Bool := sec || !(s.objOwner o).1

def State.tchView (s : State) (sec : Bool) (off : Nat) : Option Nat :=
  let elecs (w : Nat) := bitmap 32 fun e => bit w e && s.seesElec sec e
  let roles (e0 w : Nat) := bitmap 32 fun b => bit w b && s.seesElec sec (e0 + b / 2)
  let touched := bitmap 40 fun o => s.objSt o = oTOUCHED && s.seesObj sec o
  let rx := s.gf PG_TCH R.TCH_VIEW_SEL_RX
  let key := if s.tf PG_TCH R.TCH_VIEW_SEL_MUTUAL then nodeKey (s.gf PG_TCH R.TCH_VIEW_SEL_TX) rx else rx
  let b := s.base key
  if off = 0x58 || off = 0x5C then some (elecs (s.rd (regKey PG_TCH off)).toNat)
  else if off = 0x60 then some (roles 0 (s.plainWord PG_TCH 0x60).toNat)
  else if off = 0x64 then some (roles 16 (s.plainWord PG_TCH 0x64).toNat)
  else if off = 0x68 then some (elecs (bitmap 32 fun e => (s.base e).prov))
  else if off = 0x6C then some touched
  else if off = 0x70 then some (touched / 4294967296)
  else if off = 0x78 then some (if s.seesElec sec rx then b.raw % 65536 + b.val % 65536 * 65536 else 0)
  else if off = 0x7C then some (if s.seesElec sec rx then ofInt 16 (s.deltaOf key) + (if b.prov then 65536 else 0) else 0)
  else if 0x80 ≤ off && off < 0xA0 then some (s.ownWord PG_TCH off (s.grpOwner ((off - 0x80) / 4)))
  else if 0x100 ≤ off && off < 0x380 then
    some (if s.seesObj sec ((off - 0x100) / 16) then (s.plainWord PG_TCH off).toNat else 0)
  else if 0x400 ≤ off then
    let o := (off - 0x400) / 4
    some (if s.seesObj sec o then (putBits (s.rd (regKey PG_TCH off)) 5 1 (if s.objProv o then 1 else 0)).toNat else 0)
  else none

def State.hapView (s : State) (off : Nat) : Option Nat :=
  let n := (off - 0x80) / 0x20
  if 0x80 ≤ off && off < 0x100 && off % 0x20 = 0x10 then some (putBits (s.rd (regKey PG_HAP off)) 8 7 (s.dutyNow n)).toNat
  else if 0x80 ≤ off && off < 0x100 && off % 0x20 = 0x14 then some (s.ownWord PG_HAP off (s.hapOwner n))
  else none

def State.audView (s : State) (off : Nat) : Option Nat :=
  let n := (off - 0x100) / 0x10
  if 0x100 ≤ off && off < 0x200 && off % 0x10 = 8 then
    some (putBits (putBits (s.rd (regKey PG_AUD off)) 8 2 (s.strClass n)) 16 8 (s.duckNow n)).toNat
  else if 0x100 ≤ off && off < 0x200 && off % 0x10 = 0xC then some (s.ownWord PG_AUD off (s.strOwner n))
  else none

/-- The GPIO page; the pins of a bank whose supply was bad are inputs (R484, R505). -/
def State.gpioView (s : State) (sec : Bool) (off : Nat) : Option Nat :=
  let dir := (s.rd (regKey PG_GPIO 0x40)).toNat
  let out := (s.rd (regKey PG_GPIO 0x44)).toNat
  let inp := (s.rd (regKey PG_GPIO 0x48)).toNat
  let sees (pin : Nat) := sec || !(s.gpioOwner (pin / 8)).1
  if off = 0x48 then some (bitmap 32 fun b => sees b && (if s.bankBad (1 + b / 16) then bit inp b
      else s.markPin b || (if bit dir b then bit out b else bit inp b)))
  else if off = 0x40 || off = 0x44 || off = 0x54 || off = 0x58 then
    some (bitmap 32 fun b => sees b && bit (s.rd (regKey PG_GPIO off)).toNat b)
  else if off = 0x4C || off = 0x50 then
    some (bitmap 32 fun b => sees (b / 2 + (if off = 0x50 then 16 else 0)) && bit (s.rd (regKey PG_GPIO off)).toNat b)
  else if 0x80 ≤ off && off < 0x90 then some (s.ownWord PG_GPIO off (s.gpioOwner ((off - 0x80) / 4)))
  else none

/-! BIST (chapter 15). -/

def State.bistView (s : State) (off : Nat) : Option Nat :=
  let f := s.bistFails.getD (s.gf PG_BIST R.BIST_FAIL_SEL_INDEX) (0, 0, 0)
  let k := s.gf PG_BIST R.BIST_SRAM_SEL_MACRO
  let m := s.macro k
  if off = 0x50 then some f.1
  else if off = 0x54 then some (f.1 / 4294967296)
  else if off = 0x58 then some (f.2.1 % 128 + f.2.2 % 8 * 256 + s.bistCount % 32 * 65536)
  else if off = 0x60 then some (Config.fuseRows k + m.rows % 8 * 8 + (Config.fuseCols k + m.cols) % 4 * 64 + (if m.bad then 256 else 0))
  else if off = 0x98 then some (fget Config.cndRomVersion s.cndVer (s.gf PG_BIST R.BIST_CND_SUBST_CND) % 65536)
  else none

/-- What register `off` of page `p` shows to a world. -/
def State.viewWord (s : State) (sec : Bool) (p off : Nat) : Word :=
  let v : Option Nat :=
    if off = 0x14 then some (s.evtStatus p)
    else if off < 0x40 then none
    else match pageType p with
      | 0x02 => if off = 0x44 then some (s.localTime 0) else if off = 0x48 then some (s.localTime 0 / 4294967296) else none
      | 0x06 => if off < 0x50 then
            let w := (s.rd (regKey p off)).toNat
            some (if bit w 1 then (if sec then w else w / 65536 * 65536 + w % 2) else w)
          else none
      | 0x07 => s.memView p off
      | 0x08 => s.sweepView sec p off
      | 0x09 => s.plazaView sec off
      | 0x0B => s.arcadeView off
      | 0x0D => s.ageView p off
      | 0x0F => s.chnView off
      | 0x10 => if off = 0x88 then some s.ownMap else if off = 0x8C then some (s.ownMap / 4294967296) else none
      | 0x12 => if off = 0x44 then some (Config.fuseDebugEn % 16 + (if Config.fuseDebugKill then 16 else 0))
          else if off = 0x48 then some s.dbgEffective else none
      | 0x14 => s.gpioView sec off
      | 0x16 => s.tchView sec off
      | 0x17 => s.hapView off
      | 0x18 => s.audView off
      | 0x1B => s.bistView off
      | _ => none
  match v with
  | some n => BitVec.ofNat 32 n
  | none => s.plainWord p off

/-! Latches (R56). -/

/-- The registers that a read of register `off` of page `p` latches: HI of a pair, and what the tables add. -/
def latchSet (p off : Nat) : List Nat :=
  if off = 0x28 then [0x2C]
  else if off < 0x40 then []
  else match pageType p, off with
    | 0x01, 0x50 => [0x54]
    | 0x02, 0x44 => [0x48]
    | 0x02, 0x54 => [0x58]
    | 0x05, 0x44 => [0x48]
    | 0x06, 0x50 => [0x54]
    | 0x06, 0x58 => [0x5C]
    | 0x07, 0x50 => [0x54]
    | 0x08, 0x44 => [0x48]
    | 0x08, 0x68 => [0x6C, 0x70, 0x74, 0x78]
    | 0x08, 0x74 => [0x78]
    | 0x08, 0x80 => [0x84]
    | 0x08, 0x88 => [0x8C]
    | 0x08, 0xA0 => [0xA4]
    | 0x08, 0xA8 => [0xAC]
    | 0x09, 0x1C4 => 0x1C8 :: 0x240 :: (List.range 16).map fun k => 0x200 + 4 * k
    | 0x0B, 0x44 => [0x48]
    | 0x0B, 0x50 => [0x54]
    | 0x0C, 0x60 => [0x64]
    | 0x0C, 0x68 => [0x6C, 0x70, 0x74]
    | 0x0C, 0x70 => [0x74]
    | 0x0C, 0x78 => [0x7C]
    | 0x0D, 0x58 => [0x5C]
    | 0x0D, 0x60 => [0x64]
    | 0x0D, 0x74 => [0x78, 0x7C, 0x80, 0x84, 0x88, 0x8C, 0x90, 0x94, 0x98]
    | 0x0F, 0x68 => [0x6C, 0x70, 0x74]
    | 0x0F, 0x70 => [0x74]
    | 0x0F, 0xB4 => [0xB8, 0xBC]
    | 0x10, 0x40 => [0x44]
    | 0x10, 0x48 => [0x4C]
    | 0x10, 0x78 => [0x7C]
    | 0x10, 0x80 => [0x84]
    | 0x10, 0x88 => [0x8C]
    | 0x10, 0xA0 => [0xA4]
    | 0x10, 0xB0 => [0xB4]
    | 0x11, 0x50 => [0x54]
    | 0x13, o => if 0x100 ≤ o && o < 0x200 && o % 8 = 0 then [o + 4] else []
    | 0x15, 0x40 => [0x44]
    | 0x16, 0x6C => [0x70]
    | 0x1B, 0x50 => [0x54, 0x58]
    | 0x1B, 0x74 => [0x78]
    | 0x1B, 0x9C => [0xA0]
    | _, _ => []

/-- Key of a latched register of a port. -/
def latchKey (port : Port) (k : Nat) : Nat := portNum port * 1099511627776 + k

/-- A read of a register that is answered: a latched register answers its latch; any other answers what it shows, and latches. -/
def State.readLatched (port : Port) (p off : Nat) (s : State) : Word × State :=
  let sec := portSecure port
  if fhas s.latch (latchKey port (regKey p off)) then (fget 0#32 s.latch (latchKey port (regKey p off)), s)
  else
    let l := (latchSet p off).foldl (fun m o => fset m (latchKey port (regKey p o)) (s.viewWord sec p o)) s.latch
    (s.viewWord sec p off, { s with latch := l })

/-- Registers that the SYS island holds (R59). -/
def sysHeld (off : Nat) : Bool := off < 0x10 || off = 0x38 || off = 0x3C

/-- Whether a page's island is stopped for SERVICE or TEST (R23): the TIME island (R29).  The other islands run on there, as their own
chapters use their registers (DEDUCED, log entry 12). -/
def State.islandServed (s : State) (p : Nat) : Bool := p = PG_TIME && s.inService p

/-- Whether a register exists on a page (R52). -/
def regExists (p off : Nat) : Bool := pageExists p && (off < 0x40 || (findRow (pageRows p) off).isSome)
/-- Whether a register is secure-only (R53): by its page or by its table. -/
def regSecure (p off : Nat) : Bool :=
  secureOnlyPage p || (0x40 ≤ off && match findRow (pageRows p) off with | some r => r.secure | none => false)

/-- The code with which an access to a register stops short, and the page that captures it (R18, R23, R52, R53, R59, R75, R466). -/
def State.accessCode (s : State) (sec : Bool) (p off : Nat) : Option (Nat × Nat) :=
  if companionPage p && !sysHeld off && !s.d2dOk then some (LINK_ERROR, PG_SYS)
  else if !regExists p off then some (BAD_ARG, PG_SYS)
  else if regSecure p off && !sec then some (SECURE_DENIED, p)
  else if (p = PG_SEC && s.patching) || (!sysHeld off && s.islandServed p) then some (IN_SERVICE, PG_SYS)
  else if !sysHeld off && s.pstate p = pOFF then some (WRONG_STATE, PG_SYS)
  else none

/-- A word of an SDT entry (R83). -/
def State.sdtWord (s : State) (i w : Nat) : Nat :=
  let e := s.surf i
  match w with
  | 0 => e.base
  | 1 => e.base / 4294967296
  | 2 => e.format % 256 + e.state % 4 * 256 + (if e.secure then 1024 else 0) + e.inst % 256 * 65536
  | 3 => cornerWord e.width e.height
  | 4 => e.stride
  | 5 => e.gen
  | 6 => e.ct
  | 7 => e.ct / 4294967296
  | 8 => e.seq
  | 9 => (s.boundActive i).foldl (fun m h => m + 2 ^ h) 0 + (s.boundShadow i).foldl (fun m h => m + 2 ^ h) 0 * 256
  | _ => 0

/-- The parts of the management space (R51). -/
inductive Region51 where
  | msix (word : Nat)
  | pba (word : Nat)
  | page (p off : Nat)
  | sdt (i w : Nat)
  | inst (i w : Nat)
  | modes (w : Nat)
  | reserved
  deriving DecidableEq, Repr

/-- What an offset names, for a port (R51). -/
def region51 (port : Port) (off : Nat) : Region51 :=
  if off < 0x8000 then (if port = .bar0 then .msix (off / 4) else .reserved)
  else if off < 0x8100 then (if port = .bar0 then .pba ((off - 0x8000) / 4) else .reserved)
  else if off < 0x100000 then .reserved
  else if off < 0x200000 then .page ((off - 0x100000) / 0x1000) ((off - 0x100000) % 0x1000 / 4 * 4)
  else if off < 0x800000 then .reserved
  else if off < 0x840000 then .sdt ((off - 0x800000) / 64) ((off - 0x800000) % 64 / 4)
  else if off < 0xC00000 then .reserved
  else if off < 0xC10000 then .inst ((off - 0xC00000) / 256) ((off - 0xC00000) % 256 / 4)
  else if off < 0xD00000 then .reserved
  else if off < 0xD10000 then .modes ((off - 0xD00000) / 4)
  else .reserved

/-- A word of the pending bit array: bit `v` is 1 while a source requests vector `v` and the vector is masked (R51, R68).  DEDUCED: the
manual takes the array from the PCIe base specification and gives it no rule of its own. -/
def State.pbaWord (s : State) (w : Nat) : Nat :=
  bitmap 32 fun b => bits (s.rd (16 * (32 * w + b) + 12)) 0 1 = 1 && s.vectorRequested (32 * w + b)

/-- A read of word `lo` of a window of words: a latched word answers its latch; LO of a 64-bit pair latches HI (R56). -/
def State.readPair (port : Port) (key : Nat) (isLo : Bool) (lo hi : Word) (s : State) : Word × State :=
  if fhas s.latch (latchKey port key) then (fget 0#32 s.latch (latchKey port key), s)
  else (lo, if isLo then { s with latch := fset s.latch (latchKey port (key + 4)) hi } else s)

/-- The LO words of the 64-bit values of an SDT entry (R83) and of an instance's entry (R300). -/
def sdtPairLo (w : Nat) : Bool := w = 0 || w = 6
def entPairLo (w : Nat) : Bool := w = 36 || w = 40 || w = 44 || w = 48 || w = 52 || w = 57 || w = 61

/-- A read of the word at an offset from a port: the data, and the state after it (R51 to R59). -/
def State.readReg (port : Port) (off : Nat) (s : State) : Word × State :=
  let sec := portSecure port
  match region51 port off with
  | .msix w => (s.rd (4 * w), s)
  | .pba w => (BitVec.ofNat 32 (s.pbaWord w), s)
  | .page p o =>
    match s.accessCode sec p o with
    | some (code, pg) => (0#32, s.err pg code)
    | none => s.readLatched port p o
  | .sdt i w =>
    let word (w : Nat) : Word := BitVec.ofNat 32 (if !sec && decide (i < s.gf PG_WMARK R.WM_SDT_LEVEL) then 0 else s.sdtWord i w)
    s.readPair port (0x800000 + 64 * i + 4 * w) (sdtPairLo w) (word w) (word (w + 1))
  | .inst i w => s.readPair port (entKey i w) (entPairLo w) (s.rd (entKey i w)) (s.rd (entKey i (w + 1)))
  | .modes w => (if w < 0x180 then modeWord (w / 8) (w % 8) else 0#32, s)
  | .reserved => (0#32, s.err PG_SYS BAD_ARG)

/-- A read with the bytes `be` of a word enabled: those bytes as stored, the others 0; what the read of the word does, this does (R55). -/
def State.readPart (port : Port) (off be : Nat) (s : State) : Word × State :=
  let r := s.readReg port off
  (r.1 &&& BitVec.ofNat 32 (bitmap 32 fun b => bit be (b / 8)), r.2)

/-- A read of `n` bytes from 1 to 4 at any offset: a partial read of each of the words it touches (R55). -/
def State.readBytes (port : Port) (off n : Nat) (s : State) : Word × State :=
  let k := off % 4
  let be := 2 ^ (k + n) - 2 ^ k
  let lo := s.readPart port (off / 4 * 4) (be % 16)
  if k + n ≤ 4 then (lo.1 >>> (8 * k), lo.2)
  else
    let hi := lo.2.readPart port (off / 4 * 4 + 4) (be / 16)
    ((lo.1 >>> (8 * k)) ||| (hi.1 <<< (8 * (4 - k))), hi.2)

/-! Instance windows (R297). -/

/-- The word at an offset of instance `i`'s window; offsets not listed read 0 (R297).  WIN_MEM_USED rounds the sum of R88 up to whole
units (DESIGN CHOICE, log entry 139). -/
def State.winView (s : State) (i off : Nat) : Nat :=
  if off = 0 then s.ent i 0 0 5 + i % 256 * 256
  else if off = 0x04 || off = 0x08 || off = 0x10 || off = 0x14 || off = 0x18 || (0x20 ≤ off && off < 0x40) then (s.win i off).toNat
  else if 0x100 ≤ off && off < 0x200 then
    fget 0 s.fences (32 * i + (off - 0x100) / 8) / (if off % 8 = 4 then 4294967296 else 1)
  else if 0x200 ≤ off && off < 0x2E0 then (s.rd (entKey i ((off - 0x200) / 4))).toNat
  else if off = 0x300 then (s.memUsed i + 4095) / 4096
  else if 0x4000 ≤ off && off < 0x8000 then
    let k := (off - 0x4000) / 4
    if k < s.ent i 4 16 13 then (s.surf (s.ent i 4 0 12 + k)).state % 4 * 256 + (s.surf (s.ent i 4 0 12 + k)).gen % 65536 * 65536 else 0
  else 0

/-- A read of the word at offset `off` of instance `i`'s window: reading LO of a fence latches its HI (R56, R297). -/
def State.winRead (i off : Nat) (s : State) : Word × State :=
  let o := off / 4 * 4
  s.readPair .bar0 (winKey i o) (0x100 ≤ o && o < 0x200 && o % 8 = 0) (BitVec.ofNat 32 (s.winView i o))
    (BitVec.ofNat 32 (s.winView i (o + 4)))

end Sys2Proof.Machine
end

