-- ==== Sys2Proof/Machine/Access.lean ====
section
/-! DEFINITION. Register writes (R52 to R60, R75): who may write what, and what a write to a plain field does. -/

namespace Sys2Proof.Machine

open Sys2Proof

/-! Who may write (R53, R54, R60). -/

/-- Whether a generator whose SECURE is 1, or a secure-owned stream, is routed to TDM port `p` (R445). -/
def State.portGuarded (s : State) (p : Nat) : Bool :=
  ((List.range 4).any fun g => s.tf PG_AUD (R.ALM_CTRL_SECURE g) && s.gf PG_AUD (R.ALM_CTRL_PORT g) = p) ||
    ((List.range 16).any fun n => (s.strOwner n).1 && s.strPort n = p)

/-- Whether a register belongs to a block of its own, whose owner is the secure world (R60, R252, R445, R447, chapter 13). -/
def State.blockDenied (s : State) (p off : Nat) : Bool :=
  if p = PG_CHN then 0x80 ≤ off && off < 0xA0 && s.secureOwned (pgAve ((off - 0x80) / 4))
  else if p = PG_TCH then 0x100 ≤ off && off < 0x380 && (s.objOwner ((off - 0x100) / 16)).1
  else if p = PG_HAP then
    (0x80 ≤ off && off < 0x100 && (s.hapOwner ((off - 0x80) / 0x20)).1) ||
      (0x200 ≤ off && off < 0x400 && (s.hapOwner ((off - 0x200) / 0x80)).1)
  else if p = PG_AUD then
    (0x100 ≤ off && off < 0x200 && (s.strOwner ((off - 0x100) / 0x10)).1) ||
      (0x200 ≤ off && off < 0x240 && s.tf PG_AUD (R.ALM_CTRL_SECURE ((off - 0x200) / 0x10))) ||
      ((off = 0x40 || off = 0x50) && s.portGuarded ((off - 0x40) / 0x10)) || (off = 0x300 && (s.portGuarded 0 || s.portGuarded 1))
  else false

/-- Whether a write of a world to a register is denied as a whole (R53, R60). -/
def State.worldDenied (s : State) (sec : Bool) (p off : Nat) : Bool :=
  !sec && (secureOnlyPage p || secureWritePage p || s.secureOwned p || regSecure p off || (p = PG_QSPI && off = 0x4C) ||
    s.blockDenied p off)

/-- Whether a register belongs to a haptic channel, a stream or an object's electrode group that is in hand-over (R342). -/
def State.handingOver (s : State) (p off : Nat) : Bool :=
  if p = PG_HAP then
    (0x80 ≤ off && off < 0x100 && fhas s.handovers (0x2000 + (off - 0x80) / 0x20)) ||
      (0x200 ≤ off && off < 0x400 && fhas s.handovers (0x2000 + (off - 0x200) / 0x80))
  else if p = PG_AUD then 0x100 ≤ off && off < 0x200 && fhas s.handovers (0x3000 + (off - 0x100) / 0x10)
  else if p = PG_TCH then
    0x100 ≤ off && off < 0x380 && (List.range 8).any fun g => fhas s.handovers (0x1000 + g) && s.objInGroup g ((off - 0x100) / 16)
  else false

/-- Bits of a register that belong to an electrode group or a GPIO bank in hand-over (R342). -/
def State.handingBits (s : State) (p off : Nat) : Nat :=
  if p = PG_GPIO && (off = 0x40 || off = 0x44 || off = 0x54 || off = 0x58) then bitmap 32 fun b => fhas s.handovers (0x4000 + b / 8)
  else if p = PG_GPIO && (off = 0x4C || off = 0x50) then
    bitmap 32 fun b => fhas s.handovers (0x4000 + (b / 2 + (if off = 0x50 then 16 else 0)) / 8)
  else if p = PG_TCH && (off = 0x60 || off = 0x64) then
    bitmap 32 fun b => fhas s.handovers (0x1000 + (b / 2 + (if off = 0x64 then 16 else 0)) / 4)
  else 0

/-- The code with which a write to a register stops short, and the page that captures it (R18, R52, R53, R55, R59, R60, R75, R342,
R403). -/
def State.writeCode (s : State) (sec : Bool) (p off be : Nat) : Option (Nat × Nat) :=
  if companionPage p && !sysHeld off && !s.d2dOk then some (LINK_ERROR, PG_SYS)
  else if !regExists p off then some (BAD_ARG, PG_SYS)
  else if be != 15 || ((p = 15 || p = 17) && unitReg p off) then some (BAD_ARG, p)
  else if s.worldDenied sec p off then some (SECURE_DENIED, p)
  else if (p = PG_SEC && s.patching) || (!sysHeld off && s.islandServed p) then some (IN_SERVICE, PG_SYS)
  else if !sysHeld off && s.pstate p = pOFF then some (WRONG_STATE, PG_SYS)
  else if s.handingOver p off then some (WRONG_STATE, p)
  else none

/-- BAR 0 access is served in every mode but ENUMERATE (R33). -/
def State.portServed (s : State) (port : Port) : Bool := port != .bar0 || s.mode != ENUMERATE

/-- A write of all four bytes to a register: `go`, or the refusal captured (R60). -/
def State.guarded (port : Port) (p off : Nat) (go : State → State) (s : State) : State :=
  if !s.portServed port then s
  else match s.writeCode (portSecure port) p off 15 with
    | none => go s
    | some (code, pg) => s.err pg code

/-- Whether an access to a register waits for the die-to-die link to retrain (R17). -/
def State.waitsD2d (s : State) (p off : Nat) : Bool := companionPage p && !sysHeld off && s.d2dWaits
/-- An access waits. -/
def State.holdAcc (a : HeldAcc) (s : State) : State := { s with d2dHeld := s.d2dHeld ++ [a] }
/-- A write of `v` to a register that a companion page may hold: it waits, or is decided at once (R17, R60). -/
def State.guardedW (port : Port) (p off : Nat) (v : Word) (go : State → State) (s : State) : State :=
  if s.portServed port && s.waitsD2d p off then s.holdAcc (.write port (pageBase p + off) 15 v) else s.guarded port p off go

/-! Plain fields (R57). -/

/-- Bits of a register that a world may write, where fields of one word belong to blocks of their own (R60, R445, R505). -/
def State.openBits (s : State) (sec : Bool) (p off : Nat) : Nat :=
  let all := 0xFFFFFFFF
  if sec then all
  else if p = PG_GPIO && (off = 0x40 || off = 0x44 || off = 0x54 || off = 0x58) then bitmap 32 fun b => !(s.gpioOwner (b / 8)).1
  else if p = PG_GPIO && (off = 0x4C || off = 0x50) then
    bitmap 32 fun b => !(s.gpioOwner ((b / 2 + (if off = 0x50 then 16 else 0)) / 8)).1
  else if p = PG_TCH && (off = 0x60 || off = 0x64) then
    bitmap 32 fun b => !(s.grpOwner ((b / 2 + (if off = 0x64 then 16 else 0)) / 4)).1
  else if p = PG_AUD && 0x200 ≤ off && off < 0x240 && off % 0x10 = 0 then 0xFFFFFFF7
  else all

/-- Bits of a register whose written value is out of range: the field is ignored with BAD_ARG (chapters 11, 15 and 16). -/
def State.badBits (s : State) (p off : Nat) (v : Word) : Nat :=
  let f (lo len : Nat) := bits v lo len
  if p = 14 || p = 15 then
    if off = 0x4C then (if f 0 8 < 60 || 100 < f 0 8 then 0xFF else 0) + (if f 8 4 = 0 then 0xF00 else 0)
    else if off = 0x58 then (if f 0 8 < 10 || 250 < f 0 8 then 0xFF else 0)
    else if off = 0x5C then
      (if f 0 2 = 3 then 3 else 0) +
        (if f 8 8 < 128 || 230 < f 8 8 || (p = 15 && f 8 8 != s.gf 14 R.MEM_SVC_KEEP) then 0xFF00 else 0)
    else 0
  else if p = PG_MON && off = 0x44 then (if f 8 4 = 0 then 0xF00 else 0)
  else if p = PG_GPIO && (off = 0x4C || off = 0x50) then bitmap 32 fun b => f (b / 2 * 2) 2 = 3
  else if p = PG_PERF && 0x80 ≤ off && off < 0x100 then (if 15 < f 0 8 then 0xFF else 0)
  else if p = PG_BIST && off = 0x70 then (if f 4 5 = 0 || 16 < f 4 5 then 0x1F0 else 0)
  else 0

/-- The LO of a writable 64-bit pair, and its HI (R56). -/
def isPairLo (p off : Nat) : Bool :=
  match pageType p with
  | 0x02 => off = 0x54
  | 0x05 => off = 0x44
  | 0x06 => off = 0x50 || off = 0x58
  | 0x08 => off = 0x80 || off = 0x88
  | 0x0B => off = 0x44 || off = 0x50
  | 0x10 => off = 0x40 || off = 0x48 || off = 0x78 || off = 0x80 || off = 0xA0 || off = 0xB0
  | 0x15 => off = 0x40
  | 0x1B => off = 0x74 || off = 0x9C
  | _ => false

/-- Bits `m` of a register, active or shadow, take those of `v`. -/
def State.putActive (p off m : Nat) (v : Word) (s : State) : State :=
  let w : Word := BitVec.ofNat 32 m
  let k := regKey p off
  if w = 0#32 then s else s.wr k ((s.rd k &&& ~~~w) ||| (v &&& w))
def State.putShadow (p off m : Nat) (v : Word) (s : State) : State :=
  let w : Word := BitVec.ofNat 32 m
  let k := regKey p off
  if w = 0#32 then s
  else
    let s := { s with shadow := fset s.shadow k ((s.shadowOf k &&& ~~~w) ||| (v &&& w)) }
    if s.gf p R.COMMIT_STATUS_STATE = 0 then s.sf p R.COMMIT_STATUS_STATE 1 else s

/-- The plain fields of a register row that lie within `m` take a written value: RW and RWL at once, RWS in the shadow, W1C clears. -/
def State.putRow (r : RegRow) (p off m : Nat) (v : Word) (s : State) : State :=
  let locked := s.tf p R.LOCK_LOCKED
  let rwl := if locked then 0 else r.rwl
  let s := s.putActive p off ((r.rw ||| rwl) &&& m) v
  let s := s.putActive p off (r.w1c &&& v.toNat) 0#32
  s.putShadow p off (r.rws &&& m) v

/-- A word that stands for a write to LO held until HI is written (R56). -/
def State.takeHeld (p off : Nat) (go : Word → State → State) (s : State) : State :=
  let k := regKey p off
  if fhas s.loHeld k then go (fget 0#32 s.loHeld k) { s with loHeld := fdel s.loHeld k } else s

/-- A journal's base while it is enabled, and the service ring's while ENABLE is 1. -/
def State.baseHeld (s : State) (p off : Nat) : Bool :=
  ((p = PG_JRN_N || p = PG_JRN_S) && (off = 0x40 || off = 0x44) && s.tf p R.JRN_CTRL_ENABLE) ||
    (p = PG_SEC && (off = 0x40 || off = 0x44) && s.tf p R.SEC_SVC_CTRL_ENABLE)

/-- The code with which a write to plain fields is refused in part or whole (R57, R60, R75, R342): a base that is held; a field out of
range; a field of another world's block; an RWL field after LOCK; a field of a block in hand-over. -/
def State.plainCode (s : State) (sec : Bool) (p off : Nat) (v : Word) : Option Nat :=
  match findRow (pageRows p) off with
  | none => none
  | some r =>
    let busy := v.toNat &&& s.handingBits p off &&& (r.rw ||| r.rws) != 0
    let denied := v.toNat &&& (0xFFFFFFFF ^^^ s.openBits sec p off) &&& (r.rw ||| r.rws) != 0
    let locked := s.tf p R.LOCK_LOCKED && r.rwl != 0 &&
      (r.rw ||| r.rws ||| r.w1c = 0 || (v ^^^ s.rd (regKey p off)) &&& BitVec.ofNat 32 r.rwl != 0#32)
    if s.baseHeld p off then some WRONG_STATE
    else if s.badBits p off v != 0 then some BAD_ARG
    else if denied then some SECURE_DENIED
    else if locked then some NO_RIGHT
    else if busy then some WRONG_STATE else none

/-- The plain fields open to the writer take the value; LO of a pair is held until HI is written (R56). -/
def State.plainPut (sec : Bool) (p off : Nat) (v : Word) (s : State) : State :=
  match findRow (pageRows p) off with
  | none => s
  | some r =>
    let m := s.openBits sec p off &&& (0xFFFFFFFF ^^^ (s.badBits p off v ||| s.handingBits p off))
    if isPairLo p off then { s with loHeld := fset s.loHeld (regKey p off) v }
    else if 4 ≤ off && isPairLo p (off - 4) then
      (s.takeHeld p (off - 4) fun w s => s.putRow r p (off - 4) m w).putRow r p off m v
    else s.putRow r p off m v

/-- An accepted write to the plain fields of a register (R56, R57, R60, R75). -/
def State.plainWrite (sec : Bool) (p off : Nat) (v : Word) (s : State) : State :=
  match s.plainCode sec p off v with
  | none => s.plainPut sec p off v
  | some c => if s.baseHeld p off then s.err p c else (s.plainPut sec p off v).err p c

end Sys2Proof.Machine
end

