-- ==== Sys2Proof/Machine/SysGo.lean ====
section
/-! DEFINITION. Requests that register writes make of the SYS island (R34 to R42, R61, R62, R346), of any page's header (R57 to
R70), and of the journals (R79, R80); reset (R36, R489) and the die-to-die link (R16 to R19). -/

namespace Sys2Proof.Machine

open Sys2Proof

/-- A request that a write makes: the refusal it meets, what a refusal does, and its effect. -/
structure Act where
  code : State → Option Nat := fun _ => none
  refused : Nat → State → State := fun _ s => s
  go : State → State

/-- A request is decided and carried out (R75). -/
def Act.run (a : Act) (s : State) : State :=
  match a.code s with
  | some c => a.refused c s
  | none => a.go s

/-! Reset (R10, R36, R489). -/

/-- The state while the unit is held in reset: all that RESET_N clears is cleared; what the board and the host hold, the banks
sensed, the strap sampled, the TAP and TRIPPED stand (R348, R483, R484, R503). -/
def State.inReset (s : State) : State :=
  let t : State := { State.reset with
    pending := s.pending, freeCtr := s.freeCtr, hostOut := s.hostOut, chainOut := s.chainOut, flashOut := s.flashOut
    reply := s.reply, smpOut := s.smpOut, strapMaster := s.strapMaster, bank33 := s.bank33, rstHold := s.rstHold
    jtagHold := s.jtagHold, perstLow := s.perstLow, tapReset := s.tapReset
    tapIr := s.tapIr }
  let t := if s.gf PG_MON R.MON_STATUS_BANK_BAD = 0 then t else t.sf PG_MON R.MON_STATUS_BANK_BAD (s.gf PG_MON R.MON_STATUS_BANK_BAD)
  if s.tf PG_MON R.MON_STATUS_TRIPPED then t.sf PG_MON R.MON_STATUS_TRIPPED 1 else t

/-- The transition to ENUMERATE: the reset step and its end, from mode `old` (R34, R36).  Every enabled block initialises (R61); a
unit with CHAIN_MASTER high is the master, takes address 0 and keeps the reference time (R230, R241, R483). -/
def State.restart (old : Nat) (s : State) : State :=
  let s := s.inReset
  let s := forEach allPages (fun p s => if s.tf p R.PAGE_CTRL_ENABLE then s.setPState p pINIT else s) s
  let s := s.sf PG_CHN R.CHN_STATUS_MASTER (if s.strapMaster then 1 else 0)
  let s := if s.strapMaster then (s.takeAddr 0 none).setTimeSt tMASTER else s
  let s := s.s64 PG_SYS R.SYS_MODE_TIME_LO_TIME R.SYS_MODE_TIME_HI_TIME (s.localTime 1)
  let s := (s.sf PG_SYS R.SYS_STATE_TRANSITION 0).raise PG_SYS 0 { d6 := old, d7 := ENUMERATE }
  if s.tf PG_MON R.MON_STATUS_TRIPPED then s.raise PG_MON 3 {} else s

/-- Conditions end; once none is left the unit restarts as from RESET_N (R489, R490). -/
def State.endReset (u s : State) : State := if !u.rstHold.isEmpty && s.rstHold.isEmpty then s.restart 0 else s

/-- A bank supply in mV: whether it lies in the 3.3 V band, or in the 1.8 V band (R484, R485). -/
def bank33mv (mv : Nat) : Bool := 3135 ≤ mv && mv ≤ 3465
def bank18mv (mv : Nat) : Bool := 1710 ≤ mv && mv ≤ 1890

/-- RESET_N rises: the strap and the bank supplies are sampled (R483, R484). -/
def State.resetRises (strap : Bool) (banks : List Nat) (u s : State) : State :=
  let on := (List.range 5).filter fun k => bank33mv (banks.getD k 0)
  let bad := bitmap 5 fun k => !bank33mv (banks.getD k 0) && !bank18mv (banks.getD k 0)
  let old := if u.rstHold.isEmpty && u.tf PG_SYS R.SYS_STATE_TRANSITION = false then u.mode else 0
  let s := { s with strapMaster := strap, bank33 := on }.sf PG_MON R.MON_STATUS_BANK_BAD bad
  if s.rstHold.isEmpty then s.restart old else s

/-! Device modes. -/

/-- The code with which a mode request is refused (R38, R41, R42). -/
def State.modeCode (s : State) (sec : Bool) (target : Nat) : Option Nat :=
  refusal [
    (target != RUNMODE && target != QUIESCE && target != CONFIGURE, BAD_ARG),
    (target = QUIESCE && !sec && !s.tf PG_SYS R.SYS_SEC_CTRL_NW_QUIESCE_OK, SECURE_DENIED),
    (s.tf PG_SYS R.SYS_STATE_TRANSITION ||
      (target = RUNMODE && !(s.mode = CONFIGURE && s.tf PG_SYS R.SYS_SEC_CTRL_SEC_READY)) ||
      (target = QUIESCE && !(s.mode = RUNMODE || s.mode = SERVICEMODE || s.mode = CONFIGURE)) ||
      (target = CONFIGURE && s.mode != QUIESCE), WRONG_STATE)]

/-- A mode request is refused (R41, R50): word 7 is the world. -/
def State.modeRefused (sec : Bool) (target code : Nat) (s : State) : State :=
  ((s.sf PG_SYS R.SYS_MODE_REQ_RESULT code).err PG_SYS code).raise PG_SYS 2
    { status := code, d6 := target, d7 := if sec then 1 else 0 }

/-- Pages in TEST leave it, their tests ending with CANCELLED (R39 step 3, R452). -/
def State.testsEnd (s : State) : State :=
  (forEach (allPages.filter fun p => s.pstate p = pTEST) (fun p s => s.setPState p pINIT) s).bistOver CANCELLED

/-- Entry to QUIESCE begins (R34, R39). -/
def State.quiesceBegin (s : State) : State :=
  let s := ((s.sf PG_SYS R.SYS_SEC_CTRL_SEC_READY 0).sf PG_SYS R.SYS_STATE_SEC_READY 0).sf PG_SYS R.SYS_MODE_REQ_BUSY 1
  let s := { s.sf PG_SYS R.SYS_STATE_TRANSITION 1 with quiescing := true, qcancelAt := some s.walltime }
  s.testsEnd.rangeEnd CANCELLED

/-- The device has changed mode: heads, scanning and generators follow (R33). -/
def State.modeFollow (s : State) : State := s.headsEval.scanCheck.alarmCheck

/-- An accepted mode request (R34): RUN and CONFIGURE are entered at once, QUIESCE after its stop sequence.  On the way to CONFIGURE
memory leaves self-refresh and the heads in RUN relock (R378; DEDUCED, log entry 63). -/
def State.modeGo (target : Nat) (s : State) : State :=
  let s := s.sf PG_SYS R.SYS_MODE_REQ_RESULT OK
  if target = QUIESCE then s.quiesceBegin
  else if target = RUNMODE then ((s.modeEnter RUNMODE).serviceCount).modeFollow
  else
    let s := (s.sf PG_SYS R.SYS_STATE_TRANSITION 1).leaveRefresh
    let s := forNat 8 (fun h s => if s.headSt h = hRUN then s.goRelock h else s) s
    (s.modeEnter CONFIGURE).modeFollow

/-- A write of SYS_MODE_REQ.TARGET: it is stored, and requests the mode. -/
def modeAct (sec : Bool) (target : Nat) : Act where
  code s := s.modeCode sec target
  refused c s := (s.sf PG_SYS R.SYS_MODE_REQ_TARGET target).modeRefused sec target c
  go s := (s.sf PG_SYS R.SYS_MODE_REQ_TARGET target).modeGo target

/-- A write of SYS_SEC_CTRL.SEC_READY, which SYS_STATE copies; 1 locks the watermarks (R328). -/
def secReadyAct (v : Bool) : Act where
  go s :=
    let s := (s.sf PG_SYS R.SYS_SEC_CTRL_SEC_READY (if v then 1 else 0)).sf PG_SYS R.SYS_STATE_SEC_READY (if v then 1 else 0)
    if v then s.sf PG_WMARK R.LOCK_LOCKED 1 else s

/-- SYS_SEC_CTRL.DEVICE_RESET (R34, R36). -/
def deviceResetAct : Act where
  go s := s.restart s.mode

/-- 10 ms after a QUIESCE request, lists still running are cancelled at their commands, and copies with them (R39). -/
def State.quiesceCancel (s : State) : State :=
  match s.qcancelAt with
  | none => s
  | some t =>
    if !s.quiescing || s.walltime < t + 10000000 then s
    else
      let qs := (s.lists.filter fun p => p.2.st != .idle).map (·.1)
      let ids := s.cmdsWhere fun c => qs.contains c.q && (c.op = 0x40 || c.op = 0x41 || c.op = 0x42)
      let s := forEach qs (fun q s => s.cancelList q) s
      { forEach ids (fun id s => s.cmdDone id CANCELLED 0) s with qcancelAt := none }

/-- The write buffers have drained and no list runs: memory enters self-refresh and the mode QUIESCE (R39). -/
def State.quiesceDone (s : State) : State :=
  if !s.quiescing || !s.wbuf.isEmpty || !s.wwait.isEmpty || s.lists.any (fun p => p.2.st != .idle) then s
  else
    let s := { s with quiescing := false, qcancelAt := none }.selfRefresh
    ((s.sf PG_SYS R.SYS_MODE_REQ_BUSY 0).modeEnter QUIESCE).consoleMode.headsEval

/-! The die-to-die link (R16 to R19). -/

/-- A page state changes with STATE_CHANGED, and its block runs on as it was (R18). -/
def State.stateOnly (p new : Nat) (s : State) : State :=
  let old := s.pstate p
  let s := (s.sf p R.PAGE_STATE_STATE new).raise p 29 { d6 := old, d7 := new }
  let s := if old = pSERVICE then s.sf p R.PAGE_CTRL_SERVICE_REQ 0 else if old = pTEST then s.sf p R.PAGE_CTRL_TEST_REQ 0 else s
  (if s.bistTarget p then s.bistOver CANCELLED else s).serviceCount

/-- The die-to-die link is down: SYS_D2D_STATUS and SYS_STATE show it, and the companion die runs on alone (R18, R19). -/
def State.d2dDown (s : State) : State :=
  { (s.sf PG_SYS R.SYS_D2D_STATUS_LINK_UP 0).sf PG_SYS R.SYS_STATE_D2D_UP 0 with
    d2dDownAt := some (s.d2dDownAt.getD s.walltime) }.consoleLinkDown

/-- A transfer failed and was replayed; after 8 failures in a row the link goes down and retrains (R16, R17). -/
def State.d2dReplay (consecutive : Nat) (s : State) : State :=
  if !s.tf PG_SYS R.SYS_D2D_STATUS_LINK_UP then s
  else
    let s := s.bump PG_SYS R.SYS_D2D_STATUS_REPLAY_COUNT 1
    if consecutive < 8 then s else { s with d2dTrying := true, d2dTryAt := s.walltime }.d2dDown

/-- A companion page goes to FAULT by R18, which keeps the state it had. -/
def State.r18Fault (p : Nat) (s : State) : State :=
  if s.pstate p = pFAULT then s
  else ({ s with onlyR18 := fset s.onlyR18 p (s.pstate p) }.sf p R.PAGE_STATE_REASON LINK_ERROR).stateOnly p pFAULT

/-- Retraining has failed (R18, R19): every companion page reads FAULT, and the companion die runs on alone.  Each failed retraining
raises D2D_LINK_DOWN (R50). -/
def State.d2dFail (s : State) : State :=
  if s.d2dFailed && !s.d2dTrying then s
  else
    let s := { s with d2dTryAt := if s.d2dTrying then s.d2dTryAt else s.walltime }.d2dDown
    let s := { s with d2dTrying := false, d2dFailed := true }.raise PG_SYS 3 { d6 := s.gf PG_SYS R.SYS_D2D_STATUS_REPLAY_COUNT }
    forEach [96, 97, 98, 99, 100] State.r18Fault s

/-- While the link is down, a retraining starts 100 ms after the last one (R19). -/
def State.d2dRetry (s : State) : State :=
  if s.d2dFailed && !s.d2dTrying && s.d2dTryAt + 100000000 ≤ s.walltime then { s with d2dTrying := true, d2dTryAt := s.walltime }
  else s

/-- A companion page that R18 alone kept in FAULT leaves it (R18): a block that ran ran on, so its page passes through INIT to RUN
with nothing re-initialised; a page disabled in the meantime goes to OFF (DEDUCED, log entry 17). -/
def State.r18Return (x : Nat × Nat) (s : State) : State :=
  let p := x.1
  if s.pstate p != pFAULT then s
  else if !s.tf p R.PAGE_CTRL_ENABLE then s.setPState p pOFF
  else if x.2 = pRUN || x.2 = pSERVICE || x.2 = pTEST then (s.stateOnly p pINIT).stateOnly p pRUN
  else (s.setPState p pINIT).initDone p

/-- The link is up (R17, R18, R19): pages that R18 alone faulted pass through INIT to RUN, and waiting reports are written. -/
def State.d2dUp (s : State) : State :=
  if s.tf PG_SYS R.SYS_D2D_STATUS_LINK_UP then s
  else
    let was := s.d2dDownAt
    let back := s.onlyR18
    let s := { (s.sf PG_SYS R.SYS_D2D_STATUS_LINK_UP 1).sf PG_SYS R.SYS_STATE_D2D_UP 1 with
      d2dTrying := false, d2dFailed := false, d2dDownAt := none, onlyR18 := [] }
    let s := match was with
      | some t => s.raise PG_SYS 4 { d6 := (s.walltime - t) / 1000 }
      | none => s
    (forEach back State.r18Return s).reportsOut.scanCheck

/-! The page header (R61, R62, R65 to R70). -/

/-- Islands that are always secure-owned (R346). -/
def secureIslands : List Nat := [0, 1, 2, 3, 4, 5, 6, 7, 8, 25, 29]

/-- Whether an island is secure-owned (R346). -/
def State.islandSecure (s : State) (i : Nat) : Bool :=
  secureIslands.contains i || (allPages.any fun p => islandOf p = i && s.secureOwned p) ||
    (allBlocks.any fun b => islandOf (blkPage b) = i && s.blkSecure b)

/-- A normal-world attempt to gate a secure-owned island (R346). -/
def State.gateRefused (port : Port) (p : Nat) (s : State) : State :=
  (s.err p SECURE_DENIED).raise PG_WMARK 1 { status := SECURE_DENIED, d6 := p, d7 := portCode port }
/-- Whether a write of `en` to PAGE_CTRL.ENABLE is such an attempt. -/
def State.gates (s : State) (port : Port) (p : Nat) (en : Bool) : Bool :=
  !portSecure port && pageExists p && !en && s.tf p R.PAGE_CTRL_ENABLE && s.islandSecure (islandOf p)

/-- A write of PAGE_CTRL that leaves ENABLE at `en`: `go`, or the refusal (R60, R346). -/
def State.ctrlGuarded (port : Port) (p : Nat) (en : Bool) (go : State → State) (s : State) : State :=
  if s.portServed port && s.gates port p en then s.gateRefused port p else s.guarded port p 0x08 go

/-- ENABLE written 1 (R61). -/
def enableAct (p : Nat) : Act where
  go s :=
    if s.tf p R.PAGE_CTRL_ENABLE then s
    else
      let s := s.sf p R.PAGE_CTRL_ENABLE 1
      if s.pstate p = pOFF then s.setPState p pINIT else s

/-- ENABLE written 0 (R61, R66, R146). -/
def disableAct (p : Nat) : Act where
  go s :=
    if !s.tf p R.PAGE_CTRL_ENABLE then s
    else
      let s := s.sf p R.PAGE_CTRL_ENABLE 0
      if s.pstate p = pOFF then s
      else
        (s.discardCommit p).setPState p pOFF

/-- A write of SERVICE_REQ or TEST_REQ that changes it (R61, R62). -/
def svcAct (p : Nat) (test on : Bool) : Act where
  code s :=
    let f := if test then R.PAGE_CTRL_TEST_REQ else R.PAGE_CTRL_SERVICE_REQ
    if s.tf p f = on || !on then none else s.serviceCode p test
  refused c s := s.err p c
  go s :=
    let f := if test then R.PAGE_CTRL_TEST_REQ else R.PAGE_CTRL_SERVICE_REQ
    if s.tf p f = on then s
    else if on then (s.sf p f 1).setPState p (if test then pTEST else pSERVICE)
    else
      let s := s.sf p f 0
      if s.pstate p = (if test then pTEST else pSERVICE) then s.setPState p pINIT else s

/-- SOFT_RESET (R10, R61, R66) and CLR_COUNTS. -/
def softAct (p : Nat) : Act where
  go s := s.softResetPage p
/-- The registers with counts that CLR_COUNTS clears on a page, each with the bits of it that are no count: EVT_MISS and ERR_COUNT
on every page, the counts of the MEM pages (chapter 11) and of the SWEEP pages (R403; DEDUCED, log entry 129). -/
def countRegs (p : Nat) : List (Nat × Word) :=
  [(0x1C, 0#32), (0x24, 0#32)] ++
    (if pageType p = 0x07 then [(0x68, 0#32), (0x6C, 0#32), (0x70, 0#32), (0x74, 0#32), (0x78, 0#32)]
     else if pageType p = 0x08 then
       [(0x50, 0#32), (0x54, 0#32), (0x58, 0#32), (0x5C, 0#32), (0x60, 0xFFFF#32), (0x98, 0#32), (0x9C, 0#32)]
     else [])
/-- The counts of a page read 0. -/
def State.clearCounts (p : Nat) (s : State) : State :=
  forEach (countRegs p) (fun x s => s.wr (pageBase p + x.1) (s.rd (pageBase p + x.1) &&& x.2)) s
def clrAct (p : Nat) : Act where
  go s := s.clearCounts p

/-- The requests in a write of PAGE_CTRL. -/
def ctrlActs (p : Nat) (v : Word) : List Act :=
  [if bits v 0 1 = 1 then enableAct p else disableAct p, svcAct p false (bits v 1 1 = 1), svcAct p true (bits v 2 1 = 1)] ++
    (if bits v 3 1 = 1 then [softAct p] else []) ++ (if bits v 4 1 = 1 then [clrAct p] else [])

/-- A write of 1s to EVT_STATUS (R57, R70). -/
def evtClearAct (p : Nat) (mask : Word) : Act where
  go s := s.wr (pageBase p + 0x10) (s.rd (pageBase p + 0x10) &&& ~~~mask)

/-- ERR_CAPTURE.VALID written 1. -/
def errClearAct (p : Nat) : Act where
  go s := s.wr (pageBase p + 0x20) 0#32

/-- An error with its DETAIL known (R76). -/
def State.errWith (p code detail : Nat) (s : State) : State :=
  let s := s.bump p R.ERR_COUNT_ERRORS 1
  if s.tf p R.ERR_CAPTURE_VALID then s
  else (((s.sf p R.ERR_CAPTURE_CODE code).sf p R.ERR_CAPTURE_DETAIL detail).sf p R.ERR_CAPTURE_VALID 1).raise p 30
    { d6 := code, d7 := detail }

/-- EVT_ENABLE, COMMIT.GO, COMMIT.ABORT and LOCK (R57, R60, R63, R65, R68). -/
def evtEnableAct (p : Nat) (v : Word) : Act where
  go s := s.wr (pageBase p + 0x18) v
def commitAct (p : Nat) : Act where
  go s := s.commitGo p
def abortAct (p : Nat) : Act where
  go s :=
    let was := s.gf p R.COMMIT_STATUS_STATE = 2
    let s := s.dropShadow p
    if was then s.regionAgesDone p CANCELLED 0 else s
def lockAct (p : Nat) : Act where
  go s := s.sf p R.LOCK_LOCKED 1

/-! Journals (R79, R80). -/

/-- Whether the ring that a write of JRN_CTRL would enable lies in the wrong part of DRAM (R79). -/
def State.jrnPlaceBad (s : State) (p size : Nat) : Bool :=
  let b := s.g64 p R.JRN_BASE_LO_BASE R.JRN_BASE_HI_BASE / 4096 * 4096
  if p = PG_JRN_S then decide (s.wmDram < b + 4096 * 2 ^ size) else decide (b < s.wmDram)

/-- The JOURNAL_GAP record of a journal with a free slot after drops (R80). -/
def State.jrnGapOut (p : Nat) (s : State) : State :=
  let lost := s.gf p R.JRN_LOST_COUNT
  if lost = 0 || s.jrnFull p || !s.tf p R.JRN_CTRL_ENABLE then s
  else
    let r := s.record p 0x1520 { d6 := lost, time := some (fget 0 s.jrnGap p) }
    ((s.stampSeq p).sf p R.JRN_LOST_COUNT 0).jrnPut p r

/-- A write of JRN_CTRL (R79): SIZE holds while ENABLE is 1; a rise of ENABLE clears both indexes, which frees every slot (R80). -/
def jrnCtrlAct (p : Nat) (v : Word) : Act where
  code s :=
    let on := s.tf p R.JRN_CTRL_ENABLE
    refusal [
      ((12 < bits v 1 4) || (!on && bits v 0 1 = 1 && s.jrnPlaceBad p (bits v 1 4)), BAD_ARG),
      (on && bits v 1 4 != s.gf p R.JRN_CTRL_SIZE, WRONG_STATE)]
  refused c s :=
    let s := if s.tf p R.JRN_CTRL_ENABLE then (s.sf p R.JRN_CTRL_ENABLE (bits v 0 1)).sf p R.JRN_CTRL_THRESH (bits v 16 16) else s
    s.err p c
  go s :=
    let rises := !s.tf p R.JRN_CTRL_ENABLE && bits v 0 1 = 1
    let s := ((s.sf p R.JRN_CTRL_ENABLE (bits v 0 1)).sf p R.JRN_CTRL_SIZE (bits v 1 4)).sf p R.JRN_CTRL_THRESH (bits v 16 16)
    if rises then ((s.sf p R.JRN_WR_INDEX 0).sf p R.JRN_RD_INDEX 0).jrnGapOut p else s

/-- A write of JRN_RD (R80): where a slot frees after drops, JOURNAL_GAP is written. -/
def jrnRdAct (p : Nat) (v : Word) : Act where
  go s := (s.sf p R.JRN_RD_INDEX (bits v 0 19)).jrnGapOut p

end Sys2Proof.Machine
end

