-- ==== Sys2Proof/Machine/Bist.lean ====
section
/-! DEFINITION. The BIST and QSPI pages (chapter 15): tests, the traffic generator, Conductor substitution, updates, flash
operations. -/

namespace Sys2Proof.Machine

open Sys2Proof

/-! Tests (R449 to R460). -/

/-- Whether KIND applies to the page and the sub-unit exists (R453, R457, R459); a check without a sub-unit takes 0. -/
def bistOk (p u k : Nat) : Bool :=
  if k = 0 then u < 146 && (if p = PG_ARCADE then u < 96 else (pageMacros p).contains u)
  else if k = 1 then (p = 14 || p = 15) && u = 0
  else if k = 2 then 56 ≤ p && p ≤ 63 && u = 0
  else if k = 3 then 40 ≤ p && p ≤ 47 && u = 0
  else if k = 4 then p = PG_CHN && u < 2
  else if k = 5 then p = PG_TCH && u = 0
  else if k = 6 then p = PG_HAP && u < 4
  else if k = 7 then p = PG_AUD && u < 2
  else k = 8 && p = PG_MON && u = 0

/-- Page isolation (R450); the others are port and macro isolation. -/
def bistByPage (p k : Nat) : Bool := !(k = 4 || k = 7 || (k = 0 && p = PG_ARCADE))

/-- The code with which the isolation of a target fails (R449, R450, R456, R459). -/
def State.isolateCode (s : State) (p u k : Nat) : Option Nat :=
  if bistByPage p k then (if s.pstate p = pTEST then none else s.serviceCode p true)
  else if s.pstate p != pRUN then some WRONG_STATE
  else if k = 4 && s.portSt (u = 1) != cDOWN then some WRONG_STATE
  else if k = 7 && bits (s.rd (regKey PG_AUD (0x40 + 0x10 * u))) 0 1 = 1 then some WRONG_STATE
  else none

/-- The code with which BIST_CMD.GO is refused (R449). -/
def State.bistCode (s : State) (sec : Bool) (p u k : Nat) : Option Nat :=
  refusal [
    (companionPage p && !s.d2dOk, LINK_ERROR), (!bistOk p u k || (bistOk p u k && s.isolateCode p u k = some BAD_ARG), BAD_ARG),
    (!sec && s.secureOwned p, SECURE_DENIED),
    (s.tf PG_BIST R.BIST_STATUS_BUSY || (bistOk p u k && (s.isolateCode p u k).isSome), WRONG_STATE)]

/-- The content of a macro under test is lost, and its block re-initialises it (R456): the entries it holds return to their reset values
(DEDUCED, log entry 160).  The bitmap's macros are cleared as their pages leave TEST, and the tile store's slots are dropped at GO. -/
def State.macroLost (m : Nat) (s : State) : State :=
  if m = 124 then { s with sdt := [] }
  else if m = 125 then { s with insts := [], fences := [] }
  else if 96 ≤ m && m ≤ 119 then { s with spans := s.spans.filter fun x => x.1 / 262144 != (m - 96) / 3 }
  else s

/-- An accepted GO: the target is isolated and the first attempt runs (R452). -/
def State.bistStart (p u k : Nat) (s : State) : State :=
  let s := if bistByPage p k && s.pstate p != pTEST then (s.sf p R.PAGE_CTRL_TEST_REQ 1).setPState p pTEST else s
  let s := ({ s with bistRun := some (p, u, k) }.sf PG_BIST R.BIST_STATUS_BUSY 1).sf PG_BIST R.BIST_STATUS_STATE 1
  if k = 1 then { s with bistFails := [], bistCount := 0 }
  else if k = 0 && p = PG_ARCADE then s.dropSlots fun n => n / 16 = u && n < 65536
  else if k = 0 then s.macroLost u
  else s

/-- BIST_CMD.GO and ABORT. -/
def bistGoAct (sec : Bool) (p u k : Nat) : Act where
  code s := s.bistCode sec p u k
  refused c s := (s.sf PG_BIST R.BIST_STATUS_RESULT c).err PG_BIST c
  go s := s.bistStart p u k
def bistAbortAct : Act where
  go s :=
    match s.bistRun with
    | some (p, _, k) => if bistByPage p k then s.setPState p pINIT else s.bistOver CANCELLED
    | none => s

/-- A test ends with `code`, and a page that it isolated initialises again (R450, R452). -/
def State.bistFinish (code : Nat) (s : State) : State :=
  match s.bistRun with
  | some (p, _, k) => let s := s.bistOver code; if bistByPage p k then s.setPState p pINIT else s
  | none => s

/-- March C− of a macro ends and it is repaired where the spares that its fuses left suffice (R454, R456). -/
def State.repairMacro (m rows cols : Nat) (s : State) : State :=
  { s with macros := fmod {} s.macros m fun x =>
      if Config.fuseRows m + x.rows + rows ≤ 4 && Config.fuseCols m + x.cols + cols ≤ 2 then { rows := x.rows + rows, cols := x.cols + cols, bad := false }
      else { x with bad := true } }

/-- The SRAM test ends (R456). -/
def State.bistSram (p m rows cols : Nat) (s : State) : State :=
  let s := s.repairMacro m rows cols
  let bad := (s.macro m).bad
  let s := s.bistFinish (if bad then NO_RESOURCE else OK)
  if bad && p = PG_ARCADE then s.raise PG_BIST 2 { d6 := m } else s

/-- A failing word of a DRAM test: into the list and the Sweeper's log, marked for repair (R457). -/
def State.bistFailWord (g : Nat) (x : Nat × Nat) (s : State) : State :=
  let ch := eccChannel (x.1 % 128 / 8) x.2
  let s := { s with
    bistCount := min (s.bistCount + 1) 16
    bistFails := if s.bistFails.length < 16 then s.bistFails ++ [(x.1, x.2, ch)] else s.bistFails }
  let ent : LogEnt := { state := 4, addr := x.1, channel := ch, position := x.2, marked := true, at_ := s.localTime (5 + g) }
  match s.logFind g x.1 with
  | some e => s.setLog g e { ent with repair := (s.logEnt g e).repair }
  | none => match s.logSlot g with
    | some e => s.setLog g e ent
    | none => s

/-- An attempt of an analogue check ends (R71, R452, R459, R460). -/
def State.bistCheck (p u k : Nat) (pass : Bool) (code mask errors : Nat) (s : State) : State :=
  let code := if k = 3 && code = TIMEOUT then TIMEOUT else LINK_ERROR
  let s := s.sf PG_BIST R.BIST_DETAIL_DETAIL (mask % 65536 + min errors 65535 * 65536)
  let retried := s.gf PG_BIST R.BIST_STATUS_STATE = 2
  if pass then
    let s := if k = 2 then s.setDp (p - 56) fun x => { x with bistOpen := 0 } else s
    if retried then
      let ev : Ev := { status := RETRIED_OK, d6 := p * 256 + u, d7 := s.gf PG_BIST R.BIST_DETAIL_DETAIL }
      ((s.bump p R.ERR_COUNT_TRANSIENT 1).emit PG_BIST 0x1B01 ev).bistFinish RETRIED_OK
    else s.bistFinish OK
  else if !retried then s.sf PG_BIST R.BIST_STATUS_STATE 2
  else
    let s := s.raise PG_BIST 1 { status := code, d6 := p * 256 + u, d7 := s.gf PG_BIST R.BIST_DETAIL_DETAIL }
    let s := s.err p code
    let s := if k = 2 then (s.setDp (p - 56) fun x => { x with bistOpen := mask % 16 }).sf p R.DPL_STATUS_LANE_OPEN
        (s.gf p R.DPL_STATUS_LANE_OPEN ||| mask % 16) else s
    s.bistFinish code

/-- An attempt of the test in progress ends. -/
def State.bistAttempt (r : BistRes) (s : State) : State :=
  match s.bistRun, r with
  | some (p, m, 0), .sram rows cols => s.bistSram p m rows cols
  | some (p, _, 1), .dram fails =>
    let fails := fails.filter fun x => groupOf (blockOf x.1) = p - 14
    (forEach fails (State.bistFailWord (p - 14)) s).bistFinish (if fails.isEmpty then OK else MEM_ERROR)
  | some (p, u, k + 2), .check pass code mask errors => s.bistCheck p u (k + 2) pass code mask errors
  | _, _ => s

/-- The soft repair of ENUMERATE ends (R454, R455): what an unrepairable macro does to a block that has left INIT happens now. -/
def State.softRepair (needs : List (Nat × Nat × Nat)) (s : State) : State :=
  if s.softDone || s.mode != ENUMERATE then s
  else
    let s := forEach (needs.filter fun x => x.1 < 146) (fun x s => s.repairMacro x.1 x.2.1 x.2.2) { s with softDone := true }
    forEach (allPages.filter fun p => s.pstate p = pRUN) (fun p s => s.macroEffects p) s

/-! The traffic generator (R458). -/

/-- Start of the generator's range (2 MiB aligned). -/
def State.tgBase (s : State) : Nat := s.g64 PG_BIST R.BIST_TG_BASE_LO_ADDR R.BIST_TG_BASE_HI_ADDR / 2097152 * 2097152

/-- BIST_TG_CTRL.EN. -/
def tgAct (sec on : Bool) : Act where
  code s :=
    if !on || s.tf PG_BIST R.BIST_TG_CTRL_EN then none
    else refusal [
      (!sec && decide (s.tgBase < s.wmDram), SECURE_DENIED),
      (!(s.mode = CONFIGURE || s.mode = FALLBACK) || s.tf PG_BIST R.BIST_STATUS_BUSY, WRONG_STATE)]
  refused c s := s.err PG_BIST c
  go s :=
    if !on then s.sf PG_BIST R.BIST_TG_CTRL_EN 0
    else if s.tf PG_BIST R.BIST_TG_CTRL_EN then s
    else { (s.sf PG_BIST R.BIST_TG_CTRL_EN 1).sf PG_BIST R.BIST_TG_MIN_MBPS 0 with tgFirst := true }

/-- A window of the generator ends (R44, R458). -/
def State.tgWindowEnds (mbps : Nat) (s : State) : State :=
  if !s.tf PG_BIST R.BIST_TG_CTRL_EN then s
  else
    let m := min mbps 262143
    -- the blocks that the window's reads moved, shared by both groups (R355, R458)
    let s := forNat 2 (fun g s => (s.readComes g).bumpW (pgMem g) R.MEM_RD_BLOCKS_BLOCKS (mbps * 100000 / 256)) s
    let low := if s.tgFirst then m else min m (s.gf PG_BIST R.BIST_TG_MIN_MBPS)
    { (s.sf PG_BIST R.BIST_TG_MBPS_MBPS m).sf PG_BIST R.BIST_TG_MIN_MBPS low with tgFirst := false }

/-! The spare Conductor (R463, R464). -/

/-- BIST_CND_SUBST.GO. -/
def substCndAct (c : Nat) : Act where
  code s := refusal [
    (8 < c || s.cndRole c != 0, BAD_ARG), (s.cndSubst.isSome, WRONG_STATE), (s.spareCnd.isNone, NO_RESOURCE)]
  refused r s := (s.sf PG_BIST R.BIST_CND_SUBST_RESULT r).err PG_BIST r
  go s :=
    match s.spareCnd with
    | some n =>
      -- a list in a wait moves at once
      let s := { s with
        cndSubst := some (c, n)
        lists := s.lists.map fun (p : Nat × ListRun) => if p.2.st == ListSt.wait && p.2.cnd == c then (p.1, { p.2 with cnd := n }) else p }
      s.sf PG_BIST R.BIST_CND_SUBST_PENDING 1
    | none => s

/-- The last list has moved: the substitution completes (R463). -/
def State.substCndDone (s : State) : State :=
  match s.cndSubst with
  | none => s
  | some (c, n) =>
    let s := { s with cndSubst := none }.sf PG_BIST R.BIST_CND_SUBST_PENDING 0
    let ok := s.cndRole n = 1 && s.pstate (pgCnd n) = pRUN
    match (if ok then some n else s.spareCnd) with
    | none => (s.sf PG_BIST R.BIST_CND_SUBST_RESULT NO_RESOURCE).err PG_BIST NO_RESOURCE
    | some n =>
      let s := { s with
        lists := s.lists.map fun (p : Nat × ListRun) => if p.2.st != ListSt.idle && p.2.cnd == c then (p.1, { p.2 with cnd := n }) else p }
      (s.sf PG_BIST R.BIST_CND_SUBST_RESULT OK).cndSubstituted c n

/-! Updates (R465 to R467). -/

/-- The update image at address `a` of device DRAM: TARGET, version, and whether its length and CRC are right (R465). -/
def updWords (bs : List Byte) : Nat × Nat × Nat × Nat :=
  (ofLe (bs.take 4), ofLe ((bs.drop 4).take 2), ofLe ((bs.drop 8).take 4), ofLe ((bs.drop 12).take 4))
/-- Whether an update image is well formed: its length in range and its CRC right (R465). -/
def updOk (bs : List Byte) : Bool :=
  let w := updWords bs
  4 ≤ w.2.2.1 && w.2.2.1 ≤ 65536 && w.2.2.1 % 4 = 0 && 16 + w.2.2.1 ≤ bs.length && crc32 ((bs.drop 16).take w.2.2.1) = w.2.2.2

/-- BIST_UPD_SRC, 4 KiB aligned. -/
def State.updSrc (s : State) : Nat := s.g64 PG_BIST R.BIST_UPD_SRC_LO_ADDR R.BIST_UPD_SRC_HI_ADDR / 4096 * 4096
/-- The bytes of the update image in device DRAM. -/
def State.updBytes (s : State) : List Byte :=
  let n := ofLe (s.bytesAt (s.updSrc + 8) 4)
  s.bytesAt s.updSrc (16 + min n 65536)

/-- BIST_UPD_CTRL.GO (R465 to R467). -/
def updAct (kind c : Nat) : Act where
  code s :=
    let bs := s.updBytes
    let w := updWords bs
    refusal [
      (!(kind = 3 || kind = 4) || w.1 != kind || !updOk bs || (kind = 4 && 8 < c), BAD_ARG),
      (decide (s.wmDram < s.updSrc + bs.length), SECURE_DENIED),
      (s.update.isSome || (kind = 4 && s.cndRole c != 1), WRONG_STATE)]
  refused r s := (s.sf PG_BIST R.BIST_UPD_CTRL_RESULT r).err PG_BIST r
  go s := { s with update := some (kind, c, (updWords s.updBytes).2.1) }

/-- An update finishes applying (R466, R467). -/
def State.updDone (s : State) : State :=
  match s.update with
  | none => s
  | some (k, c, v) =>
    let s := { s with update := none }
    let s := if k = 3 then { s with ghVersion := v } else { s with cndVer := fset s.cndVer c v }
    (s.sf PG_BIST R.BIST_UPD_CTRL_RESULT OK).raise PG_BIST 4 { d6 := k, d7 := v }

/-! Flash operations (R477). -/

/-- QSPI_OP.GO. -/
def qspiAct (sec : Bool) (op len : Nat) : Act where
  code s :=
    let a := s.gf PG_QSPI R.QSPI_ADDR_ADDR
    refusal [
      (op = 3 || (op != 2 && (len = 0 || 256 < len)) || (op = 1 && 256 < a % 256 + len) || (op = 2 && a % 65536 != 0), BAD_ARG),
      (!sec && (op = 1 || op = 2) && !s.tf PG_QSPI R.QSPI_CTRL_NW_WRITE_OK, SECURE_DENIED),
      (s.mode = ENUMERATE || s.tf PG_QSPI R.QSPI_OP_STATUS_BUSY, WRONG_STATE)]
  refused c s := (s.sf PG_QSPI R.QSPI_OP_STATUS_RESULT c).err PG_QSPI c
  go s :=
    let a := s.gf PG_QSPI R.QSPI_ADDR_ADDR
    let data := (wordBytes ((List.range 64).map fun k => s.rd (regKey PG_QSPI (0x100 + 4 * k)))).take len
    let out := if op = 1 then [(1, a, data)] else if op = 2 then [(2, a, [])] else []
    { s with qspiOp := some (op, a, len), qspiAt := s.walltime, flashOut := s.flashOut ++ out }.sf PG_QSPI R.QSPI_OP_STATUS_BUSY 1

/-- A flash operation ends with `code`; a READ that succeeds leaves its bytes in QSPI_DATA. -/
def State.qspiEnds (code : Nat) (data : List Byte) (s : State) : State :=
  match s.qspiOp with
  | none => s
  | some (op, a, len) =>
    let s := if op = 0 && code = OK then
        forNat len (fun i s => s.sf PG_QSPI ⟨0x100 + i / 4 * 4, 8 * (i % 4), 8⟩ (data.getD i 0#8).toNat) s else s
    let s := ({ s with qspiOp := none }.sf PG_QSPI R.QSPI_OP_STATUS_BUSY 0).sf PG_QSPI R.QSPI_OP_STATUS_RESULT code
    let s := s.raise PG_QSPI 0 { status := code, d6 := op, d7 := a }
    if code = OK then s else s.err PG_QSPI code

end Sys2Proof.Machine
end

