-- ==== Sys2Proof/Machine/ScanOut.lean ====
section
/-! DEFINITION. Composition, scan-out and genlock (chapters 04 to 06): line jobs, spans, lines, the vertical blank, frame starts,
sync sources, slices, the Arcade's flush and the release of latches. -/

namespace Sys2Proof.Machine

open Sys2Proof

/-- LINE_JOB_RELEASE (R124, R125). -/
def execLineJobRelease (t : Time) (h y : Nat) (s : State) : Host.Outcome State Fault Refusal :=
  nxt t (fun s => if h < 8 then s.lineJob h y else s) s

/-- SPAN_COMPOSE (R125, R130 to R152, R156, R159). -/
def execSpanCompose (t : Time) (h y span slice : Nat) (sram : List (Nat × Nat)) (s : State) : Host.Outcome State Fault Refusal :=
  nxt t (fun s => if h < 8 && slice < 5 then s.spanDone h y span slice sram else s) s

/-- OUTPUT_LINE (R130, R192, R193, R201, R206 to R213). -/
def execOutputLine (t : Time) (h y glassDelay : Nat) (s : State) : Host.Outcome State Fault Refusal :=
  nxt t (fun s => if h < 8 then s.outLine h y glassDelay else s) s

/-- VBLANK_START (R126, R148 to R153, R161, R170, R186, R194). -/
def execVblankStart (t : Time) (h : Nat) (s : State) : Host.Outcome State Fault Refusal :=
  nxt t (fun s => if h < 8 then s.vblank h else s) s

/-- FRAME_START (R168 to R172, R181, R184, R189, R200, R256). -/
def execFrameStart (t : Time) (h : Nat) (s : State) : Host.Outcome State Fault Refusal :=
  nxt t (fun s => if h < 8 then s.frameStarts h else s) s

/-! Sync sources (R176 to R182). -/

/-- No lock within 2 s (R182): the source counts as absent, and the next one is tried. -/
def State.lockLate (h : Nat) (s : State) : State :=
  let st := s.headSt h
  let k := s.source h
  if (st != hLOCKING && st != hRELOCK) || s.locked h || k = 2 || s.walltime < (s.head h).enterAt + 2000000000 then s
  else
    let s := (s.aveRaise h 6 { d6 := k }).setHead h fun x => { x with barred := nadd x.barred k }
    (s.setSource h (s.bestSource h) 0).lockAfresh h

/-- LOCK_TIMEOUT (R182). -/
def execLockTimeout (t : Time) (h : Nat) (s : State) : Host.Outcome State Fault Refusal :=
  nxt t (fun s => if h < 8 then s.lockLate h else s) s

/-- PLL_SETTLED (R170, R179, R182): the PLL has settled with FREE in use. -/
def execPllSettled (t : Time) (h : Nat) (s : State) : Host.Outcome State Fault Refusal :=
  nxt t (fun s =>
    if h < 8 && (s.headSt h = hLOCKING || s.headSt h = hRELOCK) && s.source h = 2 then
      (s.setHead h fun x => { x with settled := true }).lockDone h
    else s) s

/-- Durations of the levels that the edges `es`, newest first, begin: whether the level is high, and how long it lasted. -/
def levels : List (Nat × Bool) → List (Bool × Nat)
  | a :: b :: r => (b.2, a.1 - b.1) :: levels (b :: r)
  | _ => []

/-- Whether, in each of the last four periods, the level `high` lasts less than 25 % of the period (R177): `ls` are the eight last
level durations, newest first. -/
def shortLevel (high : Bool) (ls : List (Bool × Nat)) : Bool :=
  ls.length = 8 && (List.range 4).all fun i =>
    let a := ls.getD (2 * i) (false, 0)
    let b := ls.getD (2 * i + 1) (false, 0)
    a.1 != b.1 && (if a.1 = high then a.2 else b.2) * 4 < a.2 + b.2

/-- The polarity result is shown in all AVE pages; a change makes the heads on GENLOCK_IN realign (R177, R184). -/
def State.polarity (new : Nat) (s : State) : State :=
  let old := s.gf (pgAve 0) R.AVE_SYNC_STATUS_GL_POL
  if new = old then s
  else
    let s := forNat 8 (fun h s => s.sf (pgAve h) R.AVE_SYNC_STATUS_GL_POL new) s
    -- the last edge that is active now: a realignment starts from it
    let last := (s.glPin.find? fun e => e.2 == (new == 0 : Bool)).map (·.1)
    let s := forNat 8 (fun h s => s.setSync h 0 fun x => { x with last }) s
    forNat 8 (fun h s =>
      if s.headSt h != hIDLE && s.source h = 0 then (s.aveRaise h 8 { d6 := old, d7 := new }).realign h else s) s

/-- An edge of GENLOCK_IN (R176, R177), and with SRC 1 the mark that the master makes of an active one (R245). -/
def State.genlockEdge (rising : Bool) (s : State) : State :=
  let es := ((s.walltime, rising) :: s.glPin).take 9
  let s := { s with glPin := es }
  let ls := levels es
  let old := s.gf (pgAve 0) R.AVE_SYNC_STATUS_GL_POL
  let s := s.polarity (if ls.length < 8 then old else if shortLevel true ls then 0 else if shortLevel false ls then 1 else 0)
  if rising = (s.gf (pgAve 0) R.AVE_SYNC_STATUS_GL_POL = 0 : Bool) then
    let e := s.walltime
    let s := forNat 8 (fun h s => s.syncEdge h 0 e) s
    if s.isMaster && s.pstate PG_CHN = pRUN && s.tf PG_CHN R.CHN_MARK_CTRL_MARK_EN && s.tf PG_CHN R.CHN_MARK_CTRL_SRC then
      s.sendMark (match s.markSent with | some n => n + 1 | none => 0) (e + 250000)
    else s
  else s

/-- GENLOCK_EDGE (R176, R177, R245). -/
def execGenlockEdge (t : Time) (rising : Bool) (s : State) : Host.Outcome State Fault Refusal :=
  nxt t (fun s => s.genlockEdge rising) s

/-- SYNC_SOURCE_LOST (R176): no edge within three expected intervals. -/
def execSyncSourceLost (t : Time) (h : Nat) (chain : Bool) (s : State) : Host.Outcome State Fault Refusal :=
  nxt t (fun s =>
    let k := if chain then 1 else 0
    match (s.sync h k).last with
    | some e =>
      if h < 8 && s.tf (pgAve h) (presentFld k) && e + 3 * (s.sync h k).expect ≤ s.walltime then s.srcAbsent h k 0 else s
    | none => s) s

/-- SOURCE_RETURN_TIMER (R178): in AUTO the head moves to a source earlier in the order that has been present for 1 s. -/
def execSourceReturnTimer (t : Time) (h : Nat) (s : State) : Host.Outcome State Fault Refusal :=
  nxt t (fun s =>
    if 8 ≤ h || s.headSt h = hIDLE || s.gf (pgAve h) R.AVE_SYNC_SRC != 0 then s
    else match (List.range (s.source h)).find? fun k => s.usableSrc h k && decide ((s.sync h k).since + 1000000000 ≤ s.walltime) with
      | some k => s.setSource h k 3
      | none => s) s

/-! Latches (R214, R216), slices (R160 to R162) and the Arcade (R150). -/

/-- AGE_RELEASE: bits of regions that are not LATCHED have no effect (R214). -/
def ageReleaseAct (h : Nat) (lo hi : Word) : Act where
  go s :=
    let m := pair64 lo hi
    let rs := (List.range 64).filter fun r => bit m r && (s.region h r).sig = 3
    s.setHead h fun x => { x with release := rs.foldl nadd x.release }

/-- AGE_RELEASE (R214, R216). -/
def execAgeRelease (t : Time) (p : Port) (h : Nat) (lo hi : Word) (s : State) : Host.Outcome State Fault Refusal :=
  nxt t (fun s => if h < 8 then s.guarded p (pgAge h) 0x6C (ageReleaseAct h lo hi).run else s) s

/-- A parity error of a slice (R130, R160, R162); `inFlight` names the head, line and span that it is composing. -/
def State.sliceParity (n : Nat) (inFlight : Option (Nat × Nat × Nat)) (s : State) : State :=
  if 5 ≤ n || s.pstate (pgSlc n) != pRUN then s
  else
    let s := s.bump (pgSlc n) R.SLC_PARITY_ERRORS 1
    let s := match (inFlight.filter fun x => s.flight.contains (spanKey x.1 x.2.1 x.2.2) && s.composes n) with
      | some (h, y, k) =>
        { s with flight := ndel s.flight (spanKey h y k) }.raise (pgSlc n) 0
          { status := MEM_ERROR, d6 := h, d7 := y, frame := some (s.frameCount h) }
      | none => s.raise (pgSlc n) 0 { status := MEM_ERROR, d6 := 0xFFFFFFFF, d7 := 0xFFFFFFFF }
    (s.faultPage (pgSlc n) MEM_ERROR).dispatch

/-- SLICE_PARITY_ERROR (R162). -/
def execSliceParityError (t : Time) (slice : Nat) (inFlight : Option (Nat × Nat × Nat)) (s : State) : Host.Outcome State Fault Refusal :=
  nxt t (fun s => s.sliceParity slice inFlight) s

/-- PLZ_SUBST.GO for slice `n` (R161). -/
def plzSubstAct (n : Nat) : Act where
  code s := refusal [
    (5 ≤ n || s.slcRole n != 0, BAD_ARG), (s.tf PG_PLAZA R.PLZ_SUBST_PENDING, WRONG_STATE), (s.spareSlice.isNone, NO_RESOURCE)]
  refused c s := (s.sf PG_PLAZA R.PLZ_SUBST_RESULT c).err PG_PLAZA c
  go s := s.substWait n true

/-- PLZ_SUBST_GO (R161). -/
def execPlzSubstGo (t : Time) (p : Port) (v : Word) (s : State) : Host.Outcome State Fault Refusal :=
  nxt t (fun s => s.guarded p PG_PLAZA 0x4C fun s =>
    (plzSubstAct (bits v 0 3)).run (s.plainWrite (portSecure p) PG_PLAZA 0x4C v)) s

/-- ARC_CTRL.FLUSH (R150). -/
def arcFlushAct (heads : Nat) : Act where
  go s := forNat 8 (fun h s => if bit heads h then s.setHead h fun x => { x with flush := true } else s) s

/-- ARC_FLUSH (R150). -/
def execArcFlush (t : Time) (p : Port) (heads : Nat) (s : State) : Host.Outcome State Fault Refusal :=
  nxt t (fun s => s.guarded p PG_ARCADE 0x40 (arcFlushAct heads).run) s

end Sys2Proof.Machine
end

