-- ==== Sys2Proof/Machine/MemRows.lean ====
section
/-! DEFINITION. The memory controller's commands: set points, refresh, retraining, the write buffer (chapter 11). -/

namespace Sys2Proof.Machine

open Sys2Proof

/-- Whether a group's controller works its devices: initialised, serving, out of self-refresh (R365, R370, R378). -/
def State.memUp (s : State) (g : Nat) : Bool :=
  (s.pstate (pgMem g) = pRUN || s.pstate (pgMem g) = pSERVICE) && s.capBytes != 0 && !s.tf (pgMem g) R.MEM_STATUS_SELF_REFRESH

/-! Initialisation (R353, R369). -/

/-- One set point has been trained, or has failed on a channel (R369, R379). -/
def State.trained (sp : Nat) (r : Option Nat) (s : State) : State :=
  match r with
  | none =>
    let s := s.sfUnit R.MEM_FREQ_VALID (s.gf 14 R.MEM_FREQ_VALID ||| 2 ^ sp)
    forNat 2 (fun g s => s.raise (pgMem g) 3 { d6 := sp, d7 := 0 }) s
  | some c => s.raise (pgMem (c / 5)) 4 { d6 := sp, d7 := c }

/-- Both MEM pages enter FAULT with REASON MEM_ERROR (R369). -/
def State.memDead (s : State) : State := ((s.faultPage 14 MEM_ERROR).faultPage 15 MEM_ERROR).capUpdate

/-- The end of memory initialisation (R369): `densities` in Gb, `results` per set point with the channel that failed. -/
def State.memInit (densities : List Nat) (results : List (Option Nat)) (s : State) : State :=
  if s.mode != ENUMERATE || s.capBytes != 0 then s
  else
    let d := densities.headD 0
    let good := densities.length = 10 && densities.all (· == d) && (d = 8 || d = 16 || d = 32)
    let s := (s.initDone 14).initDone 15
    if !good then s.memDead
    else
      let s := (s.sfUnit R.MEM_CFG_DENSITY (if d = 8 then 0 else if d = 16 then 1 else 2)).sfUnit R.MEM_CFG_CAP_GIB d
      let s := forEach ((results.take 4).zipIdx) (fun (x : Option Nat × Nat) s => s.trained x.2 x.1) s
      match (List.range 4).find? fun sp => bit (s.gf 14 R.MEM_FREQ_VALID) sp with
      | none => s.memDead
      | some sp => (((s.setPoint sp).newLap 0).newLap 1).capUpdate.freqPending

/-- MEM_INIT_DONE (R369). -/
def execMemInitDone (t : Time) (densities : List Nat) (trained : List (Option Nat)) (s : State) : Host.Outcome State Fault Refusal :=
  nxt t (fun s => s.memInit densities trained) s

/-! The write buffer (R359, R360, R386, R391). -/

/-- IDLE_DRAIN_START (R360): no drain begins while a rank-4 drain runs or the buffer is empty. -/
def execIdleDrainStart (t : Time) (g : Nat) (s : State) : Host.Outcome State Fault Refusal :=
  nxt t (fun s =>
    if g < 2 && s.memUp g && s.wbOcc g != 0 && !s.tf (pgMem g) R.MEM_STATUS_DRAINING then s.setMgrp g fun x => { x with idleDrain := true }
    else s) s

/-- Whether a drain of a group's write buffer is in progress, at rank 4 or idle (R360). -/
def State.drains (s : State) (g : Nat) : Bool := s.tf (pgMem g) R.MEM_STATUS_DRAINING || (s.mgrp g).idleDrain

/-- A block of group `g` leaves the write buffer in a drain (R360). -/
def State.blockOut (g blk : Nat) (errs retry : List (Nat × Nat)) (s : State) : State :=
  if groupOf blk != g || !fhas s.wbuf blk || !s.drains g then s
  else
    let s := s.writeBlock blk errs retry
    if s.wbOcc g = 0 then s.setMgrp g fun x => { x with idleDrain := false } else s

/-- WRITE_BUFFER_BLOCK_WRITTEN (R360, R386). -/
def execWriteBufferBlockWritten (t : Time) (g blk : Nat) (errs retry : List (Nat × Nat)) (s : State) : Host.Outcome State Fault Refusal :=
  nxt t (fun s => s.blockOut g blk errs retry) s

/-- The fill of a page ends (R391): 16 blocks of each group have been written, the valid bit is set, and a write that waited for a fill may
go on. -/
def State.filled (page : Nat) (s : State) : State :=
  let s := (s.bumpW 14 R.MEM_WR_BLOCKS_BLOCKS 16).bumpW 15 R.MEM_WR_BLOCKS_BLOCKS 16
  ({ s with validPg := nadd s.validPg page, fills := s.fills.filter fun f => f.page != page } : State).pump

/-- PAGE_FILL_DONE (R391). -/
def execPageFillDone (t : Time) (page : Nat) (s : State) : Host.Outcome State Fault Refusal :=
  nxt t (fun s => if s.filling page then s.filled page else s) s

/-! Refresh (R365 to R368). -/

/-- Whether `ns` nanoseconds have passed since `last`, if it has been at all. -/
def State.since (s : State) (last : Option Nat) (ns : Nat) : Bool := last.all fun a => decide (a + ns ≤ s.walltime)

/-- tREFIpb in ns at the group's refresh rate (R365). -/
def State.refreshNs (s : State) (g : Nat) : Nat :=
  let r := s.gf (pgMem g) R.MEM_STATUS_REF_RATE
  if r = 0 then 488 else if r = 1 then 244 else 122

/-- MEM_STATUS.OWED, from −8 to 8, and the highest count (R368). -/
def State.owedShow (g : Nat) (s : State) : State :=
  let x := s.mgrp g
  let n := min x.owed.length 8
  let s := s.sf (pgMem g) R.MEM_STATUS_OWED (if n = 0 then (32 - x.pulled.length) % 32 else n)
  if s.gf (pgMem g) R.MEM_REF_STAT_MAX_OWED < n then s.sf (pgMem g) R.MEM_REF_STAT_MAX_OWED n else s

/-- The oldest owed refresh is issued; at rank 1 it splits the urgent reads to its pair (R367). -/
def State.refreshOut (g : Nat) (s : State) : State :=
  match (s.mgrp g).owed with
  | [] => s
  | p :: rest =>
    let forced := (s.mgrp g).forced
    let s := (s.setMgrp g fun x => { x with owed := rest, forced := false, outAt := some s.walltime }).owedShow g
    if forced then (s.bump (pgMem g) R.MEM_REF_STAT_SPLITS 1).raise (pgMem g) 1 { d6 := p, d7 := rest.length } else s

/-- A refresh falls due for the next bank pair in rotation, tREFIpb after the last (R365, R367, R368). -/
def State.refreshDue (g : Nat) (urgent : Bool) (s : State) : State :=
  if !(g < 2 && s.memUp g && s.since (s.mgrp g).refAt (s.refreshNs g)) then s
  else
    let s := if (s.mgrp g).forced then s.refreshOut g else s
    let x := s.mgrp g
    let p := x.nextPair
    let s := s.setMgrp g fun x => { x with nextPair := (p + 1) % 8, refAt := some s.walltime }
    if x.pulled.contains p then (s.setMgrp g fun x => { x with pulled := x.pulled.erase p }).owedShow g
    else if urgent || !x.owed.isEmpty then
      (s.setMgrp g fun x => { x with owed := x.owed ++ [p], forced := decide (8 ≤ x.owed.length) }).owedShow g
    else s

/-- REFRESH_DUE (R367). -/
def execRefreshDue (t : Time) (g : Nat) (urgentQueued : Bool) (s : State) : Host.Outcome State Fault Refusal :=
  nxt t (fun s => s.refreshDue g urgentQueued) s

/-- Whether an owed refresh may be issued: 90 ns after the last, but at once at rank 1 (R367). -/
def State.refreshMay (s : State) (g : Nat) : Bool := (s.mgrp g).forced || s.since (s.mgrp g).outAt 90

/-- REFRESH_ISSUE (R367). -/
def execRefreshIssue (t : Time) (g : Nat) (s : State) : Host.Outcome State Fault Refusal :=
  nxt t (fun s => if g < 2 && s.memUp g && s.refreshMay g then s.refreshOut g else s) s

/-- REFRESH_PULL_IN (R368): the next pair in rotation that has not been pulled in. -/
def execRefreshPullIn (t : Time) (g : Nat) (s : State) : Host.Outcome State Fault Refusal :=
  nxt t (fun s =>
    let x := s.mgrp g
    if g < 2 && s.memUp g && x.owed.isEmpty && x.pulled.length < 8 then
      (s.setMgrp g fun x => { x with pulled := x.pulled ++ [(x.nextPair + x.pulled.length) % 8] }).owedShow g
    else s) s

/-- A read of mode register 4, 16 ms after the last (R366): temperatures in °C of the five channels, and the channels that need more than
twice the base rate. -/
def State.mr4 (g : Nat) (temps : List Nat) (hot : NSet) (s : State) : State :=
  if !(g < 2 && s.memUp g && s.since (s.mgrp g).mr4At 16000000) then s
  else
    let p := pgMem g
    let s := s.setMgrp g fun x => { x with mr4At := some s.walltime }
    let byte := fun c => (temps.getD c 0 + 40) % 256
    let s := s.sf p R.MEM_TEMP_LO_DATA (byte 0 + 256 * byte 1 + 65536 * byte 2 + 16777216 * byte 3)
    let s := s.sf p R.MEM_TEMP_HI_CHECK (byte 4)
    let thr := s.gf p R.MEM_REF_CFG_TEMP_THR
    let any := (temps.take 5).any fun c => decide (thr < c)
    let cool := if (temps.take 5).all fun c => decide (c + s.gf p R.MEM_REF_CFG_HYST ≤ thr) then (s.mgrp g).cool + 1 else 0
    let nr := if hot.isEmpty then (s.mgrp g).nrange + 1 else 0
    let old := s.gf p R.MEM_STATUS_REF_RATE
    let new := if !hot.isEmpty then 2
      else if old = 2 then (if 2 ≤ nr then 1 else 2)
      else if old = 1 then (if 2 ≤ cool then 0 else 1)
      else if any then 1 else 0
    let s := s.setMgrp g fun x => { x with cool := if new = old then cool else 0, nrange := if new = old then nr else 0 }
    if new = old then s
    else
      let s := s.sf p R.MEM_STATUS_REF_RATE new
      let c := hot.headD 0
      let s := if new = 2 then s.raise p 5 { d6 := c, d7 := temps.getD (c % 5) 0 } else s
      (s.raise p 0 { d6 := old, d7 := new }).capUpdate

/-- MR4_POLL (R366). -/
def execMr4Poll (t : Time) (g : Nat) (temps : List Nat) (hot : NSet) (s : State) : Host.Outcome State Fault Refusal :=
  nxt t (fun s => s.mr4 g temps hot) s

/-! Retraining (R370). -/

/-- A retraining step begins (R370). -/
def State.stepBegins (g : Nat) (s : State) : State :=
  (s.setMgrp g fun x => { x with stepDue := false, stepForced := false, stepRuns := true }).sf (pgMem g) R.MEM_STATUS_TRAINING 1

/-- Whether a retraining step is due: one has been postponed, or INTERVAL_MS has passed since the last fell due (R370). -/
def State.stepNow (s : State) (g : Nat) : Bool :=
  (s.mgrp g).stepDue || s.since (s.mgrp g).stepLast (s.gf (pgMem g) R.MEM_RETRAIN_INTERVAL_MS * 1000000)

/-- RETRAIN_STEP_DUE (R370): postponed while urgent reads are queued. -/
def execRetrainStepDue (t : Time) (g : Nat) (urgentQueued : Bool) (s : State) : Host.Outcome State Fault Refusal :=
  nxt t (fun s =>
    if !(g < 2 && s.memUp g && s.stepNow g) || (s.mgrp g).stepRuns then s
    else
      let s := if (s.mgrp g).stepDue then s else s.setMgrp g fun x => { x with stepLast := some s.walltime, stepAt := s.walltime }
      if urgentQueued then s.setMgrp g fun x => { x with stepDue := true } else s.stepBegins g) s

/-- RETRAIN_STEP_POSTPONE_LIMIT (R370): after 10 ms rank 1, ahead of the urgent reads. -/
def execRetrainStepPostponeLimit (t : Time) (g : Nat) (s : State) : Host.Outcome State Fault Refusal :=
  nxt t (fun s =>
    if g < 2 && s.memUp g && (s.mgrp g).stepDue && decide ((s.mgrp g).stepAt + 10000000 ≤ s.walltime) then
      s.setMgrp g fun x => { x with stepForced := true } else s) s

/-- A retraining step ends (R370, R371): `drift` is the channel and the residual drift in ps that it could not correct. -/
def State.stepEnds (g : Nat) (drift : Option (Nat × Nat)) (s : State) : State :=
  let x := s.mgrp g
  if !(g < 2 && s.memUp g && (x.stepDue || x.stepRuns)) then s
  else
    let p := pgMem g
    let s := s.setMgrp g fun x => { x with stepDue := false, stepForced := false, stepRuns := false }
    let other := x.svcRuns == some 0 || (s.tf 14 R.MEM_FREQ_BUSY && !bit (s.gf 14 R.MEM_FREQ_VALID) (s.mgrp 0).reqSp)
    let s := if other then s else s.sf p R.MEM_STATUS_TRAINING 0
    let s := s.bumpW p R.MEM_RETRAIN_STEPS 1
    let s := match drift with
      | some d => s.raise p 7 { d6 := d.1, d7 := d.2 }
      | none => s
    s.freqPending

/-- RETRAIN_STEP_END (R370, R371). -/
def execRetrainStepEnd (t : Time) (g : Nat) (drift : Option (Nat × Nat)) (s : State) : Host.Outcome State Fault Refusal :=
  nxt t (fun s => s.stepEnds g drift) s

/-! Set points (R371 to R373). -/

/-- Whether a change of set point waits (R371): training runs, that of initialisation too (R369), or the unit is in QUIESCE. -/
def State.freqHeld (s : State) : Bool :=
  s.tf 14 R.MEM_STATUS_TRAINING || s.tf 15 R.MEM_STATUS_TRAINING || s.mode = QUIESCE || s.quiescing ||
    (s.mode = ENUMERATE && s.capBytes = 0 && !s.memFault)

/-- MEM_FREQ.GO (R371), after TARGET has been written. -/
def memFreqAct : Act where
  code s :=
    let sp := s.gf 14 R.MEM_FREQ_TARGET
    let held := s.freqHeld
    let same := sp = s.gf 14 R.MEM_FREQ_CURRENT && !s.tf 14 R.MEM_FREQ_PENDING
    refusal [
      (s.memBusy, IN_SERVICE), (s.tf 14 R.MEM_FREQ_BUSY, WRONG_STATE),
      (!same && !held && !bit (s.gf 14 R.MEM_FREQ_VALID) sp && s.running && !s.tf 14 R.MEM_FREQ_FULL_OK, NO_RESOURCE)]
  refused c s := (s.sfUnit R.MEM_FREQ_RESULT c).err 14 c
  go s :=
    let sp := s.gf 14 R.MEM_FREQ_TARGET
    if sp = s.gf 14 R.MEM_FREQ_CURRENT && !s.tf 14 R.MEM_FREQ_PENDING then s.sfUnit R.MEM_FREQ_RESULT OK
    else if s.freqHeld then
      (s.setMgrp 0 fun x => { x with reqSp := sp }).sfUnit R.MEM_FREQ_PENDING 1
    else s.freqGo sp

/-- MEM_FREQ_GO (R371). -/
def execMemFreqGo (t : Time) (p : Port) (v : Word) (s : State) : Host.Outcome State Fault Refusal :=
  nxt t (fun s => s.guarded p 14 0x44 fun s => memFreqAct.run (s.plainWrite (portSecure p) 14 0x44 v)) s

/-- FREQ_SWITCH_DONE (R372). -/
def execFreqSwitchDone (t : Time) (s : State) : Host.Outcome State Fault Refusal :=
  nxt t (fun s =>
    let sp := (s.mgrp 0).reqSp
    if s.tf 14 R.MEM_FREQ_BUSY && bit (s.gf 14 R.MEM_FREQ_VALID) sp then s.freqEnd sp else s) s

/-- FULL_TRAINING_DONE (R373): `fail` is the channel that failed. -/
def execFullTrainingDone (t : Time) (fail : Option Nat) (s : State) : Host.Outcome State Fault Refusal :=
  nxt t (fun s =>
    let sp := (s.mgrp 0).reqSp
    if !(s.tf 14 R.MEM_FREQ_BUSY && !bit (s.gf 14 R.MEM_FREQ_VALID) sp) then s
    else
      let s := s.sfUnit R.MEM_STATUS_TRAINING 0
      match fail with
      | none =>
        let s := s.sfUnit R.MEM_FREQ_VALID (s.gf 14 R.MEM_FREQ_VALID ||| 2 ^ sp)
        (forNat 2 (fun g s => s.raise (pgMem g) 3 { d6 := sp, d7 := 1 }) s).freqEnd sp
      | some c => (s.raise (pgMem (c / 5)) 4 { d6 := sp, d7 := c }).freqFailed) s

/-- MEM_SVC_ACTION_DONE (R375): `fail` is the channel whose retraining failed. -/
def execMemSvcActionDone (t : Time) (g : Nat) (fail : Option Nat) (s : State) : Host.Outcome State Fault Refusal :=
  nxt t (fun s =>
    let p := pgMem g
    if !(g < 2 && s.pstate p = pSERVICE) then s
    else match (s.mgrp g).svcRuns with
      | none => s
      | some a =>
        let s := (s.setMgrp g fun x => { x with svcRuns := none }).sf p R.MEM_SVC_PROGRESS 100
        if a != 0 then s
        else
          let sp := s.gf 14 R.MEM_FREQ_CURRENT
          let s := s.sf p R.MEM_STATUS_TRAINING 0
          let s := match fail with
            | none => s.raise p 3 { d6 := sp, d7 := 2 }
            | some c => s.raise p 4 { d6 := sp, d7 := c }
          s.freqPending) s

end Sys2Proof.Machine
end

