-- ==== Sys2Proof/Machine/EccRows.lean ====
section
/-! DEFINITION. Reads of device DRAM and their faults, the Sweepers, range passes, the logs (chapter 12). -/

namespace Sys2Proof.Machine

open Sys2Proof

/-! The order in which a Sweeper and a range pass read (R394, R398). -/

/-- The first block of the group that a page holds at or after block `b`. -/
def pageBlock (g b page : Nat) : Nat :=
  let lo := max (32 * page + g) b
  if lo % 2 = g then lo else lo + 1

/-- The lowest block of the group at or after `b`, and below the byte `stop`, in a page whose bit is 1 and that is not filling. -/
def State.nextBlock (s : State) (g b stop : Nat) : Option Nat :=
  let c := s.validPg.filterMap fun n =>
    let k := pageBlock g b n
    if k / 32 = n && !s.filling n && k * 128 < stop then some k else none
  c.foldl (fun best k => match best with | none => some k | some m => some (min m k)) none

/-- The block that a range pass reads next in the group (R398). -/
def State.rangeNext (s : State) (g : Nat) : Option Nat := s.nextBlock g (fget 0 s.range.next g) s.range.stop

/-- Whether a group may issue a block of the pass: (PACE + 1) × 4 controller cycles after its last (R398). -/
def State.rangePaced (s : State) (g : Nat) : Bool :=
  !fhas s.range.readAt g || decide (fget 0 s.range.readAt g * 1000 + (s.gf 16 R.RNG_CTRL_PACE + 1) * 4 * s.islandPs (5 + g) ≤ s.walltime * 1000)

/-- The pass has read every block of both groups, and no second attempt of it is due. -/
def State.rangeOver (s : State) : Bool :=
  (s.rangeNext 0).isNone && (s.rangeNext 1).isNone && !s.memRetry.any fun x => x.req == .range

/-- A group has issued a block of the pass and reads on at block `b`. -/
def State.rangeStep (g b : Nat) (s : State) : State :=
  { s with range := { s.range with next := fset s.range.next g b, readAt := fset s.range.readAt g s.walltime } }

/-! Requesters (R388). -/

/-- The instance and the world for which a read is made (R67, R350). -/
def State.reqWho (s : State) : MemReq → Option Nat × Bool
  | .bar4 i => (some i, false)
  | .plane h p _ => (if p < 14 then s.planeInst h p else none, s.planeSecure h p)
  | .spill h tile _ => (none, s.secureOwned (pgAve h) || (match s.tile h tile with | some t => 131072 ≤ t.slot | none => false))
  | .list q => (qInst q, qSecure q)
  | .upload id => (qInst (fget {} s.cmds id).q, qSecure (fget {} s.cmds id).q)
  | .migration => (some s.mig.inst, false)
  | .cue n => ((s.strOwner n).2, (s.strOwner n).1)
  | .range => (none, s.tf 16 R.RNG_STATUS_SECURE)

/-- Whether the requester still waits for a block: one that has been reset or has ended does not (R73). -/
def State.reqLive (s : State) (blk : Nat) : MemReq → Bool
  | .bar4 i => i < 256 && s.instState i != iUNASSIGNED
  | .plane h p y => h < 8 && p < 16 && (s.head h).sending && (s.plane h p).act.shows && y < (s.headMode h).va
  | .spill h tile _ => h < 8 && (s.spillSlot h tile blk).isSome
  | .list q => (s.lr q).st != .idle
  | .upload id => fhas s.cmds id
  | .migration => s.tf PG_DMA R.MIG_STATUS_BUSY
  | .cue n => n < 16 && ((s.strm n).play.isSome || (s.strm n).pend.any fun c => !c.ready)
  | .range => s.tf 16 R.RNG_STATUS_BUSY && s.rangeNext (groupOf blk) == some blk && s.rangePaced (groupOf blk)

/-- Whether the requester still waits for a second attempt; the end of a pass drops those of the pass (R398). -/
def State.retryLive (s : State) (x : Retry) : Bool := x.req == .range || s.reqLive x.blk x.req

/-- A read that fails for good is delivered to its requester (R388); `code` is MEM_ERROR, or CANCELLED under R73.  The record of a fetch or
tile error carries AVE_FRAME_COUNT as it stands, also while composition runs ahead of the frame start (DESIGN CHOICE, log entry 142). -/
def State.readDeliver (blk code : Nat) (r : MemReq) (s : State) : State :=
  match r with
  | .bar4 _ => { s with reply := [] }
  | .plane h p y =>
    if code != MEM_ERROR then s
    else
      let s := { s with badBlocks := fmod [] s.badBlocks (16 * h + p) fun l => nadd l blk }
      (s.setHead h fun x => { x with errors := x.errors + 1 }).raise PG_PLAZA 1
        { status := MEM_ERROR, d6 := h * 256 + p, d7 := y, frame := some (s.frameCount h), inst := if p < 14 then s.planeInst h p else none }
  | .spill h tile _ => match s.spillSlot h tile blk with
    | some k => if code != MEM_ERROR then s else s.tileError h tile ((List.range 32).map fun n => (blk * 128 - s.spillAt k) / 4 + n)
    | none => s
  | .list q => s.haltList q (s.lr q).here code 1
  | .upload id => s.cmdDone id code 0
  | .migration => s.migEnd code
  | .cue n => s.cueData n 0 true
  | .range => s

/-! One block read (R383 to R388). -/

/-- Whether a read of the block touches DRAM (R355, R359, R376, R390, R391). -/
def State.readsDram (s : State) (blk : Nat) : Bool :=
  blk * 128 < s.capBytes && s.pageValid (dpageOf (blk * 128)) && !s.memFault && s.pstate (pgMem (groupOf blk)) != pTEST &&
    (List.range 16).any fun k => s.wordSt blk [] k != .covered

/-- The word addresses of a block's words. -/
def wordAddr (blk k : Nat) : Nat := blk * 128 + 8 * k

/-- The word goes back poisoned, over its raw bits, with what the write buffer holds of it (R395, R399). -/
def State.sweepPoison (blk : Nat) (retry : List (Nat × Nat)) (k : Nat) (s : State) : State :=
  let g := groupOf blk
  let a := wordAddr blk k
  let s := (s.storeRaw a (s.wordRaw blk retry k)).storeWord blk k
  let s := { s with poison := nadd s.poison a }
  (s.bump (pgSwp g) R.SWP_POISON_WRITES 1).raise (pgSwp g) 2
    { status := MEM_ERROR, d6 := a, d7 := a / 4294967296, secret := decide (a < s.wmDram) }

/-- Reads of poisoned words are counted (register SWP_POISON). -/
def State.countPoison (blk n : Nat) (s : State) : State :=
  if n = 0 then s else s.bump (pgSwp (groupOf blk)) R.SWP_POISON_READS n

/-! The summary of a range pass (R398). -/

/-- Lowest and highest word address that was corrected or uncorrectable. -/
def State.rangeSpan (a : Nat) (s : State) : State :=
  let none_ := s.gf 16 R.RNG_CORR_WORDS = 0 && s.gf 16 R.RNG_UNCORR_LASTING = 0 && s.gf 16 R.RNG_UNCORR_TRANSIENT = 0
  let lo := s.g64 16 R.RNG_FIRST_LO_ADDR R.RNG_FIRST_HI_ADDR
  let hi := s.g64 16 R.RNG_LAST_LO_ADDR R.RNG_LAST_HI_ADDR
  let s := s.s64 16 R.RNG_FIRST_LO_ADDR R.RNG_FIRST_HI_ADDR (if none_ then a else min lo a)
  s.s64 16 R.RNG_LAST_LO_ADDR R.RNG_LAST_HI_ADDR (if none_ then a else max hi a)

/-- The words of a block as a range pass counts them: corrected, lasting, transient. -/
def State.rangeCount (blk : Nat) (corr lasting transient : List Nat) (s : State) : State :=
  let s := forEach corr (fun k s => (s.rangeSpan (wordAddr blk k)).bump 16 R.RNG_CORR_WORDS 1) s
  let s := forEach lasting (fun k s => (s.rangeSpan (wordAddr blk k)).bump 16 R.RNG_UNCORR_LASTING 1) s
  forEach transient (fun k s => (s.rangeSpan (wordAddr blk k)).bump 16 R.RNG_UNCORR_TRANSIENT 1) s

/-- The words that an attempt corrects. -/
def State.correctedWords (s : State) (blk : Nat) (errs : List (Nat × Nat)) : List Nat :=
  (List.range 16).filter fun k => match s.wordSt blk errs k with | .corrected _ => true | _ => false

/-- A read of a block that no retry follows is answered: corrections, poisoned words, the requester (R385, R388, R395, R398). -/
def State.readAnswered (r : MemReq) (blk : Nat) (errs : List (Nat × Nat)) (poison : List Nat) (s : State) : State :=
  let w := s.reqWho r
  let corr := s.correctedWords blk errs
  let s := s.noteCorrections blk errs w.1 w.2
  if r = .range then s.rangeCount blk corr [] [] else if poison.isEmpty then s else s.readDeliver blk MEM_ERROR r

/-- The first attempt of a block read (R71, R383 to R388).  A poisoned word raises POISON_READ, but not for a range pass (R395). -/
def State.readDone (r : MemReq) (a : Nat) (errs : List (Nat × Nat)) (s : State) : State :=
  let blk := blockOf a
  let live := s.reqLive blk r
  let s := if live && r == MemReq.range then s.rangeStep (groupOf blk) (blk + 1) else s
  if !live || !s.readsDram blk then s
  else
    let w := s.reqWho r
    let s := (s.countRead blk w.1 w.2).readComes (groupOf blk)
    let words := s.uncorrWords blk errs
    let poison := s.poisonWords blk errs
    let s := s.countPoison blk poison.length
    let s := match poison with
      | [] => s
      | k :: _ => if r == MemReq.range then s else s.poisonRead (wordAddr blk k) w.1
    if words.isEmpty then s.readAnswered r blk errs poison
    else { s with memRetry := s.memRetry ++ [{ req := r, blk, words, poison }] }

/-- The word of the page-valid bitmap that holds the page of a block is uncorrectable (R393): its 64 pages are treated as valid. -/
def State.mapError (blk : Nat) (s : State) : State :=
  let n := dpageOf (blk * 128) / 64 * 64
  { s with validPg := forNat 64 (fun k l => nadd l (n + k)) s.validPg }.raise (pgMem (groupOf blk)) 12 { d6 := n }

/-- A block read consults the bitmap: `bad` where the word that it finds there is uncorrectable. -/
def State.mapLookup (r : MemReq) (a : Nat) (bad : Bool) (s : State) : State :=
  if bad && s.reqLive (blockOf a) r && decide (blockOf a * 128 < s.capBytes) then s.mapError (blockOf a) else s

/-- MEM_READ_DONE (R383, R385, R387, R388, R393). -/
def execMemReadDone (t : Time) (req : MemReq) (addr : Nat) (errs : List (Nat × Nat)) (mapBad : Bool) (s : State) :
    Host.Outcome State Fault Refusal :=
  nxt t (fun s => (s.mapLookup req addr mapBad).readDone req addr errs) s

/-- The second attempt of a block read (R71, R72, R387). -/
def State.retryDone (x : Retry) (errs : List (Nat × Nat)) (s : State) : State :=
  let w := s.reqWho x.req
  let blk := x.blk
  let s := if s.readsDram blk then s.countRead blk w.1 w.2 else s
  let last := s.lastingWords blk errs x.poison
  let corr := s.correctedWords blk errs
  let s := if last.isEmpty then s.readTransient (wordAddr blk (x.words.headD 0)) else s.lastingRead blk last w.1
  let s := s.noteCorrections blk errs w.1 w.2
  if x.req = .range then
    let s := s.rangeCount blk corr last (x.words.filter fun k => !last.contains k)
    forEach last (fun k s => s.sweepPoison blk errs k) s
  else if last.isEmpty && x.poison.isEmpty then s
  else s.readDeliver blk MEM_ERROR x.req

/-- MEM_READ_RETRY_DONE (R387): a group that entered SERVICE, TEST, OFF or INIT in between, or a requester that has been reset, leaves the read
unclassified (R73); a group that was in SERVICE already serves it (R374). -/
def execMemReadRetryDone (t : Time) (req : MemReq) (addr : Nat) (errs : List (Nat × Nat)) (s : State) : Host.Outcome State Fault Refusal :=
  nxt t (fun s =>
    match s.memRetry.find? fun x => x.req == req && x.blk == blockOf addr with
    | none => s
    | some x =>
      let s := { s with memRetry := s.memRetry.erase x }
      if !s.retryLive x then s
      else if x.cancelled then s.readDeliver x.blk CANCELLED req
      else s.retryDone x errs) s

/-! The Sweepers (R394 to R396). -/

/-- The next block that a Sweeper reads (R394). -/
def State.sweepNext (s : State) (g : Nat) : Option Nat :=
  s.nextBlock g (s.g64 (pgSwp g) R.SWP_POS_LO_ADDR R.SWP_POS_HI_ADDR / 128) s.capBytes

/-- A lap ends (R396). -/
def State.lapDone (g : Nat) (s : State) : State :=
  let p := pgSwp g
  let s := s.sf p R.SWP_LAP_MS_MS (min ((s.localTime (5 + g) - (s.sweepOf g).lapAt) / 1000000) 4294967295)
  let s := s.bumpW p R.SWP_LAPS_LAPS 1
  (s.raise p 3 { d6 := s.gf p R.SWP_LAP_MS_MS, d7 := s.gf p R.SWP_LAPS_LAPS }).newLap g

/-- A REWRITTEN word that the Sweeper reads clean frees its entry (R399). -/
def State.sweepClean (blk k : Nat) (s : State) : State :=
  let g := groupOf blk
  match s.logFind g (wordAddr blk k) with
  | some e => if (s.logEnt g e).state = 2 then s.setLog g e {} else s
  | none => s

/-- A Sweeper reads a block and acts on each word (R395): `errs` strike the first attempt, `retry` the second. -/
def State.sweepBlock (blk : Nat) (errs retry : List (Nat × Nat)) (s : State) : State :=
  let poison := s.poisonWords blk errs
  let words := s.uncorrWords blk errs
  let s := (s.countRead blk none false).countPoison blk poison.length
  let final := if words.isEmpty then errs else retry
  let clean := (List.range 16).filter fun k => s.wordSt blk final k == .clean
  let s := forEach clean (fun k s => s.sweepClean blk k) s
  if words.isEmpty then s.noteCorrections blk errs none false
  else
    let s := s.countRead blk none false
    let last := s.lastingWords blk retry poison
    let s := if last.isEmpty then s.readTransient (wordAddr blk (words.headD 0)) else s.lastingRead blk last none
    let s := s.noteCorrections blk retry none false
    forEach last (fun k s => s.sweepPoison blk retry k) s

/-- A Sweeper's next read (R394, R396). -/
def State.sweepRead (g : Nat) (errs retry : List (Nat × Nat)) (s : State) : State :=
  if !(g < 2 && s.sweeping g) then s
  else match s.sweepNext g with
    | none => s.lapDone g
    | some blk =>
      let s := s.s64 (pgSwp g) R.SWP_POS_LO_ADDR R.SWP_POS_HI_ADDR (blk * 128 + 256)
      let s := s.sweepBlock blk errs retry
      if s.capBytes ≤ blk * 128 + 256 then s.lapDone g else s

/-- SWEEPER_READ (R395). -/
def execSweeperRead (t : Time) (g : Nat) (errs retry : List (Nat × Nat)) (s : State) : Host.Outcome State Fault Refusal :=
  nxt t (fun s => s.sweepRead g errs retry) s

/-- LAP_SLOW (R396): once in a lap, at its limit. -/
def execLapSlow (t : Time) (g : Nat) (s : State) : Host.Outcome State Fault Refusal :=
  nxt t (fun s =>
    let lim := s.gf (pgSwp g) R.SWP_CTRL_LAP_WARN_MIN
    if g < 2 && s.capBytes != 0 && lim != 0 && !(s.sweepOf g).slow && (s.sweepOf g).lapAt + lim * 60000000000 ≤ s.localTime (5 + g) then
      (s.setSweep g fun x => { x with slow := true }).raise (pgSwp g) 4 { d6 := lim }
    else s) s

/-! Range passes (R397, R398). -/

/-- RNG_CTRL.GO (R397). -/
def rangeAct (sec : Bool) : Act where
  code s :=
    let a := s.g64 16 R.RNG_START_LO_ADDR R.RNG_START_HI_ADDR
    let b := s.g64 16 R.RNG_END_LO_ADDR R.RNG_END_HI_ADDR
    refusal [
      (a % 4096 != 0 || b % 4096 != 0 || b ≤ a || s.capBytes < b, BAD_ARG), (!sec && a < s.wmDram, SECURE_DENIED),
      (s.memBusy, IN_SERVICE), (s.tf 16 R.RNG_STATUS_BUSY || s.mode = QUIESCE || s.quiescing, WRONG_STATE)]
  refused c s := (s.sf 16 R.RNG_STATUS_RESULT c).err 16 c
  go s :=
    let b := blockOf (s.g64 16 R.RNG_START_LO_ADDR R.RNG_START_HI_ADDR)
    let s := (s.sf 16 R.RNG_STATUS_BUSY 1).sf 16 R.RNG_STATUS_SECURE (if sec then 1 else 0)
    let s := ((s.sf 16 R.RNG_STATUS_RESULT OK).sf 16 R.RNG_CORR_WORDS 0).sf 16 R.RNG_UNCORR_LASTING 0
    let s := ((s.sf 16 R.RNG_UNCORR_TRANSIENT 0).s64 16 R.RNG_FIRST_LO_ADDR R.RNG_FIRST_HI_ADDR 0).s64 16 R.RNG_LAST_LO_ADDR R.RNG_LAST_HI_ADDR 0
    { s.sf 16 R.RNG_TIME_US_US 0 with range :=
      { startAt := s.walltime, stop := s.g64 16 R.RNG_END_LO_ADDR R.RNG_END_HI_ADDR, next := [(0, b), (1, b)] } }

/-- RNG_CTRL.ABORT (R398). -/
def rangeAbortAct : Act where
  go s := s.rangeEnd CANCELLED

/-- RANGE_GO (R397). -/
def execRangeGo (t : Time) (p : Port) (v : Word) (s : State) : Host.Outcome State Fault Refusal :=
  nxt t (fun s => s.guarded p 16 0x90 fun s => (rangeAct (portSecure p)).run (s.plainWrite (portSecure p) 16 0x90 v)) s

/-- RANGE_ABORT (R398). -/
def execRangeAbort (t : Time) (p : Port) (s : State) : Host.Outcome State Fault Refusal :=
  nxt t (fun s => s.guarded p 16 0x90 rangeAbortAct.run) s

/-- RANGE_DONE (R398): the last block has been read. -/
def execRangeDone (t : Time) (s : State) : Host.Outcome State Fault Refusal :=
  nxt t (fun s => if s.rangeOver then s.rangeEnd OK else s) s

/-! The logs (R399 to R402). -/

/-- The word of a block that goes back to DRAM corrected, with what the write buffer holds of it (R399). -/
def State.rewriteWord (blk : Nat) (errs : List (Nat × Nat)) (k : Nat) (s : State) : State :=
  match s.wordSt blk errs k with
  | .corrected _ => (s.storeRaw (wordAddr blk k) (s.wordRaw blk errs k)).storeWord blk k
  | _ => s

/-- The scrub rewrite of an entry ends (R399): the block is read and goes back corrected. -/
def State.scrubRewrite (g e : Nat) (errs retry : List (Nat × Nat)) (s : State) : State :=
  let x := s.logEnt g e
  let blk := blockOf x.addr
  if !(g < 2 && e < 64 && x.state = 1 && x.queued && s.memUp g) then s
  else
    let words := s.uncorrWords blk errs
    let poison := s.poisonWords blk errs
    let final := if words.isEmpty then errs else retry
    let last := if words.isEmpty then [] else s.lastingWords blk retry poison
    let s := ((s.countRead blk none false).countPoison blk poison.length).noteCorrections blk final none false
    let s := if words.isEmpty then s
      else if last.isEmpty then s.readTransient (wordAddr blk (words.headD 0))
      else forEach last (fun k s => s.sweepPoison blk retry k) (s.lastingRead blk last none)
    let s := forNat 16 (fun k s => s.rewriteWord blk final k) s
    let s := s.bumpW (pgMem g) R.MEM_WR_BLOCKS_BLOCKS 1
    if (s.logEnt g e).state != 1 then s
    else
      (s.setLog g e { s.logEnt g e with state := 2, queued := false, urgent := false }).raise (pgSwp g) 0
        { d6 := x.addr, d7 := e, secret := decide (x.addr < s.wmDram) }

/-- SCRUB_REWRITE (R399). -/
def execScrubRewrite (t : Time) (g e : Nat) (errs retry : List (Nat × Nat)) (s : State) : Host.Outcome State Fault Refusal :=
  nxt t (fun s => s.scrubRewrite g e errs retry) s

/-- SCRUB_REWRITE_PROMOTE (R399). -/
def execScrubRewritePromote (t : Time) (g e : Nat) (s : State) : Host.Outcome State Fault Refusal :=
  nxt t (fun s =>
    let x := s.logEnt g e
    if g < 2 && e < 64 && x.state = 1 && x.queued && decide (x.queuedAt + 1000000 ≤ s.walltime) then s.setLog g e { x with urgent := true }
    else s) s

/-- SWP_LOG_SEL.MARK and FREE are refused to the normal world below the watermark (R401). -/
def State.logCode (s : State) (sec : Bool) (g e : Nat) : Option Nat :=
  refusal [(!sec && (s.logEnt g e).state != 0 && decide ((s.logEnt g e).addr < s.wmDram), SECURE_DENIED)]

/-- Whether an entry is LASTING or UNCORR. -/
def LogEnt.stays (x : LogEnt) : Bool := x.state = 3 || x.state = 4

/-- SWP_LOG_SEL.MARK (R401, R402). -/
def logMarkAct (sec : Bool) (g e : Nat) : Act where
  code s := s.logCode sec g e
  refused c s := s.err (pgSwp g) c
  go s := if (s.logEnt g e).stays then s.setLog g e { s.logEnt g e with marked := true } else s

/-- SWP_LOG_SEL.UNMARK. -/
def logUnmarkAct (g e : Nat) : Act where
  go s := if (s.logEnt g e).marked then s.setLog g e { s.logEnt g e with marked := false } else s

/-- SWP_LOG_SEL.FREE (R399, R401). -/
def logFreeAct (sec : Bool) (g e : Nat) : Act where
  code s := s.logCode sec g e
  refused c s := s.err (pgSwp g) c
  go s := if (s.logEnt g e).stays then s.setLog g e {} else s

/-- A write of SWP_LOG_SEL that selects entry `e` and makes a request. -/
def State.logSel (p : Port) (g e : Nat) (a : Act) (s : State) : State :=
  if g < 2 && e < 64 then s.guarded p (pgSwp g) 0x64 fun s => a.run (s.sf (pgSwp g) R.SWP_LOG_SEL_INDEX e) else s

/-- LOG_MARK (R401). -/
def execLogMark (t : Time) (p : Port) (g e : Nat) (s : State) : Host.Outcome State Fault Refusal :=
  nxt t (fun s => s.logSel p g e (logMarkAct (portSecure p) g e)) s

/-- LOG_UNMARK (R401). -/
def execLogUnmark (t : Time) (p : Port) (g e : Nat) (s : State) : Host.Outcome State Fault Refusal :=
  nxt t (fun s => s.logSel p g e (logUnmarkAct g e)) s

/-- LOG_FREE (R401). -/
def execLogFree (t : Time) (p : Port) (g e : Nat) (s : State) : Host.Outcome State Fault Refusal :=
  nxt t (fun s => s.logSel p g e (logFreeAct (portSecure p) g e)) s

/-- REPAIR_DONE (R402): the result of one marked entry. -/
def execRepairDone (t : Time) (g e : Nat) (code : Nat) (s : State) : Host.Outcome State Fault Refusal :=
  nxt t (fun s =>
    let x := s.logEnt g e
    if !(g < 2 && e < 64 && s.pstate (pgMem g) = pSERVICE && (s.mgrp g).svcRuns == some 1 && x.stays && x.marked) then s
    else if !(code = OK || code = NO_RESOURCE || code = MEM_ERROR) then s
    else
      let s := s.setLog g e (if code = OK then {} else { x with marked := false, repair := code })
      let s := s.raise (pgSwp g) 7 { status := code, d6 := e, d7 := x.addr, secret := decide (x.addr < s.wmDram) }
      if code = OK then s else s.err (pgSwp g) code) s

end Sys2Proof.Machine
end

