-- ==== Sys2Proof/Machine/Conductor.lean ====
section
/-! DEFINITION. Conductors take lists (R303 to R307, R330) and run them: END and NOP, waits (R112), stamps (R113), fences (R118),
SET_REGION_AGE (R115) and READ_SIGNATURE (R116). -/

namespace Sys2Proof.Machine

open Sys2Proof

/-! Taking a list. -/

/-- The rings that exist: four per instance, two secure. -/
def ringExists (q : Nat) : Bool := q < 1026
/-- Whether a ring has a list to be taken and may give it: enabled, its last list ended, a slot filled (R304, R330). -/
def State.ringReady (s : State) (q : Nat) : Bool :=
  s.subEn q && (s.lr q).st = .idle && s.subHead q != s.subTail q
/-- Whether a Conductor takes lists (R61, R349, R462, R463). -/
def State.cndTakes (s : State) (c : Nat) : Bool :=
  c < 9 && s.pstate (pgCnd c) = pRUN && s.cndRole c = 0 && !bit (s.gf PG_DEBUG R.DBG_STATUS_CND_HALTED) c && !s.haltReq.contains c &&
    !(match s.cndSubst with | some (o, _) => o == c | none => false)
/-- Whether Conductor `c` may take the next list of ring `q` now: the mode (R33, R39), the instance (R302, R317), the link where the
ring lies in host memory (R295), the aperture writes of the instance, which the list is to see (R299), secure lists before instance work
(R306). -/
def State.mayTake (s : State) (c q : Nat) : Bool :=
  ringExists q && s.cndTakes c && s.running && !s.quiescing && s.ringReady q && (s.subInDram q || s.linkUp) &&
    (qSecure q || (s.instState (q / 4) = iACTIVE && !(s.inst (q / 4)).suspending && !s.ringReady 1024 && !s.ringReady 1025 &&
      !s.wwait.any fun w => w.by_.inst == some (q / 4) && w.by_.cmd.isNone))

/-- Whether instance `i` has a chunk queued: UPLOAD, FILL, COPY_RECT or a migration copy (R307, R319). -/
def State.dmaWork (s : State) (i : Nat) : Bool :=
  (s.cmds.any fun p => qInst p.2.q == some i && (p.2.op = 0x40 || p.2.op = 0x41 || p.2.op = 0x42) && p.2.phase != 4) ||
    (s.tf PG_DMA R.MIG_STATUS_BUSY && s.mig.inst = i && decide (s.mig.moved < s.mig.len))

/-! The rounds (R306 to R308).  Work on the Conductors is a list's run from its taking, or the end of a wait, to its end or its next wait:
that time is charged, and a list is not held back in the middle (DEDUCED, log entry 98). -/

/-- Whether an instance has work that the rounds visit (R307): a chunk, a list that runs, or a list that may be taken. -/
def State.queuedWork (s : State) (i : Nat) : Bool :=
  s.dmaWork i || (s.instState i = iACTIVE && !(s.inst i).suspending &&
    (List.range 4).any fun r => (s.lr (4 * i + r)).st = .running || s.ringReady (4 * i + r))

/-- Visits that bring a deficit above 0 (R307). -/
def visitsFor (d : Int) (quantum : Nat) : Nat := if 0 < d then 0 else (-d).toNat / quantum + 1
/-- `n` visits of the rounds to an instance: each adds SHARE × 1,000 ns and SHARE × 4 KiB, to a deficit whose queue is not empty. -/
def State.visit (i n : Nat) (s : State) : State :=
  let share := (s.inst i).share
  let cnd := s.cndWork i
  let dma := s.dmaWork i
  s.setInst i fun x => { x with
    cndDeficit := if cnd then x.cndDeficit + (n * share * 1000 : Nat) else 0
    dmaDeficit := if dma then x.dmaDeficit + (n * share * 4096 : Nat) else 0 }

/-- A round begins: SHARE takes effect (R308). -/
def State.roundStart (s : State) : State :=
  forEach s.openInsts (fun i s => s.setInst i fun x => { x with share := s.ent i 0 16 8 }) { s with rrNext := 0 }

/-- Visits to the instances `is`, in order, up to the first that is `ready` after its own; whether there was one. -/
def State.visits (ready : State → Nat → Bool) : List Nat → State → State × Bool
  | [], s => (s, false)
  | i :: r, s =>
    let s := { s.visit i 1 with rrNext := i + 1 }
    if ready s i then (s, true) else State.visits ready r s

/-- The rounds go on, in ascending instance number, until an instance that `want`s to run has a deficit above 0 (R307): the present round
to its end, then whole rounds, then the round in which the first one's deficit rises above 0.  `quantum` is what a share of 1 adds. -/
def State.rounds (want : Nat → Bool) (deficit : Inst → Int) (quantum : Nat) (s : State) : State :=
  let is := s.openInsts.filter s.queuedWork
  let ws := is.filter want
  let ready := fun (s : State) i => want i && decide (0 < deficit (s.inst i))
  if ws.isEmpty || ws.any (ready s) then s
  else
    let r := s.visits ready (is.filter fun i => decide (s.rrNext ≤ i))
    if r.2 then r.1
    else
      let s := r.1.roundStart
      match ((ws.filter fun i => 0 < (s.inst i).share).map fun i => visitsFor (deficit (s.inst i)) ((s.inst i).share * quantum)).min? with
      | none => s
      | some k => ((forEach is (fun i s => s.visit i (k - 1)) s).visits ready is).1

/-- The rounds as Conductor `c` wants a list, and whether ring `q` is of an instance whose turn it is (R306, R307). -/
def State.cndRounds (c : Nat) (s : State) : State :=
  s.rounds (fun i => (List.range 4).any fun r => s.mayTake c (4 * i + r)) (fun x => x.cndDeficit) 1000
def State.cndTurn (s : State) (q : Nat) : Bool := qSecure q || decide (0 < (s.inst (q / 4)).cndDeficit)

/-- A slot that names no list (R303, R330): reserved bits, WORDS 0, a misaligned address, an address outside the grant. -/
def State.slotNone (s : State) (q : Nat) (slot : List Word) : Bool :=
  let a := pair64 (nthW slot 0) (nthW slot 1)
  let n := bits (nthW slot 2) 0 20
  bits (nthW slot 2) 20 12 != 0 || n = 0 || a % 4 != 0 || (s.subInDram q && !s.dramOk q a (4 * n))

/-- The list of a slot is taken and runs (R96, R102). -/
def State.listRuns (c q : Nat) (slot words : List Word) (s : State) : State :=
  let n := s.nextList
  let s := { s with nextList := n + 1 }
  (s.setLr q fun _ => { st := .running, serial := n, cnd := c, startAt := s.walltime, words, tag := (nthW slot 3).toNat }).exhaust q

/-- A list in device DRAM: its words, or the failure of the access (R325, R355, R369). -/
def State.listFetched (c q : Nat) (slot words : List Word) (s : State) : State :=
  let a := pair64 (nthW slot 0) (nthW slot 1)
  let n := bits (nthW slot 2) 0 20
  if s.slotNone q slot then
    let s := s.setLr q fun _ => { st := .running, cnd := c, startAt := s.walltime, tag := (nthW slot 3).toNat }
    (s.listEnd q BAD_ARG 0).err (pgCnd c) BAD_ARG
  else if s.subInDram q then
    let code := s.memCode (qAgent q 2) a (4 * n)
    let s := s.accessNote (qAgent q 2) a (4 * n) code
    let s := s.listRuns c q slot (s.wordsAt a n)
    if code = OK then s else s.haltList q 0 code 1
  else (s.hostGet (qInst q) a (4 * n)).listRuns c q slot ((List.range n).map fun i => nthW words i)

/-- Conductor `c` takes the next list of ring `q`, when the rounds have come to its instance (R303 to R307).  A read that cannot be
issued takes the instance to FAULTED (R293, R302). -/
def State.listStart (c q : Nat) (slot words : List Word) (s : State) : State :=
  if !s.mayTake c q then s
  else
    let a := s.subBase q + 16 * s.subHead q
    let s := s.cndRounds c
    if !s.cndTurn q then s
    else if s.subInDram q then
      let code := s.memCode (qAgent q 2) a 16
      let s := s.accessNote (qAgent q 2) a 16 code
      if code = OK then s.listFetched c q (s.wordsAt a 4) words
      else (s.listRuns c q [] [0#32]).haltList q 0 code 1
    else if !s.busMaster then (s.dmaHostError (qInst q) a NO_RIGHT).faultInst (q / 4) NO_RIGHT
    else (s.hostGet (qInst q) a 16).listFetched c q slot words

/-- LIST_START (R304): `slot` and `words` are what host memory holds, where the ring lies there. -/
def execListStart (t : Time) (c q : Nat) (slot words : List Word) (s : State) : Host.Outcome State Fault Refusal :=
  nxt t (fun s => s.listStart c q slot words) s

/-- NOP (R105): of any length, its operands unchecked. -/
def execNop (t : Time) (q : Nat) (s : State) : Host.Outcome State Fault Refusal :=
  nxt t (fun s => s.runCmd q 0x00 fun l w s =>
    s.checked q (hdrChecks q l w (max 1 (hLen w)) []) fun s => s.cmdNow q OK 0) s

/-- END (R103): the list completes with OK. -/
def execEndList (t : Time) (q : Nat) (s : State) : Host.Outcome State Fault Refusal :=
  nxt t (fun s => s.runCmd q 0x01 fun l w s =>
    s.checked q (hdrChecks q l w 1 []) fun s =>
      let s := if hNotify w then s.cmdNote q l.cnd l.pc OK 0 else s
      s.listEnd q OK l.pc) s

/-! Objects that a command names (R99 steps 3 to 6, R120, R324). -/

/-- The checks on head `h`: its world, the grant, SERVICE or TEST, and the head states `ok` in which the command is legal. -/
def State.headChecks (s : State) (q h : Nat) (ok : List Nat) : List (Bool × Nat) :=
  [ (!qSecure q && s.secureOwned (pgAve h), SECURE_DENIED), (!qSecure q && !s.grantsHead (q / 4) h, NO_RIGHT),
    (s.blkBusy h, IN_SERVICE), (!ok.contains (s.headSt h), WRONG_STATE) ]

/-! Waits (R112). -/

/-- When a wait of TIMEOUT_MS ends; 0 means no timeout. -/
def State.timeoutAt (s : State) (ms : Nat) : Option Nat := if ms = 0 then none else some (s.walltime + ms * 1000000)

/-- WAIT_FRAME (R112). -/
def State.waitFrame (q : Nat) (l : ListRun) (w : Word) (s : State) : State :=
  let h := bits (opw l 1) 0 3
  s.checked q (hdrChecks q l w 3 [18] ++ [(bits (opw l 1) 3 13 != 0, BAD_ARG)] ++ s.headChecks q h [hLOCKING, hRUN, hRELOCK]) fun s =>
    let c := s.frameCount h
    let target := (opw l 2).toNat + (if hFlag w 18 then c else 0)
    if (c + 4294967296 - target % 4294967296) % 4294967296 < 2147483648 then s.cmdNow q OK (c % 4294967296)
    else s.cmdWait q (.frame h (target % 4294967296)) (s.timeoutAt (bits (opw l 1) 16 16))

def execWaitFrame (t : Time) (q : Nat) (s : State) : Host.Outcome State Fault Refusal :=
  nxt t (fun s => s.runCmd q 0x30 fun l w => State.waitFrame q l w) s

/-- WAIT_TIME (R112). -/
def State.waitTime (q : Nat) (l : ListRun) (w : Word) (s : State) : State :=
  s.checked q (hdrChecks q l w 3 [18]) fun s =>
    let now := s.localTime 3
    let target := op64 l 1 + (if hFlag w 18 then now else 0)
    if target ≤ now then s.cmdNow q OK 0 else s.cmdWait q (.time target) none

def execWaitTime (t : Time) (q : Nat) (s : State) : Host.Outcome State Fault Refusal :=
  nxt t (fun s => s.runCmd q 0x31 fun l w => State.waitTime q l w) s

/-- WAIT_TIME_REACHED: the Conductor's WALLTIME reaches the target of a waiting list. -/
def execWaitTimeReached (t : Time) (q : Nat) (s : State) : Host.Outcome State Fault Refusal :=
  nxt t (fun s =>
    match (s.lr q).wait with
    | .time target => if (s.lr q).st = .wait && target ≤ s.localTime 3 then s.waitDone q OK 0 else s
    | _ => s) s

/-- WAIT_TIMEOUT: a WAIT_FRAME, FENCE_WAIT or call of a vendor service reaches its timeout (R101, R119). -/
def execWaitTimeout (t : Time) (q : Nat) (s : State) : Host.Outcome State Fault Refusal :=
  nxt t (fun s =>
    let l := s.lr q
    let waits := match l.wait with | .frame _ _ => true | .fence _ _ => true | .gatehouse _ => true | .handover _ => true | _ => false
    match l.deadline with
    | some d =>
      let aside := l.st = .aside && (match l.wait with | .gatehouse _ => true | .handover _ => true | _ => false)
      if (l.st = .wait && waits || aside) && d ≤ s.walltime then s.replyTo q TIMEOUT 0 else s
    | none => s) s

/-! Writes to memory (R113, R116). -/

/-- A command writes bytes at ADDR, to host memory under the instance's PASID or to device DRAM, and completes with `result`. -/
def State.cmdWrite (q a : Nat) (host : Bool) (bs : List Byte) (result : Nat) (s : State) : State :=
  if host then
    if !s.linkUp then s.cmdFail q LINK_ERROR
    else if !s.busMaster then ((s.hostLogs (q / 4) a bs.length).dmaHostError (qInst q) a NO_RIGHT).cmdFail q NO_RIGHT
    else (s.instWrite (q / 4) a bs).cmdNow q OK result
  else
    let code := s.memCode (qAgent q 2) a bs.length
    let s := s.memWrite (qAgent q 2) a bs { cmd := some s.nextCmd }
    if code = OK then s.cmdWrote q result else s.cmdFail q code

/-- The checks on ADDR: its alignment, HOST in a secure list, the grant of R87. -/
def State.addrChecks (s : State) (q a n align : Nat) (host : Bool) : List (Bool × Nat) :=
  [ (a % align != 0 || (host && qSecure q), BAD_ARG), (!host && !s.dramOk q a n, NO_RIGHT) ]

/-- WRITE_STAMP (R113). -/
def State.writeStamp (q : Nat) (l : ListRun) (w : Word) (s : State) : State :=
  let host := hFlag w 18
  let frame := hFlag w 19
  let h := bits (opw l 3) 0 3
  s.checked q (hdrChecks q l w 4 [18, 19] ++ [(bits (opw l 3) 3 29 != 0, BAD_ARG)] ++
      s.addrChecks q (op64 l 1) (if frame then 16 else 8) 8 host ++
      (if frame then s.headChecks q h [hLOCKING, hRUN, hRELOCK] else [])) fun s =>
    let now := s.localTime 3
    s.cmdWrite q (op64 l 1) host (leBytes 8 now ++ (if frame then leBytes 8 (s.frameCount h) else [])) (now % 4294967296)

def execWriteStamp (t : Time) (q : Nat) (s : State) : Host.Outcome State Fault Refusal :=
  nxt t (fun s => s.runCmd q 0x32 fun l w => State.writeStamp q l w) s

/-! Fences (R118). -/

/-- The number of fence `f` of a list's instance or of the secure world. -/
def fenceKey (q f : Nat) : Nat := if qSecure q then 8192 + f else 32 * (q / 4) + f
def State.fence (s : State) (k : Nat) : Nat := fget 0 s.fences k

/-- FENCE_SIGNAL (R118): it executes once every earlier command of the list has completed (R98); until then the event does not
occur.  The waits it satisfies end. -/
def State.fenceSignal (q : Nat) (l : ListRun) (w : Word) (s : State) : State :=
  let k := fenceKey q (bits (opw l 1) 0 5)
  let v := op64 l 2
  if s.earlier q [] then s
  else s.checked q (hdrChecks q l w 4 [] ++ [(bits (opw l 1) 5 27 != 0 || v < s.fence k, BAD_ARG)]) fun s =>
    let s := { s with fences := fset s.fences k v }
    let s := s.cmdNow q OK 0
    let due := (s.lists.filter fun (p : Nat × ListRun) => p.2.st == .wait && match p.2.wait with
      | .fence k' x => k' == k && decide (x ≤ v)
      | _ => false).map (·.1)
    forEach due (fun q s => s.waitDone q OK (v % 4294967296)) s

def execFenceSignal (t : Time) (q : Nat) (s : State) : Host.Outcome State Fault Refusal :=
  nxt t (fun s => s.runCmd q 0x33 fun l w => State.fenceSignal q l w) s

/-- FENCE_WAIT (R118). -/
def State.fenceWait (q : Nat) (l : ListRun) (w : Word) (s : State) : State :=
  let k := fenceKey q (bits (opw l 1) 0 5)
  s.checked q (hdrChecks q l w 4 [] ++ [(bits (opw l 1) 5 11 != 0, BAD_ARG)]) fun s =>
    if op64 l 2 ≤ s.fence k then s.cmdNow q OK (s.fence k % 4294967296)
    else s.cmdWait q (.fence k (op64 l 2)) (s.timeoutAt (bits (opw l 1) 16 16))

def execFenceWait (t : Time) (q : Nat) (s : State) : Host.Outcome State Fault Refusal :=
  nxt t (fun s => s.runCmd q 0x34 fun l w => State.fenceWait q l w) s

/-! Safety regions. -/

/-- Reserved bits of the word that names HEAD and REGION. -/
def rgnWordBad (w : Word) : Bool := bits w 3 5 != 0 || bits w 14 18 != 0

/-- SET_REGION_AGE (R115): MAX_AGE_US goes into the region's shadow with a commit of the head's AGE page (R219). -/
def State.setRegionAge (q : Nat) (l : ListRun) (w : Word) (s : State) : State :=
  let h := bits (opw l 1) 0 3
  let r := bits (opw l 1) 8 6
  let us := (opw l 2).toNat
  let p := pgAge h
  s.checked q (hdrChecks q l w 3 [] ++ [(rgnWordBad (opw l 1) || us < 1000 || 65000000 < us, BAD_ARG), (!qSecure q, SECURE_DENIED)] ++
      s.headChecks q h [hLOCKING, hRUN, hRELOCK]) fun s =>
    let f := R.RGN_MAX_AGE_MAX_AGE_US r
    let s := s.putShadow p f.off ((2 ^ f.len - 1) * 2 ^ f.lo) (BitVec.ofNat 32 (us * 2 ^ f.lo))
    (s.commitGo p).cmdBegin q true fun c => { c with key := 16 * h, surf := r, at_ := s.walltime }

def execSetRegionAge (t : Time) (q : Nat) (s : State) : Host.Outcome State Fault Refusal :=
  nxt t (fun s => s.runCmd q 0x50 fun l w => State.setRegionAge q l w) s

/-- The 32 bytes of READ_SIGNATURE (R116): the results of the region's last completed frame. -/
def State.sigBytes (s : State) (h r : Nat) : List Byte :=
  let x := fget ({} : Region) s.regions (64 * h + r)
  leBytes 4 x.vSig ++ leBytes 4 ((if x.vMatch then 1 else 0) + (if x.vStale then 2 else 0) + (if x.vSubst then 4 else 0)) ++
    leBytes 8 x.vFrame ++ leBytes 8 x.vGlass ++ leBytes 8 x.vCt

/-- READ_SIGNATURE (R116). -/
def State.readSignature (q : Nat) (l : ListRun) (w : Word) (s : State) : State :=
  let h := bits (opw l 1) 0 3
  let r := bits (opw l 1) 8 6
  let inWindow := (s.windows (q / 4) h).any fun x => (s.rgnRect h r).inside x
  s.checked q (hdrChecks q l w 4 [18] ++ [(rgnWordBad (opw l 1), BAD_ARG)] ++ s.addrChecks q (op64 l 2) 32 32 (hFlag w 18) ++
      [(!qSecure q && !inWindow, NO_RIGHT)] ++ s.headChecks q h [hRUN, hRELOCK]) fun s =>
    s.cmdWrite q (op64 l 2) (hFlag w 18) (s.sigBytes h r) ((fget ({} : Region) s.regions (64 * h + r)).vFrame % 4294967296)

def execReadSignature (t : Time) (q : Nat) (s : State) : Host.Outcome State Fault Refusal :=
  nxt t (fun s => s.runCmd q 0x51 fun l w => State.readSignature q l w) s

end Sys2Proof.Machine
end

