-- ==== Sys2Proof/Machine/Surfaces.lean ====
section
/-! DEFINITION. Commands on surfaces (R82 to R94) and planes (R106 to R111). -/

namespace Sys2Proof.Machine

open Sys2Proof

/-! Handles (R82, R85, R86, R94). -/

def hdIdx (w : Word) : Nat := bits w 0 12
def hdGen (w : Word) : Nat := bits w 16 16
/-- The SDT watermark (R326). -/
def State.wmSdt (s : State) : Nat := s.gf PG_WMARK R.WM_SDT_LEVEL
/-- Whether a handle names a surface (R94). -/
def State.names (s : State) (w : Word) : Bool := (s.surf (hdIdx w)).gen = hdGen w && (s.surf (hdIdx w)).state != sFREE

/-- The checks on a handle: its reserved bits, the world of the entry, the SDT range of the instance, GEN. -/
def State.handleChecks (s : State) (q : Nat) (w : Word) : List (Bool × Nat) :=
  let i := hdIdx w
  let base := s.ent (q / 4) 4 0 12
  [ (bits w 12 4 != 0 || (qSecure q && s.wmSdt ≤ i), BAD_ARG), (!qSecure q && i < s.wmSdt, SECURE_DENIED),
    (!qSecure q && !(base ≤ i && i < base + s.ent (q / 4) 4 16 13), NO_RIGHT), ((s.surf i).gen != hdGen w, WRONG_STATE) ]

/-- A command on the SDT executes, unless its SRAM is lost (R453). -/
def State.onSdt (q : Nat) (go : State → State) (s : State) : State :=
  if (s.macro 124).bad then s.cmdFail q MEM_ERROR else go s

/-! SET_SURFACE (R87 to R90, R92). -/

/-- The ranges that a descriptor keeps (R89, R90). -/
def surfBad (base fmt wd ht stride : Nat) : Bool :=
  base % 256 != 0 || fmtBytes fmt = 0 || wd = 0 || 8192 < wd || ht = 0 || 8192 < ht || stride % 64 != 0 ||
    stride < wd * fmtBytes fmt || (fmt = 0x10 && wd % 2 = 1)

/-- Footprints of the instance if entry `i` took `n` bytes (R88). -/
def State.memWith (s : State) (inst i n : Nat) : Nat :=
  let e := s.surf i
  s.memUsed inst - (if e.state != sFREE && !e.secure && e.inst == inst then e.bytes else 0) + n

def State.setSurface (q : Nat) (l : ListRun) (w : Word) (s : State) : State :=
  let hd := opw l 1
  let i := hdIdx hd
  let base := op64 l 2
  let fmt := bits (opw l 4) 0 8
  let wd := bits (opw l 5) 0 16
  let ht := bits (opw l 5) 16 16
  let stride := bits (opw l 6) 0 24
  let st := (s.surf i).state
  s.checked q (hdrChecks q l w 7 [] ++ s.handleChecks q hd ++
      [ (bits (opw l 4) 8 24 != 0 || bits (opw l 6) 24 8 != 0 || surfBad base fmt wd ht stride, BAD_ARG),
        (!s.dramOk q base (stride * ht), NO_RIGHT), (st = sLIVE || st = sRETIRING, WRONG_STATE),
        (!qSecure q && s.ent (q / 4) 3 0 24 * 4096 < s.memWith (q / 4) i (stride * ht), NO_RESOURCE) ]) fun s =>
    s.onSdt q fun s =>
      (s.setSurf i fun e => {
        base, format := fmt, state := sALLOCATED, secure := qSecure q, inst := if qSecure q then 0 else q / 4
        width := wd, height := ht, stride, gen := e.gen }).cmdNow q OK 0

def execSetSurface (t : Time) (q : Nat) (s : State) : Host.Outcome State Fault Refusal :=
  nxt t (fun s => s.runCmd q 0x10 fun l w => State.setSurface q l w) s

/-! Retirement (R92, R93). -/

/-- The SURFACE_RETIRED record of a retirement that a command started (R103). -/
def State.retiredRec (q cnd i head frame : Nat) (s : State) : State :=
  s.listRec q cnd 0x0322 head { d6 := s.handleOf i, d7 := frame % 4294967296 }

def State.retireSurface (q : Nat) (l : ListRun) (w : Word) (s : State) : State :=
  let hd := opw l 1
  let i := hdIdx hd
  let st := (s.surf i).state
  s.checked q (hdrChecks q l w 2 [] ++ s.handleChecks q hd ++
      [(st = sFREE || st = sRETIRING || (st = sLIVE && !(s.boundShadow i).isEmpty), WRONG_STATE)]) fun s =>
    s.onSdt q fun s =>
      if st = sALLOCATED then ((s.freeSurf i).retiredRec q l.cnd i 0 0).cmdNow q OK 0
      else
        (s.setSurf i fun e => { e with state := sRETIRING, retCmd := some s.nextCmd }).cmdBegin q false fun c =>
          { c with surf := i, at_ := s.walltime }

def execRetireSurface (t : Time) (q : Nat) (s : State) : Host.Outcome State Fault Refusal :=
  nxt t (fun s => s.runCmd q 0x11 fun l w => State.retireSurface q l w) s

/-- Whether the last read of a surface on head `h` may be the last in time to leave its transmitter (R93, R103): a transmitter holds
what the raster has passed for up to two line times. -/
def State.leftLast (s : State) (e : Sdt) (h : Nat) : Bool :=
  fhas e.lastRead h && e.lastRead.all fun p =>
    decide (fget 0 e.leftAt p.1 ≤ fget 0 e.leftAt h + linesNs (s.headMode h) 2)

/-- SURFACE_RETIRED (R92, R93): a RETIRING entry goes to FREE; `head` is where its last read left last in time. -/
def State.surfaceRetired (i head : Nat) (s : State) : State :=
  let e := s.surf i
  let f := fget 0 e.lastRead head
  if e.state != sRETIRING || !(s.boundActive i).isEmpty || !(s.boundShadow i).isEmpty ||
      e.lastRead.any (fun p => !fhas e.leftAt p.1) || (!e.lastRead.isEmpty && !s.leftLast e head) then s
  else
    let s := s.freeSurf i
    match e.retCmd with
    | some id =>
      let c := fget {} s.cmds id
      (s.retiredRec c.q c.cnd i (if e.lastRead.isEmpty then 0 else head) f).cmdDone id OK (f % 4294967296)
    | none => s

def execSurfaceRetired (t : Time) (idx head : Nat) (s : State) : Host.Outcome State Fault Refusal :=
  nxt t (fun s => s.surfaceRetired idx head) s

/-! SET_PLANE (R106 to R108). -/

/-- A rectangle from two words "X,Y". -/
def rectOf (a b : Word) : Rect := { x0 := bits a 0 16, y0 := bits a 16 16, x1 := bits b 0 16, y1 := bits b 16 16 }

/-- The settings that operand words 1 to 7 of SET_PLANE give, on surface `surf`. -/
def cfgOf (ws : List Word) (surf : Option Nat) : PlaneCfg :=
  let w := nthW ws 0
  { enable := bits w 16 1 = 1, static := bits w 17 1 = 1, alpha := bits w 18 2, keyEn := bits w 20 1 = 1, z := bits w 24 4
    dst := rectOf (nthW ws 1) (nthW ws 2), src := rectOf (nthW ws 3) (nthW ws 4)
    galpha := bits (nthW ws 5) 0 8, csc := bits (nthW ws 5) 8 2, key := (nthW ws 6).toNat, surf }

/-- Whether rectangle sizes break R107, where both are non-empty. -/
def sizeBad (p : Nat) (c : PlaneCfg) : Bool :=
  !c.src.empty && !c.dst.empty &&
    if isVideo p then
      8 * c.dst.width < c.src.width || 8 * c.src.width < c.dst.width || 8 * c.dst.height < c.src.height ||
        8 * c.src.height < c.dst.height
    else c.src.width != c.dst.width || c.src.height != c.dst.height

/-- Settings out of range (R107, R136, R138). -/
def cfgBad (p : Nat) (c : PlaneCfg) : Bool :=
  c.alpha = 3 || c.z = 15 || (isVideo p && c.keyEn) || (isVideo p && !c.src.empty && 4096 < c.src.width) || sizeBad p c

/-- The checks on a plane that SET_PLANE or FLIP names (R106, R120). -/
def State.planeChecks (s : State) (q h p : Nat) : List (Bool × Nat) :=
  [(p == 14, BAD_ARG), (!qSecure q && p = 15, SECURE_DENIED), (!qSecure q && !s.granted (q / 4) h p, NO_RIGHT)] ++
    s.headChecks q h [hLOCKING, hRUN, hRELOCK]

/-- Quota and capacity of a commit that leaves `s'` (R145, R309, R310): over the budget, withdrawn, or raised above RES_MBPS. -/
def State.loadChecks (s : State) (q : Nat) (s' : State) : List (Bool × Nat) :=
  let i := q / 4
  [ (decide (s'.budget < s'.unitLoad true), NO_RESOURCE),
    (!qSecure q && (s.shed i || (decide (s.resMbps i < s'.fetchLoad i) && decide (s.fetchLoad i < s'.fetchLoad i))), NO_RESOURCE) ]

/-- Staged SET_PLANEs of a plane join the commit, or the held flip (R97, R108). -/
def State.joinStaged (key phase : Nat) (s : State) : State :=
  s.cmdsMap (fun c => c.op == 0x20 && c.key == key && c.phase == 3) fun c => { c with phase, at_ := s.walltime }

/-- SET_PLANE with APPLY commits settings on their own: the present surface, or none where ENABLE is 0 (R108, R134). -/
def State.applyPlane (h p : Nat) (c : PlaneCfg) (s : State) : State :=
  let x := s.plane h p
  (s.commitPlane h p { c with surf := if c.enable then x.com.surf else none } false 0).setPlane h p fun y => { y with stg := x.stg }

def State.setPlaneCmd (q : Nat) (l : ListRun) (w : Word) (s : State) : State :=
  let h := bits (opw l 1) 0 3
  let p := bits (opw l 1) 8 4
  let c := cfgOf ((List.range 7).map fun k => opw l (k + 1)) none
  let apply := hFlag w 18
  let reserved := bits (opw l 1) 3 5 != 0 || bits (opw l 1) 12 4 != 0 || bits (opw l 1) 21 3 != 0 || bits (opw l 1) 28 4 != 0 ||
    bits (opw l 6) 10 22 != 0
  s.checked q (hdrChecks q l w 8 [18] ++ [(reserved || cfgBad p c, BAD_ARG)] ++ s.planeChecks q h p ++
      [(!qSecure q && !c.dst.empty && !(s.windows (q / 4) h).any fun r => c.dst.inside r, NO_RIGHT)] ++
      (if apply then s.loadChecks q (s.applyPlane h p c) else [])) fun s =>
    if apply then
      (s.applyPlane h p c).cmdBegin q false fun x => { x with key := 16 * h + p, at_ := s.walltime }
    else
      (s.setPlane h p fun y => { y with stg := some c }).cmdBegin q false fun x => { x with key := 16 * h + p, phase := 3, at_ := s.walltime }

def execSetPlane (t : Time) (q : Nat) (s : State) : Host.Outcome State Fault Refusal :=
  nxt t (fun s => s.runCmd q 0x20 fun l w => State.setPlaneCmd q l w) s

/-! FLIP (R109 to R111). -/

/-- The owner of a list's held flips: its instance, or 256 for the secure world (R111). -/
def flipOwner (q : Nat) : Nat := if qSecure q then 256 else q / 4

/-- FLIP puts its surface, with the staged settings of the plane, into the plane's shadow: committed, or held (R109, R111). -/
def State.flipPlane (q h p i ct : Nat) (hold : Bool) (s : State) : State :=
  let x := s.plane h p
  if hold then
    let cfg := { x.stg.getD x.shadowCfg with surf := some i }
    s.setPlane h p fun y => { y with held := y.held ++ [{ owner := flipOwner q, cfg, ct }], stg := none }
  else s.commitPlane h p { x.stg.getD x.com with surf := some i } true ct

def State.flip (q : Nat) (l : ListRun) (w : Word) (s : State) : State :=
  let h := bits (opw l 1) 0 3
  let p := bits (opw l 1) 8 4
  let hd := opw l 2
  let i := hdIdx hd
  let e := s.surf i
  let hold := hFlag w 19
  let now := s.localTime 3
  let ct := if hFlag w 18 then now else op64 l 3
  if s.earlier q [0x40, 0x41, 0x42] then s
  else s.checked q (hdrChecks q l w 5 [18, 19] ++
      [ (bits (opw l 1) 3 5 != 0 || bits (opw l 1) 12 20 != 0 || (hFlag w 18 && op64 l 3 != 0) || now < ct ||
          (s.names hd && fmtYuv e.format && !isVideo p), BAD_ARG) ] ++
      s.handleChecks q hd ++ s.planeChecks q h p ++ [(e.state = sFREE || e.state = sRETIRING, WRONG_STATE)] ++
      s.loadChecks q (s.flipPlane q h p i ct hold)) fun s =>
    s.onSdt q fun s =>
      let s := s.setSurf i fun e => { e with state := sLIVE, ct, seq := (e.seq + 1) % 4294967296 }
      let phase := if hold then 1 else 0
      ((s.flipPlane q h p i ct hold).joinStaged (16 * h + p) phase).cmdBegin q false fun c =>
        { c with key := 16 * h + p, surf := i, phase, at_ := s.walltime }

/-- FLIP (R109): it does not execute before every earlier UPLOAD, FILL and COPY_RECT of its list has completed (R98). -/
def execFlip (t : Time) (q : Nat) (s : State) : Host.Outcome State Fault Refusal :=
  nxt t (fun s => s.runCmd q 0x21 fun l w => State.flip q l w) s

/-! FLIP_WALL (R111, R253, R254). -/

def State.flipWall (q : Nat) (l : ListRun) (w : Word) (s : State) : State :=
  let h := bits (opw l 1) 0 3
  let g := bits (opw l 1) 8 6
  let held := (List.range 16).any fun p => (s.plane h p).held.any fun f => f.owner == flipOwner q
  if s.earlier q [0x40, 0x41, 0x42] then s
  else s.checked q (hdrChecks q l w 3 [] ++ [(bits (opw l 1) 3 5 != 0 || bits (opw l 1) 14 18 != 0, BAD_ARG)] ++
      s.headChecks q h [hRUN] ++ [(s.wallRefused h g, WRONG_STATE)] ++
      [ (held && decide (s.budget < s.unitLoad true), NO_RESOURCE), (!qSecure q && s.shed (q / 4), NO_RESOURCE) ]) fun s =>
    (s.cmdBegin q false fun c => { c with key := 16 * h, phase := 2, at_ := s.walltime }).wallRelease h g (opw l 2).toNat (flipOwner q)

def execFlipWall (t : Time) (q : Nat) (s : State) : Host.Outcome State Fault Refusal :=
  nxt t (fun s => s.runCmd q 0x22 fun l w => State.flipWall q l w) s

end Sys2Proof.Machine
end

