-- ==== Sys2Proof/Machine/Upload.lean ====
section
/-! DEFINITION. The upload engine: UPLOAD, FILL and COPY_RECT (R114), their chunks (R306, R307); HAPTIC_PLAY (R117, R433 to R437) and
AUDIO_CUE (R117, R440, R441); reads of host memory that fail (R293, R295). -/

namespace Sys2Proof.Machine

open Sys2Proof

/-! Rectangles in surfaces (R114). -/

/-- The checks that a surface makes on a rectangle, where the handle names one (R94, R114). -/
def State.rectBad (s : State) (hd xy wh : Word) : Bool :=
  let e := s.surf (hdIdx hd)
  let x := bits xy 0 16
  let y := bits xy 16 16
  let wd := bits wh 0 16
  let ht := bits wh 16 16
  s.names hd && ((wd != 0 && ht != 0 && (e.width < x + wd || e.height < y + ht)) || (e.format = 0x10 && (x % 2 = 1 || wd % 2 = 1)))

/-- Legality of a surface that an upload command names (R120). -/
def State.surfIdle (s : State) (hd : Word) : Bool := let st := (s.surf (hdIdx hd)).state; st = sFREE || st = sRETIRING

/-- Where a rectangle at `xy` begins in a surface, and how long its lines are. -/
def Sdt.at (e : Sdt) (xy : Word) : Nat := e.base + bits xy 16 16 * e.stride + bits xy 0 16 * fmtBytes e.format

/-- An upload command begins: a rectangle of no pixel completes at once (R114). -/
def State.uploadBegin (q : Nat) (hd xy wh : Word) (f : Cmd → Cmd) (s : State) : State :=
  let e := s.surf (hdIdx hd)
  let row := bits wh 0 16 * fmtBytes e.format
  let total := row * bits wh 16 16
  if total = 0 then s.cmdNow q OK 0
  else s.cmdBegin q false fun c => f { c with
    surf := hdIdx hd, base := e.at xy, stride := e.stride, row, total, at_ := s.walltime }

/-- UPLOAD (R114). -/
def State.upload (q : Nat) (l : ListRun) (w : Word) (s : State) : State :=
  let hd := opw l 1
  s.checked q (hdrChecks q l w 7 [] ++ s.handleChecks q hd ++
      [ (bits (opw l 6) 24 8 != 0 || s.rectBad hd (opw l 2) (opw l 3), BAD_ARG), (s.surfIdle hd, WRONG_STATE) ]) fun s =>
    s.uploadBegin q hd (opw l 2) (opw l 3) fun c => { c with host := op64 l 4, pitch := bits (opw l 6) 0 24 }

def execUpload (t : Time) (q : Nat) (s : State) : Host.Outcome State Fault Refusal :=
  nxt t (fun s => s.runCmd q 0x40 fun l w => State.upload q l w) s

/-- Bytes of a FILL value: one pixel, or a YCbCr422 pair. -/
def fillBytes (fmt : Nat) : Nat := if fmt = 0x10 then 4 else fmtBytes fmt

/-- FILL (R114). -/
def State.fill (q : Nat) (l : ListRun) (w : Word) (s : State) : State :=
  let hd := opw l 1
  let n := fillBytes (s.surf (hdIdx hd)).format
  s.checked q (hdrChecks q l w 5 [] ++ s.handleChecks q hd ++
      [ (s.rectBad hd (opw l 2) (opw l 3) || (s.names hd && 256 ^ n ≤ (opw l 4).toNat), BAD_ARG), (s.surfIdle hd, WRONG_STATE) ]) fun s =>
    s.uploadBegin q hd (opw l 2) (opw l 3) fun c => { c with data := leBytes n (opw l 4).toNat }

def execFill (t : Time) (q : Nat) (s : State) : Host.Outcome State Fault Refusal :=
  nxt t (fun s => s.runCmd q 0x41 fun l w => State.fill q l w) s

/-- Start addresses of the lines of a rectangle. -/
def Sdt.lines (e : Sdt) (xy : Word) (n : Nat) : List Nat := (List.range n).map fun k => e.at xy + k * e.stride

/-- COPY_RECT (R114): the whole source is taken before any destination pixel is written. -/
def State.copyRect (q : Nat) (l : ListRun) (w : Word) (s : State) : State :=
  let src := opw l 1
  let dst := opw l 2
  let a := s.surf (hdIdx src)
  let ag := qAgent q 3
  s.checked q (hdrChecks q l w 6 [] ++ s.handleChecks q src ++ s.handleChecks q dst ++
      [ (s.rectBad src (opw l 3) (opw l 5) || s.rectBad dst (opw l 4) (opw l 5) ||
          (s.names src && s.names dst && a.format != (s.surf (hdIdx dst)).format), BAD_ARG),
        (s.surfIdle src || s.surfIdle dst, WRONG_STATE) ]) fun s =>
    let row := bits (opw l 5) 0 16 * fmtBytes a.format
    let ls := if row = 0 then [] else a.lines (opw l 3) (bits (opw l 5) 16 16)
    match ls.find? fun x => s.memCode ag x row != OK with
    | some x => (s.accessNote ag x row (s.memCode ag x row)).cmdFail q (s.memCode ag x row)
    | none => s.uploadBegin q dst (opw l 4) (opw l 5) fun c => { c with data := ls.flatMap fun x => s.bytesAt x row }

def execCopyRect (t : Time) (q : Nat) (s : State) : Host.Outcome State Fault Refusal :=
  nxt t (fun s => s.runCmd q 0x42 fun l w => State.copyRect q l w) s

/-! Chunks (R306, R307). -/

/-- The pieces of destination bytes `k` to `k + n` of a command: address, place in the chunk, length. -/
def Cmd.pieces (c : Cmd) (k : Nat) : Nat → Nat → List (Nat × Nat × Nat)
  | 0, _ => []
  | fuel + 1, n =>
    if n = 0 || c.row = 0 then []
    else
      let m := min n (c.row - k % c.row)
      (c.base + k / c.row * c.stride + k % c.row, k - c.done, m) :: c.pieces (k + m) fuel (n - m)

/-- The bytes of a chunk: those read from the host, the fill value repeated, or the copied source. -/
def Cmd.chunk (c : Cmd) (n : Nat) (host : List Byte) : List Byte :=
  if c.op = 0x40 then (List.range n).map fun k => host.getD k 0#8
  else if c.op = 0x41 then (List.range n).map fun k => c.data.getD ((c.done + k) % c.data.length) 0#8
  else (c.data.drop c.done).take n

/-- Bytes are charged to the DMA deficit of the command's instance; an instance with no chunk queued carries none (R307). -/
def State.chargeDma (i n : Nat) (s : State) : State := s.setInst i fun x => { x with dmaDeficit := x.dmaDeficit - (n : Int) }
def State.dmaIdle (i : Nat) (s : State) : State := if s.dmaWork i then s else s.setInst i fun x => { x with dmaDeficit := 0 }

/-- A channel has completed a chunk. -/
def State.chanShow (ch : Nat) (inst : Option Nat) (s : State) : State :=
  let s := s.bumpW PG_DMA (R.DMA_CHAN_CHUNKS ch) 1
  (s.sf PG_DMA (R.DMA_CHAN_SECURE ch) (if inst.isNone then 1 else 0)).sf PG_DMA (R.DMA_CHAN_INSTANCE ch) (inst.getD 0)

/-- Whether a command has chunks still to run. -/
def Cmd.chunks (c : Cmd) : Bool := (c.op == 0x40 || c.op == 0x41 || c.op == 0x42) && c.phase != 4
/-- Whether the upload engine runs and no secure chunk comes first (R306). -/
def State.dmaFree (s : State) : Bool := s.pstate PG_DMA = pRUN && !s.cmds.any fun p => qSecure p.2.q && p.2.chunks
/-- Whether command `id` may have a chunk run: secure DMA comes first (R306). -/
def State.dmaMay (s : State) (id : Nat) : Bool :=
  let c := fget {} s.cmds id
  fhas s.cmds id && c.chunks && s.pstate PG_DMA = pRUN && (qSecure c.q || s.dmaFree)
/-- The rounds as the upload engine wants a chunk, and whether instance `i` has its turn (R306, R307). -/
def State.dmaRounds (s : State) : State := s.rounds (fun i => s.dmaFree && s.dmaWork i) (fun x => x.dmaDeficit) 4096
def State.dmaTurn (s : State) (i : Nat) : Bool := decide (0 < (s.inst i).dmaDeficit)

/-- The host address from which an UPLOAD reads byte `k`, and its next byte. -/
def Cmd.hostFor (c : Cmd) (k : Nat) : Nat := if c.row = 0 then c.host else c.host + k / c.row * c.pitch + k % c.row
def Cmd.hostAt (c : Cmd) : Nat := c.hostFor c.done

/-- A chunk of a command completes on channel `ch` (R114, R307), where its instance has its turn. -/
def State.chunkDone (ch id : Nat) (host : List Byte) (s : State) : State :=
  let c := fget {} s.cmds id
  let ag := qAgent c.q 3
  let s' := if qSecure c.q then s else s.dmaRounds
  if 4 ≤ ch || !s.dmaMay id then s
  else if c.op = 0x40 && !s.linkUp then s.cmdDone id LINK_ERROR 0
  else if c.op = 0x40 && !s.busMaster then (s.dmaHostError (qInst c.q) c.hostAt NO_RIGHT).cmdDone id NO_RIGHT 0
  else if !qSecure c.q && !s'.dmaTurn (c.q / 4) then s'
  else
    let s := s'
    let n := min 4096 (c.total - c.done)
    let bs := c.chunk n host
    let ps := c.pieces c.done (n + 1) n
    let s := match qInst c.q with | some i => s.chargeDma i n | none => s
    let bad := (ps.find? fun x => s.memCode ag x.1 x.2.2 != OK).map fun x => s.memCode ag x.1 x.2.2
    let s := if c.op = 0x40 then forEach ps (fun x s => s.hostGet (qInst c.q) (c.hostFor (c.done + x.2.1)) x.2.2) s else s
    let s := forEach ps (fun x s => s.memWrite ag x.1 ((bs.drop x.2.1).take x.2.2) { cmd := some id }) s
    let s := (s.chanShow ch (qInst c.q)).perf 0x05 ((c.done + n) / 64 - c.done / 64) (qInst c.q) (qSecure c.q)
    let s := { s with cmds := fmod {} s.cmds id fun x => { x with done := c.done + n } }
    let s := match bad with
      | some code => s.cmdDone id code 0
      | none => if c.total ≤ c.done + n then s.cmdWritten id 0 else s
    match qInst c.q with | some i => s.dmaIdle i | none => s

/-- A chunk of the migration copy completes on channel `ch`, where its instance has its turn (R307, R319); `data` is what host memory
holds, for a copy into device DRAM.  A snapshot copies each bitmap word, marks that still wait among them, and clears it as one step (R316,
R322). -/
def State.migChunk (ch : Nat) (data : List Byte) (s : State) : State :=
  let m := s.mig
  let ag : Agent := { code := 3, inst := some m.inst }
  let a := m.dram + m.moved
  let n := min 4096 (m.len - m.moved)
  let code := s.memCode ag a n
  if 4 ≤ ch || !s.dmaFree || !s.tf PG_DMA R.MIG_STATUS_BUSY || m.len ≤ m.moved then s
  else if !s.linkUp then s.migEnd LINK_ERROR
  else if !s.busMaster then (s.dmaHostError (some m.inst) (m.host + m.moved) NO_RIGHT).migEnd NO_RIGHT
  else if !s.dmaRounds.dmaTurn m.inst then s.dmaRounds
  else if code != OK then (s.accessNote ag a n code).migEnd code
  else
    let s := s.dmaRounds
    let s := if m.mode = 1 then
        (s.hostGet none (m.host + m.moved) n).memWrite ag a ((List.range n).map fun k => data.getD k 0#8) { mig := true }
      else if m.mode = 2 then
        (s.hostPut none (m.host + m.moved) ((List.range n).map fun k => s.newest (a + k))).put a (List.replicate n 0#8)
      else s.hostPut none (m.host + m.moved) (s.memBytes ag a n)
    let s := { (s.chanShow ch (some m.inst)).chargeDma m.inst n with mig := { m with moved := m.moved + n } }
    s.dmaIdle m.inst

/-- DMA_CHUNK_DONE (R307, R319): of command `id`, or of the migration copy. -/
def execDmaChunkDone (t : Time) (chan : Nat) (id : Option Nat) (data : List Byte) (s : State) : Host.Outcome State Fault Refusal :=
  nxt t (fun s => match id with | some id => s.chunkDone chan id data | none => s.migChunk chan data) s

/-! Blocks of the companion die (R117, R324, R342). -/

/-- The checks on a haptic channel or audio stream: its page, its owner, its hand-over. -/
def State.compChecks (s : State) (q page blk : Nat) : List (Bool × Nat) :=
  let own := s.blkOwner blk
  [ (!s.d2dOk, LINK_ERROR), (!qSecure q && own.1, SECURE_DENIED),
    ((if qSecure q then !own.1 else own.2 != some (q / 4)), NO_RIGHT), (s.blkBusy blk, IN_SERVICE),
    (fhas s.handovers blk || s.pstate page = pOFF || s.pstate page = pINIT, WRONG_STATE) ]

/-- A command on a page in FAULT completes with the page's REASON (R61). -/
def State.onPage (q page : Nat) (go : State → State) (s : State) : State :=
  if s.pstate page = pFAULT then s.cmdFail q (s.gf page R.PAGE_STATE_REASON) else go s

/-- HAPTIC_PLAY (R433 to R437): refused under R435 unless its channel brakes or its start lies ahead. -/
def State.hapticPlay (q : Nat) (l : ListRun) (w : Word) (s : State) : State :=
  let n := bits (opw l 1) 0 2
  let slot := bits (opw l 1) 8 5
  let now := s.localTime (islandOf PG_HAP)
  let start := op64 l 2
  let later := hFlag w 18 && decide (now < start)
  s.checked q (hdrChecks q l w 4 [18] ++
      [ (bits (opw l 1) 2 6 != 0 || bits (opw l 1) 13 19 != 0 || slot / 8 != n || (!hFlag w 18 && start != 0) ||
          now + 60000000000 < start, BAD_ARG) ] ++ s.compChecks q PG_HAP (0x2000 + n) ++
      [(later && (s.hap n).timed.isSome, NO_RESOURCE)]) fun s =>
    s.onPage q PG_HAP fun s =>
      match (if later || s.hapSt n = cBRAKE then none else s.trigCode n) with
      | some c => (s.trigRefused n).refuse q c
      | none =>
        let id := s.nextCmd
        let s := s.cmdBegin q false fun c => { c with key := n, at_ := s.walltime }
        if later then
          (s.setHap n fun x => { x with timed := some { slot, cmd := some id, start } }).sf PG_HAP (R.HAP_CH_STATUS_TIMED n) 1
        else s.trigTake n slot (some id)

def execHapticPlay (t : Time) (q : Nat) (s : State) : Host.Outcome State Fault Refusal :=
  nxt t (fun s => s.runCmd q 0x60 fun l w => State.hapticPlay q l w) s

/-- AUDIO_CUE (R440, R441): the cue joins its stream's queue and starts once its first data are read. -/
def State.audioCue (q : Nat) (l : ListRun) (w : Word) (s : State) : State :=
  let n := bits (opw l 1) 0 4
  let now := s.localTime (islandOf PG_AUD)
  let addr := op64 l 2
  let len := (opw l 4).toNat
  let start := op64 l 5
  let timed := hFlag w 18
  let size := sampleBytes (s.gf PG_AUD (R.AUD_STR_CFG_FMT n))
  s.checked q (hdrChecks q l w 7 [18, 19] ++
      [ (bits (opw l 1) 4 4 != 0 || bits (opw l 1) 16 16 != 0 || addr % size != 0 || len = 0 || len % size != 0 || 16777216 < len ||
          (!timed && start != 0) || now + 60000000000 < start, BAD_ARG), (!s.dramOk q addr len, NO_RIGHT) ] ++
      s.compChecks q PG_AUD (0x3000 + n) ++
      [ (s.bistRun.any fun x => x.1 == PG_AUD && x.2.1 == s.strPort n, IN_SERVICE),
        (timed && 4 ≤ ((s.strm n).pend.filter fun c => c.timed).length, NO_RESOURCE) ]) fun s =>
    s.onPage q PG_AUD fun s =>
      let id := s.nextCmd
      let s := s.cmdBegin q false fun c => { c with key := n, at_ := s.walltime }
      (s.setStrm n fun x => { x with pend := x.pend ++ [{
        cmd := some id, addr, len, gain := bits (opw l 1) 8 8, loop := hFlag w 19, timed, start
        late := timed && decide (start ≤ now), owner := flipOwner q }] }).strShow n

def execAudioCue (t : Time) (q : Nat) (s : State) : Host.Outcome State Fault Refusal :=
  nxt t (fun s => s.runCmd q 0x61 fun l w => State.audioCue q l w) s

/-! Reads of host memory that fail (R293, R302, R318). -/

/-- A read of host memory fails with `code`; who waits for it ends (R101, R293, R302, R318, R322). -/
def State.hostReadFails (who : HostReq) (a code : Nat) (s : State) : State :=
  if !s.linkUp then s else
  match who with
  | .ring q =>
    if qSecure q || 1024 ≤ q || s.subInDram q then s
    else
      let s' := s.dmaHostError (qInst q) a code
      if (s.lr q).st = .running then s'.haltList q (s.lr q).pc code 1
      else if (s.lr q).st = .idle && s.ringReady q then s'.faultInst (q / 4) code else s
  | .command id =>
    if fhas s.cmds id && (fget {} s.cmds id).op = 0x40 then (s.dmaHostError (qInst (fget {} s.cmds id).q) a code).cmdDone id code 0
    else s
  | .imprt i => if (s.inst i).importing then (s.dmaHostError (some i) a code).importEnd i code else s
  | .migration =>
    if s.tf PG_DMA R.MIG_STATUS_BUSY && s.mig.mode = 1 then
      (s.dmaHostError (some s.mig.inst) a code).migEnd code
    else s

/-- HOST_READ_DONE (R293): a good answer is used by the row that takes the data; an error fails the read with NO_RIGHT. -/
def execHostReadDone (t : Time) (who : HostReq) (addr : Nat) (err : Bool) (s : State) : Host.Outcome State Fault Refusal :=
  nxt t (fun s => if err then s.hostReadFails who addr NO_RIGHT else s) s

/-- HOST_READ_TIMEOUT (R293): no completion within 50 ms. -/
def execHostReadTimeout (t : Time) (who : HostReq) (addr : Nat) (s : State) : Host.Outcome State Fault Refusal :=
  nxt t (fun s => s.hostReadFails who addr TIMEOUT) s

end Sys2Proof.Machine
end

