-- ==== Sys2Proof/Machine/Gate.lean ====
section
/-! DEFINITION. The Gatehouse: MCALL (R331 to R333), vendor services (R337), replies and their timeouts (R334 to R336); hand-over
commands (R339, R341); the secure rings (R330), the service ring (R333), the watermarks (R328, R329). -/

namespace Sys2Proof.Machine

open Sys2Proof

/-! MCALL. -/

/-- Slots of the service ring (R333). -/
def State.svcSlots (s : State) : Nat := 64 * 2 ^ s.gf PG_SEC R.SEC_SVC_CTRL_SIZE
def State.svcBase (s : State) : Nat := s.g64 PG_SEC R.SEC_SVC_BASE_LO_BASE R.SEC_SVC_BASE_HI_BASE
/-- The Gatehouse, a secure agent, reads or writes device DRAM (R323, R355). -/
def State.gateBytes (a n : Nat) (s : State) : List Byte × State := (s.bytesAt a n, s.noteAccess none true none a n)
def State.gatePut (a : Nat) (bs : List Byte) (s : State) : State :=
  (s.noteAccess none true none a bs.length).dput a bs { sec := true }

/-- The argument area of a slot. -/
def State.argArea (s : State) (slot : Nat) : Nat := pair64 (s.rd (regKey PG_SEC 0x48)) (s.rd (regKey PG_SEC 0x4C)) + 4096 * slot
/-- Whether the next slot is free: SEC_SVC_RD has passed it and its call has ended (R333).  One slot is kept empty, so that equal
indexes mean an empty ring (DEDUCED, log entry 30). -/
def State.svcFree (s : State) : Bool :=
  let w := s.gf PG_SEC R.SEC_SVC_WR_INDEX % s.svcSlots
  (w + 1) % s.svcSlots != s.gf PG_SEC R.SEC_SVC_RD_INDEX % s.svcSlots && !s.calls.any fun p => p.2.open_ && p.2.slot == w

/-- ARG_LEN of a vendor service; none: the number names no service (R337). -/
def vendorArg (n : Nat) : Option Nat :=
  if n = 0 || n = 2 then some 0 else if n = 1 || n = 0x10 || n = 0x11 then some 4 else if n = 3 then some 16 else none
/-- Whether a number is a customer service now accepted. -/
def State.customer (s : State) (n : Nat) : Bool :=
  0x100 ≤ n && n ≤ s.gf PG_SEC R.SEC_SVC_CTRL_LIMIT && s.tf PG_SEC R.SEC_SVC_CTRL_ENABLE

/-- The Gatehouse accepts a customer call (R332, R333): the argument copied, the slot written, SVC_PENDING where the ring was empty. -/
def State.callAccept (q : Nat) (l : ListRun) (s : State) : State :=
  let arg := op64 l 2
  let len := bits (opw l 4) 0 13
  let ms := bits (opw l 1) 16 16
  let w := s.gf PG_SEC R.SEC_SVC_WR_INDEX % s.svcSlots
  let id := s.nextReq
  let now := s.localTime 2
  let deadline := now + (if ms = 0 then 1000 else ms) * 1000000
  let slot : List Word := [
    BitVec.ofNat 32 id, BitVec.ofNat 32 (bits (opw l 1) 0 16 + 65536 * (q / 4) + 16777216 * (q % 4)), BitVec.ofNat 32 len,
    lo32 now, hi32 now, lo32 deadline, hi32 deadline, BitVec.ofNat 32 l.tag, BitVec.ofNat 32 (s.ent (q / 4) 1 0 20), lo32 arg, hi32 arg]
  let r := s.gateBytes arg len
  let s := r.2.gatePut (s.argArea w) r.1
  let s := s.gatePut (s.svcBase + 64 * w) (wordBytes slot ++ List.replicate 20 0#8)
  let empty := w = s.gf PG_SEC R.SEC_SVC_RD_INDEX % s.svcSlots
  let s := s.sf PG_SEC R.SEC_SVC_WR_INDEX ((w + 1) % s.svcSlots)
  let s := if empty then s.raise PG_SEC 0 { d6 := s.gf PG_SEC R.SEC_SVC_WR_INDEX } else s
  let s := { s with
    nextReq := (id + 1) % 4294967296
    calls := fset s.calls id { q, slot := w, service := bits (opw l 1) 0 16, argLen := len, arg, deadline } }
  s.cmdWait q (.call id) (some deadline)

/-- The Gatehouse's checks on a call that has passed those of R119 (R331); a vendor service then waits for its answer. -/
def State.gateCall (q : Nat) (l : ListRun) (s : State) : State :=
  let n := bits (opw l 1) 0 16
  let len := bits (opw l 4) 0 13
  let ms := bits (opw l 1) 16 16
  let s := s.perf 0x0D 1 (qInst q) false
  match vendorArg n with
  | some k =>
    if len != k then s.refuse q BAD_ARG
    else s.cmdWait q (.gatehouse n) (some (s.walltime + (if ms = 0 then 1000 else ms) * 1000000))
  | none =>
    if !s.customer n then s.refuse q BAD_OPCODE
    else if !s.svcFree then
      (s.raise PG_SEC 1 { status := NO_RESOURCE, d6 := n, d7 := q / 4, inst := some (q / 4) }).refuse q NO_RESOURCE
    else
      let code := s.memCode (qAgent q 2) (op64 l 2) len
      if code = OK then s.callAccept q l else (s.accessNote (qAgent q 2) (op64 l 2) len code).cmdFail q code

/-- MCALL (R119, R331).  While a patch applies or the Gatehouse is halted, the call waits in its Conductor (R466, R349). -/
def State.mcall (q : Nat) (l : ListRun) (w : Word) (s : State) : State :=
  let arg := op64 l 2
  let len := bits (opw l 4) 0 13
  if s.patching || s.tf PG_DEBUG R.DBG_STATUS_GH_HALTED then s
  else s.checked q ([(qSecure q, BAD_OPCODE)] ++ hdrChecks q l w 5 [] ++
      [ (bits (opw l 4) 13 19 != 0 || 4096 < len || (len = 0 && arg != 0) || arg % 64 != 0, BAD_ARG),
        (len != 0 && !s.dramOk q arg len, NO_RIGHT), (s.inService PG_SEC, IN_SERVICE),
        (s.pstate PG_SEC = pOFF || s.pstate PG_SEC = pINIT, WRONG_STATE) ]) fun s =>
    s.onPage q PG_SEC fun s => s.gateCall q l

def execMcall (t : Time) (q : Nat) (s : State) : Host.Outcome State Fault Refusal :=
  nxt t (fun s => s.runCmd q 0x70 fun l w => State.mcall q l w) s

/-! Replies. -/

/-- A list that waits, or whose wait is set aside, for the answer of vendor service `n`. -/
def State.waitsGate (s : State) (q n : Nat) : Bool :=
  ((s.lr q).st = .wait || ((s.lr q).st = .aside && (s.lr q).resume.isNone)) && (s.lr q).wait = .gatehouse n &&
    s.pstate PG_SEC = pRUN && !s.tf PG_DEBUG R.DBG_STATUS_GH_HALTED

/-- Address of the waiting command's argument block. -/
def ListRun.argAt (l : ListRun) : Nat := pair64 (nthW l.words (l.idx + 2)) (nthW l.words (l.idx + 3))

/-- GET_VERSION: Gatehouse version 0x00B0 and the patch level. -/
def execGetVersion (t : Time) (q : Nat) (s : State) : Host.Outcome State Fault Refusal :=
  nxt t (fun s => if s.waitsGate q 0 then s.replyTo q OK (0xB0 + s.ghVersion % 65536 * 65536) else s) s

/-- Whether a block map of the SEC page, LO at offset `off`, names block `b`. -/
def State.mapBit (s : State) (off b : Nat) : Bool := bit (pair64 (s.rd (regKey PG_SEC off)) (s.rd (regKey PG_SEC (off + 4)))) (blkBit b)

/-- VALUE of QUERY_BLOCK. -/
def State.blockValue (s : State) (b : Nat) : Nat :=
  let own := s.blkOwner b
  (if s.blkSecure b then 1 else 0) + bits (s.rd (regKey (blkPage b) (blkOff b))) 17 2 * 2 + (if own.2.isSome then 8 else 0) +
    own.2.getD 0 * 256 + (if s.mapBit 0x78 b then 65536 else 0) + (if s.mapBit 0x80 b then 131072 else 0)

/-- QUERY_BLOCK. -/
def execQueryBlock (t : Time) (q : Nat) (s : State) : Host.Outcome State Fault Refusal :=
  nxt t (fun s =>
    if !s.waitsGate q 1 then s
    else
      let b := (s.wordAt (s.lr q).argAt).toNat
      if b < 65536 && blkOk b then s.replyTo q OK (s.blockValue b) else s.replyTo q BAD_ARG 0) s

/-- QUERY_DEBUG: normal non-invasive and normal invasive, as effective (R347). -/
def execQueryDebug (t : Time) (q : Nat) (s : State) : Host.Outcome State Fault Refusal :=
  nxt t (fun s =>
    let e := s.dbgEffective
    if s.waitsGate q 2 then s.replyTo q OK ((if bit e 3 then 1 else 0) + (if bit e 2 then 2 else 0)) else s) s

/-- QUERY_WATERMARKS: the watermarks and LOCKED go to the argument block. -/
def execQueryWatermarks (t : Time) (q : Nat) (s : State) : Host.Outcome State Fault Refusal :=
  nxt t (fun s =>
    if !s.waitsGate q 3 then s
    else
      let ws := [s.gf PG_WMARK R.WM_DRAM_LEVEL, s.wmSdt, s.gf PG_WMARK R.WM_SRAM_LEVEL, s.gf PG_WMARK R.LOCK_LOCKED]
      (s.gatePut (s.lr q).argAt (ws.flatMap fun w => leBytes 4 w)).replyTo q OK 0) s

/-- REQUEST_BLOCK and OFFER_BLOCK: the block's map, then the hand-over's own checks (R337, R339). -/
def State.askBlock (q n : Nat) (s : State) : State :=
  if !s.waitsGate q n then s
  else
    let b := (s.wordAt (s.lr q).argAt).toNat
    let toSecure := n = 0x11
    let code := if b < 65536 && blkOk b then
        refusal [ (!s.mapBit (if toSecure then 0x80 else 0x78) b, SECURE_DENIED),
                  ((s.hoCode b toSecure false).isSome, (s.hoCode b toSecure false).getD OK) ]
      else some BAD_ARG
    match code with
    | some c => s.replyTo q c 0
    | none => (s.setLr q fun l => { l with wait := .handover b }).hoStart b toSecure false (some q)

def execRequestBlock (t : Time) (q : Nat) (s : State) : Host.Outcome State Fault Refusal := nxt t (fun s => s.askBlock q 0x10) s
def execOfferBlock (t : Time) (q : Nat) (s : State) : Host.Outcome State Fault Refusal := nxt t (fun s => s.askBlock q 0x11) s

/-- A reply of the secure world (R334, R335). -/
def replyAct : Act where
  code s :=
    let id := s.gf PG_SEC R.SEC_REPLY_ID_REQ_ID
    let c := fget {} s.calls id
    let waits := fhas s.calls id && c.open_ && s.localTime 2 ≤ c.deadline
    refusal [ (15 < s.gf PG_SEC R.SEC_REPLY_STATUS || (waits && c.argLen < s.gf PG_SEC R.SEC_REPLY_LEN), BAD_ARG),
              (!waits, WRONG_STATE) ]
  refused code s := ((s.sf PG_SEC R.SEC_REPLY_RESULT_RESULT code).err PG_SEC code).raise PG_SEC 4
    { status := code, d6 := s.gf PG_SEC R.SEC_REPLY_ID_REQ_ID, d7 := code }
  go s :=
    let id := s.gf PG_SEC R.SEC_REPLY_ID_REQ_ID
    let c := fget {} s.calls id
    let s := (s.sf PG_SEC R.SEC_REPLY_RESULT_RESULT OK).closeCall id
    let r := s.gateBytes (s.argArea c.slot) (s.gf PG_SEC R.SEC_REPLY_LEN)
    let s := r.2.gatePut c.arg r.1
    s.replyTo c.q (s.gf PG_SEC R.SEC_REPLY_STATUS) (s.gf PG_SEC R.SEC_REPLY_VALUE_VALUE)

/-- SEC_REPLY (R334): STATUS and LEN are stored, and GO delivers the reply. -/
def execSecReply (t : Time) (p : Port) (v : Word) (s : State) : Host.Outcome State Fault Refusal :=
  nxt t (fun s => s.guarded p PG_SEC 0x64 fun s => replyAct.run (s.plainWrite (portSecure p) PG_SEC 0x64 v)) s

/-- MCALL_TIMEOUT (R335). -/
def execMcallTimeout (t : Time) (reqId : Nat) (s : State) : Host.Outcome State Fault Refusal :=
  nxt t (fun s =>
    let c := fget {} s.calls reqId
    if !fhas s.calls reqId || !c.open_ || s.localTime 2 < c.deadline then s
    else
      let s := (s.closeCall reqId).raise PG_SEC 3 { status := TIMEOUT, d6 := reqId, d7 := c.q / 4, inst := some (c.q / 4) }
      s.replyTo c.q TIMEOUT 0) s

/-! Hand-over (R339 to R341). -/

/-- SEC_HO_CMD.GO. -/
def hoAct : Act where
  code s := s.hoCode (s.gf PG_SEC R.SEC_HO_CMD_BLOCK_ID) (s.tf PG_SEC R.SEC_HO_CMD_TO_WORLD) (s.tf PG_SEC R.SEC_HO_CMD_FORCE)
  refused c s := (s.sf PG_SEC R.SEC_HO_STATUS_RESULT c).err PG_SEC c
  go s := (s.sf PG_SEC R.SEC_HO_STATUS_BUSY 1).hoStart (s.gf PG_SEC R.SEC_HO_CMD_BLOCK_ID) (s.tf PG_SEC R.SEC_HO_CMD_TO_WORLD) true none

/-- HANDOVER_START (R339). -/
def execHandoverStart (t : Time) (p : Port) (v : Word) (s : State) : Host.Outcome State Fault Refusal :=
  nxt t (fun s => s.guarded p PG_SEC 0x70 fun s => hoAct.run (s.plainWrite (portSecure p) PG_SEC 0x70 v)) s

/-- HANDOVER_RELEASE (R341). -/
def execHandoverRelease (t : Time) (blk : Nat) (s : State) : Host.Outcome State Fault Refusal := nxt t (fun s => s.hoRelease blk) s

/-- HANDOVER_SCRUB_END (R340, R341). -/
def execHandoverScrubEnd (t : Time) (blk : Nat) (s : State) : Host.Outcome State Fault Refusal := nxt t (fun s => s.hoScrubEnd blk) s

/-! Secure rings (R330). -/

/-- A write of SEC_SUB_CTRL: SIZE 7, or EN 1 on a base misaligned or a ring not wholly below the watermark, is refused. -/
def subCtrlAct (r : Nat) (v : Word) : Act where
  code s :=
    let base := s.g64 PG_SEC (R.SEC_SUB_BASE_LO_BASE r) (R.SEC_SUB_BASE_HI_BASE r)
    if bits v 0 3 = 7 || (bits v 3 1 = 1 && (base % 4096 != 0 || s.wmDram < base + 4096 * 2 ^ bits v 0 3)) then some BAD_ARG else none
  refused c s := s.err PG_SEC c
  go s := (s.sf PG_SEC (R.SEC_SUB_CTRL_SIZE r) (bits v 0 3)).sf PG_SEC (R.SEC_SUB_CTRL_EN r) (bits v 3 1)

/-- SEC_SUB_ENABLE (R330). -/
def execSecSubEnable (t : Time) (p : Port) (r : Nat) (v : Word) (s : State) : Host.Outcome State Fault Refusal :=
  nxt t (fun s => if r < 2 then s.guarded p PG_SEC (0xA8 + 0x10 * r) (subCtrlAct r v).run else s) s

/-- A write of SEC_SUB_TAIL: SIZE slots or more, or a ring whose EN is 0, is ignored (R330). -/
def subTailAct (r : Nat) (v : Word) : Act where
  code s := if s.subSlots (1024 + r) ≤ bits v 0 14 || !s.subEn (1024 + r) then some BAD_ARG else none
  refused c s := s.err PG_SEC c
  go s := s.sf PG_SEC (R.SEC_SUB_TAIL_TAIL r) (bits v 0 14)

/-- SEC_DOORBELL (R330). -/
def execSecDoorbell (t : Time) (p : Port) (r : Nat) (v : Word) (s : State) : Host.Outcome State Fault Refusal :=
  nxt t (fun s => if r < 2 then s.guarded p PG_SEC (0xAC + 0x10 * r) (subTailAct r v).run else s) s

/-- A write of SEC_SVC_CTRL: SIZE above 4, or ENABLE 1 with a ring or argument area not wholly below the watermark (R333), is refused.
A base that is not 4 KiB aligned is refused with them (DEDUCED, log entry 30). -/
def svcCtrlAct (v : Word) : Act where
  code s :=
    let size := bits v 1 3
    let args := s.argArea 0
    if 4 < size || (bits v 0 1 = 1 && (s.svcBase % 4096 != 0 || args % 4096 != 0 || s.wmDram < s.svcBase + 4096 * 2 ^ size ||
        s.wmDram < args + 262144 * 2 ^ size)) then some BAD_ARG else none
  refused c s := s.err PG_SEC c
  go s := ((s.sf PG_SEC R.SEC_SVC_CTRL_ENABLE (bits v 0 1)).sf PG_SEC R.SEC_SVC_CTRL_SIZE (bits v 1 3)).sf PG_SEC
    R.SEC_SVC_CTRL_LIMIT (bits v 16 16)

/-- SVC_ENABLE (R333). -/
def execSvcEnable (t : Time) (p : Port) (v : Word) (s : State) : Host.Outcome State Fault Refusal :=
  nxt t (fun s => s.guarded p PG_SEC 0x50 (svcCtrlAct v).run) s

/-! Watermarks (R328, R329). -/

/-- Base and size of an active spill region (R155): the normal one at 0x44, the secure one at 0x50. -/
def State.spillRange (s : State) (off : Nat) : Nat × Nat :=
  (pair64 (s.rd (regKey PG_ARCADE off)) (s.rd (regKey PG_ARCADE (off + 4))) / 2097152 * 2097152,
    bits (s.rd (regKey PG_ARCADE (off + 8))) 0 8 * 2097152)

/-- What lies partly below a raised DRAM watermark (R329). -/
def State.belowDram (s : State) (level : Nat) : Bool :=
  (s.openInsts.any fun i => (s.ent i 2 16 15 != 0 && s.ent i 2 0 14 * 2097152 < level) ||
    (s.ent i 56 1 1 = 1 && s.ent i 2 16 15 != 0 && s.ent64 i 61 < level)) ||
  (s.tf PG_JRN_N R.JRN_CTRL_ENABLE && s.g64 PG_JRN_N R.JRN_BASE_LO_BASE R.JRN_BASE_HI_BASE < level) ||
  ((s.spillRange 0x44).2 != 0 && (s.spillRange 0x44).1 < level)

/-- What reaches at or above a lowered one (R329). -/
def State.aboveDram (s : State) (level : Nat) : Bool :=
  let svc := s.tf PG_SEC R.SEC_SVC_CTRL_ENABLE
  (s.tf PG_JRN_S R.JRN_CTRL_ENABLE &&
    level < s.g64 PG_JRN_S R.JRN_BASE_LO_BASE R.JRN_BASE_HI_BASE / 4096 * 4096 + 32 * s.jrnSlots PG_JRN_S) ||
  (svc && level < s.svcBase + 64 * s.svcSlots) || (svc && level < s.argArea s.svcSlots) ||
  ([1024, 1025].any fun q => s.subEn q && level < s.subBase q + 16 * s.subSlots q) ||
  ((s.spillRange 0x50).2 != 0 && level < (s.spillRange 0x50).1 + (s.spillRange 0x50).2) ||
  (s.sdt.any fun e => e.2.secure && e.2.state != sFREE && level < e.2.base + e.2.bytes)

/-- The highest DRAM level: the capacity in 2 MiB units, at most 16,384; the most while memory has not been initialised. -/
def State.wmDramMax (s : State) : Nat := if s.capBytes = 0 then 16384 else min 16384 (s.capBytes / 2097152)

/-- Why a watermark write is refused: out of range, the mode, the lock, what stands in the way (R328, R329). -/
def State.wmCode (s : State) (out conflict : Bool) : Option Nat :=
  refusal [ (out, BAD_ARG), (s.tf PG_WMARK R.LOCK_LOCKED, NO_RIGHT),
            (s.mode != ENUMERATE && s.mode != CONFIGURE && s.mode != FALLBACK, WRONG_STATE), (conflict, NO_RESOURCE) ]

/-- A refused watermark write changes nothing but RESULT. -/
def State.wmRefused (c : Nat) (s : State) : State := (s.sf PG_WMARK R.WM_STATUS_RESULT c).err PG_WMARK c

/-- An accepted write of watermark `k`; a new level raises WM_CHANGED. -/
def State.wmSet (k : Nat) (f : Fld) (level : Nat) (s : State) : State :=
  ((s.sf PG_WMARK R.WM_STATUS_RESULT OK).sf PG_WMARK f level).raise PG_WMARK 2 { d6 := k, d7 := level }

/-- WM_DRAM: the pages between the old and the new level become invalid. -/
def wmDramAct (v : Word) : Act where
  code s :=
    let n := bits v 0 15
    let old := s.gf PG_WMARK R.WM_DRAM_LEVEL
    s.wmCode (s.wmDramMax < n) ((old < n && s.belowDram (n * 2097152)) || (n < old && s.aboveDram (n * 2097152)))
  refused c s := s.wmRefused c
  go s :=
    let n := bits v 0 15
    let old := s.gf PG_WMARK R.WM_DRAM_LEVEL
    (s.clearPages (512 * min n old) (512 * max n old)).wmSet 0 R.WM_DRAM_LEVEL n

/-- WM_SDT. -/
def wmSdtAct (v : Word) : Act where
  code s :=
    let n := bits v 0 13
    let old := s.wmSdt
    s.wmCode (4096 < n) ((old < n && s.openInsts.any fun i => s.ent i 4 16 13 != 0 && s.ent i 4 0 12 < n) ||
      (s.sdt.any fun e => n ≤ e.1 && e.1 < old && e.2.state != sFREE))
  refused c s := s.wmRefused c
  go s := s.wmSet 1 R.WM_SDT_LEVEL (bits v 0 13)

/-- WM_SRAM: the tiles of macros that change side become EMPTY. -/
def wmSramAct (v : Word) : Act where
  code s := s.wmCode (96 < bits v 0 7) false
  refused c s := s.wmRefused c
  go s :=
    let n := bits v 0 7
    let old := s.gf PG_WMARK R.WM_SRAM_LEVEL
    (s.dropSlots fun k => decide (16 * min n old ≤ k) && decide (k < 16 * max n old)).wmSet 2 R.WM_SRAM_LEVEL n

/-- WM_DRAM_WRITE, WM_SDT_WRITE and WM_SRAM_WRITE (R328, R329). -/
def execWmDramWrite (t : Time) (p : Port) (v : Word) (s : State) : Host.Outcome State Fault Refusal :=
  nxt t (fun s => s.guarded p PG_WMARK 0x40 (wmDramAct v).run) s
def execWmSdtWrite (t : Time) (p : Port) (v : Word) (s : State) : Host.Outcome State Fault Refusal :=
  nxt t (fun s => s.guarded p PG_WMARK 0x44 (wmSdtAct v).run) s
def execWmSramWrite (t : Time) (p : Port) (v : Word) (s : State) : Host.Outcome State Fault Refusal :=
  nxt t (fun s => s.guarded p PG_WMARK 0x48 (wmSramAct v).run) s

/-! JTAG and counters (R348, R350). -/

/-- IDCODE: the stepping, 0x8810, the manufacturer code and 1 (R348). -/
def jtagIdcode : Nat := 0xB0000000 + 0x8810 * 4096 + Config.jedecId * 2 + 1

/-- What Capture-DR loads, first bit first (R348): the identity, or the bypass bit, which CLAMP and HIGHZ also select.  The manual gives
the boundary register of SAMPLE/PRELOAD and EXTEST no order, and DBG_ACCESS no register. -/
def State.tapCapture (s : State) : Option (List Bool) :=
  match s.tapIr with
  | .idcode => some ((List.range 32).map (bit jtagIdcode))
  | .bypass | .clamp | .highz => some [false]
  | .sample | .extest | .dbgAccess => none

/-- Entry to EXTEST, CLAMP or HIGHZ: every island resets, SRAM and the valid bitmap are cleared, and ENUMERATE is held. -/
def execJtagExtestEntry (entry : TapEntry) (s : State) : Host.Outcome State Fault Refusal :=
  nxt entry.time (fun s => { s.restart s.mode with jtagHold := true, tapIr := entry.ir }) s

/-- The TAP passes through Test-Logic-Reset. -/
def execJtagTestLogicReset (t : Time) (s : State) : Host.Outcome State Fault Refusal :=
  nxt t (fun s => { s with jtagHold := false, tapReset := false, tapIr := .idcode }) s

/-- PERF_CTRL.CLEAR: every counter reads 0. -/
def perfClearAct : Act where
  go s := forNat 32 (fun k s => (s.sf PG_PERF (R.PERF_CNT_LO_COUNT k) 0).sf PG_PERF (R.PERF_CNT_HI_COUNT k) 0) s

/-- PERF_CLEAR (R350). -/
def execPerfClear (t : Time) (p : Port) (s : State) : Host.Outcome State Fault Refusal :=
  nxt t (fun s => s.guarded p PG_PERF 0x40 perfClearAct.run) s

end Sys2Proof.Machine
end

