-- ==== Sys2Proof/Machine/Pcie.lean ====
section
/-! DEFINITION. The PCIe endpoint (R290 to R295) and what guests do in their windows and aperture slices (R296 to R299, R304, R305). -/

namespace Sys2Proof.Machine

open Sys2Proof

/-! The event ring after a gap (R295, R305). -/

/-- Once a slot is free, the RING_GAP record of the records lost goes to the event ring, and the count returns to 0 (R305). -/
def State.ringGap (i : Nat) (s : State) : State :=
  let n := (s.win i 0x18).toNat
  if n = 0 || s.evtFull i || !s.linkUp || !(s.instState i = iACTIVE || s.instState i = iSUSPENDED) then s
  else (s.emit PG_INST 0x0520 { d6 := n, inst := some i, time := some (s.inst i).lostAt, jrn := false }).setWin i 0x18 0#32

/-- The records held for an instance while the link was down are written, after those lost have been told of (R295). -/
def State.flushHeld (i : Nat) (s : State) : State :=
  let recs := (s.inst i).heldRecs
  forEach recs (fun r s => s.ringPut i r) ((s.setInst i fun x => { x with heldRecs := [] }).ringGap i)

/-! The link (R295). -/

/-- The requests that the loss of the link leaves unanswered fail with LINK_ERROR: UPLOADs, imports, exports, the migration copy. -/
def State.hostLost (s : State) : State :=
  let s := forEach (s.cmdsWhere fun c => c.op == 0x40) (fun id s => s.cmdDone id LINK_ERROR 0) s
  (forEach s.openInsts (fun i s =>
    let s := if (s.inst i).exporting then s.exportEnd i LINK_ERROR 0 else s
    if (s.inst i).importing then s.importEnd i LINK_ERROR else s) s).migEnd LINK_ERROR

/-- The link leaves L0 (R295). -/
def State.linkDrop (s : State) : State :=
  let s := s.raise PG_PCI 0 { d6 := s.gf PG_PCI R.PCI_LINK_SPEED, d7 := s.gf PG_PCI R.PCI_LINK_WIDTH }
  let s := ((s.sf PG_PCI R.PCI_LINK_UP 0).sf PG_PCI R.PCI_LINK_SPEED 0).sf PG_PCI R.PCI_LINK_WIDTH 0
  (s.bump PG_PCI R.PCI_LINK_DOWNS 1).hostLost

/-- PCIE_LINK_DOWN (R295). -/
def execPcieLinkDown (t : Time) (s : State) : Host.Outcome State Fault Refusal :=
  nxt t (fun s => if s.linkUp then s.linkDrop else s) s

/-- The link enters L0 at a rate and width that R290 supports. -/
def State.linkRise (speed width : Nat) (s : State) : State :=
  if s.linkUp || s.perstLow || speed = 0 || 5 < speed || !([1, 2, 4, 8].contains width) then s
  else
    let s := ((s.sf PG_PCI R.PCI_LINK_UP 1).sf PG_PCI R.PCI_LINK_SPEED speed).sf PG_PCI R.PCI_LINK_WIDTH width
    let s := s.raise PG_PCI 1 { d6 := speed, d7 := width }
    forEach s.openInsts (fun i s => s.flushHeld i) s

/-- PCIE_LINK_UP (R295). -/
def execPcieLinkUp (t : Time) (speed width : Nat) (s : State) : Host.Outcome State Fault Refusal :=
  nxt t (fun s => s.linkRise speed width) s

/-! Reset of the function (R294). -/

/-- Whether a register returns to its reset value when the PCI island resets: the PCI, INST and DMA pages but for what SYS holds,
PCI_LINK, INST_CAPACITY and INST_C0_RES; windows; the configuration space; the MSI-X masks. -/
def pciKey (k : Nat) : Bool :=
  (pageBase PG_PCI ≤ k && k < pageBase 14 && !sysHeld (k % 0x1000) && k != regKey PG_PCI 0x40 && k != regKey PG_INST 0x50 &&
      k != regKey PG_INST 0x58) ||
    winKey 0 0 ≤ k || (k < 0x8000 && k % 16 = 12)

/-- PERST_N or an FLR resets the PCI island, the INST and the DMA page; instances that run go through instance reset (R294, R302). -/
def State.pciReset (s : State) : State :=
  let s := forEach s.openInsts (fun i s =>
    if s.instState i = iSETUP then s.cancelMig i
    else if s.instState i = iRESETTING then s else s.resetInstTo i iRESETTING OK) s
  { s with
    regs := s.regs.filter fun p => !pciKey p.1
    loHeld := s.loHeld.filter fun p => !pciKey p.1 }.showRes

/-- PERST_N_ASSERT (R294): the link goes down with it. -/
def execPerstNAssert (t : Time) (s : State) : Host.Outcome State Fault Refusal :=
  nxt t (fun s => if s.perstLow then s else { (if s.linkUp then s.linkDrop else s).pciReset with perstLow := true }) s

/-- PERST_N_RELEASE (R294): the reset ends. -/
def execPerstNRelease (t : Time) (s : State) : Host.Outcome State Fault Refusal :=
  nxt t (fun s => if s.perstLow then { s with perstLow := false }.raise PG_PCI 2 { d6 := 1 } else s) s

/-- FLR (R294): the link stays. -/
def execFlr (t : Time) (s : State) : Host.Outcome State Fault Refusal :=
  nxt t (fun s => if s.linkUp && s.mode != ENUMERATE then s.pciReset.raise PG_PCI 2 {} else s) s

/-! Configuration requests (R33, R290, R291). -/

/-- Bits of a configuration register that a write changes: Memory Space Enable and Bus Master Enable, and the address bits of the
three 64-bit BARs. -/
def pciMask (reg : Nat) : Nat :=
  if reg = 0x04 then 6 else if reg = 0x10 then 0xFE000000 else if reg = 0x18 then 0xFF000000 else if reg = 0x20 then 0xF0000000
  else if reg = 0x14 || reg = 0x1C || reg = 0x24 then 0xFFFFFFFF else 0

/-! The capabilities of R290, in the layout of the PCIe base specification that it names (PRESUMED, log entry 28). -/

def capAt (id : Nat) : Nat := Config.pciCapAt id % 64 * 4
def extCapAt (id : Nat) : Nat := Config.pciExtCapAt id % 1024 * 4

/-- The bits that R290 fixes in capability registers: the register, a mask and the value.  The chain has power management (0x01), PCI
Express (0x10) and MSI-X (0x11), and AER (0x01) and PASID (0x1B) as extended capabilities, and no others: no MSI, ATS, PRI or SR-IOV.  D0
only; payloads of 512 bytes; Function Level Reset; 32.0 GT/s on x8 without ASPM; 10-bit tags; 2,048 vectors, the table at 0 and the PBA
at 0x8000 of BAR 0; a 20-bit PASID without execute and privileged modes. -/
def State.capFields (s : State) : List (Nat × Nat × Nat) :=
  [ (0x04, 0x00180000, 0x00100000), (0x34, 0xFF, capAt 1), (0x3C, 0xFF00, 0),
    (capAt 1, 0x0600FFFF, 1 + capAt 0x10 * 256), (capAt 1 + 4, 3, 0),
    (capAt 0x10, 0x00F0FFFF, 0x10 + capAt 0x11 * 256), (capAt 0x10 + 4, 0x10000007, 0x10000002), (capAt 0x10 + 0x0C, 0xFFF, 0x85),
    (capAt 0x10 + 0x10, 0x03FF0000, (s.gf PG_PCI R.PCI_LINK_SPEED + s.gf PG_PCI R.PCI_LINK_WIDTH * 16) * 65536),
    (capAt 0x10 + 0x24, 0x30000, 0x30000), (capAt 0x11, 0x07FFFFFF, 0x11 + 2047 * 65536), (capAt 0x11 + 4, 0xFFFFFFFF, 0),
    (capAt 0x11 + 8, 0xFFFFFFFF, 0x8000), (0x100, 0xFFF0FFFF, 1 + extCapAt 0x1B * 1048576),
    (extCapAt 0x1B, 0xFFF0FFFF, 0x1B), (extCapAt 0x1B + 4, 0x1F06, 0x1400) ]

/-- A word with the bits that R290 fixes in a register. -/
def State.capOver (s : State) (reg : Nat) (v : Word) : Word :=
  s.capFields.foldl (fun v f => if f.1 = reg then (v &&& ~~~(BitVec.ofNat 32 f.2.1)) ||| BitVec.ofNat 32 f.2.2 else v) v

/-- What a configuration register reads: the identity and the BARs of R290 and R291, the capabilities; any other bit is the base
specification's and a free value (log entry 28). -/
def State.cfgRead (s : State) (reg : Nat) : Word :=
  let k := s.rd (cfgKey reg)
  if reg = 0x00 then BitVec.ofNat 32 (Config.pciVendorId + 0x8810 * 65536)
  else if reg = 0x04 then s.capOver reg (BitVec.ofNat 32 (k.toNat % 65536 + s.free.toNat % 65536 * 65536))
  else if reg = 0x08 then 0x038000B0#32
  else if reg = 0x0C then 0#32
  else if reg = 0x10 || reg = 0x18 then k ||| 4#32
  else if reg = 0x20 then k ||| 12#32
  else if reg = 0x14 || reg = 0x1C || reg = 0x24 then k
  else s.capOver reg (BitVec.ofNat 32 s.free.toNat)

/-- A configuration request: in ENUMERATE Configuration Request Retry Status, shown as no data. -/
def State.cfgRequest (write : Bool) (reg be : Nat) (v : Word) (s : State) : State :=
  if !s.linkUp then s
  else if s.mode = ENUMERATE then { s with reply := [] }
  else
    let reg := reg % 4096 / 4 * 4
    if write then
      let m : Word := BitVec.ofNat 32 (pciMask reg &&& bitmap 32 fun b => bit be (b / 8))
      s.wr (cfgKey reg) ((s.rd (cfgKey reg) &&& ~~~m) ||| (v &&& m))
    else { s with reply := [s.cfgRead reg] }.useFree

/-- PCIE_CONFIGURATION_REQUEST (R33). -/
def execPcieConfigurationRequest (t : Time) (write : Bool) (reg be : Nat) (v : Word) (s : State) :
    Host.Outcome State Fault Refusal :=
  nxt t (fun s => s.cfgRequest write reg be v) s

/-! Guest windows (R297, R298, R304, R305). -/

/-- A window write is refused: WIN_ERROR takes the code. -/
def State.winError (i code : Nat) (s : State) : State := s.setWin i 0x08 (BitVec.ofNat 32 code)

/-- A write to WIN_SUB_TAIL (R33, R304). -/
def State.doorbell (i r : Nat) (v : Word) (s : State) : State :=
  let st := s.instState i
  let q := 4 * i + r
  let tail := bits v 0 14
  if 256 ≤ i || 4 ≤ r || s.mode = ENUMERATE || s.mode = FALLBACK then s
  else if st != iSETUP && st != iACTIVE && st != iSUSPENDED then s
  else if s.subSlots q ≤ tail || !s.subEn q then (s.winError i BAD_ARG).raise PG_INST 7 { status := BAD_ARG, d6 := i, d7 := r, inst := some i }
  else (s.setWin i (0x20 + 8 * r) (BitVec.ofNat 32 tail)).perf 0x0E 1 (some i) false

/-- DOORBELL_WRITE (R304). -/
def execDoorbellWrite (t : Time) (i r : Nat) (v : Word) (s : State) : Host.Outcome State Fault Refusal :=
  nxt t (fun s => s.doorbell i r v) s

/-- WIN_EVT_RD_WRITE (R305): slots become free. -/
def execWinEvtRdWrite (t : Time) (i : Nat) (v : Word) (s : State) : Host.Outcome State Fault Refusal :=
  nxt t (fun s =>
    if 256 ≤ i || s.mode = ENUMERATE then s else (s.setWin i 0x14 (BitVec.ofNat 32 (bits v 0 16))).ringGap i) s

/-- WIN_APERTURE_WRITE (R298). -/
def execWinApertureWrite (t : Time) (i : Nat) (v : Word) (s : State) : Host.Outcome State Fault Refusal :=
  nxt t (fun s =>
    if 256 ≤ i || s.mode = ENUMERATE then s
    else if s.ent i 2 16 15 * 2 ≤ bits v 0 15 then (s.winError i BAD_ARG).err PG_INST BAD_ARG
    else s.setWin i 0x04 (BitVec.ofNat 32 (bits v 0 15))) s

/-- Where offset `off` of aperture slice `i` lies in device DRAM (R298). -/
def State.apertureAt (s : State) (i off : Nat) : Nat := s.ent i 2 0 14 * 2097152 + (s.win i 0x04).toNat * 1048576 + off

/-- A BAR 4 access (R298).  A slice that the grant has shrunk away from reaches nothing outside the grant (R296; DEDUCED, log
entry 28). -/
def State.aperture (i off len : Nat) (wdata : Option (List Byte)) (s : State) : State :=
  let a := s.apertureAt i off
  let ag : Agent := { code := 1, inst := some i }
  let served := s.instState i = iACTIVE && a + len ≤ (s.ent i 2 0 14 + s.ent i 2 16 15) * 2097152
  if 256 ≤ i || 1048576 < off + len || s.mode = ENUMERATE then s
  else match wdata with
    | some bs => if served then s.memWrite ag a ((List.range len).map fun k => bs.getD k 0#8) else s
    | none =>
      if !served then { s with reply := List.replicate ((len + 3) / 4) 0#32 }
      else
        let code := s.memCode ag a len
        let data := if code = MEM_ERROR then [] else bytesWords ((len + 3) / 4) (s.memBytes ag a len ++ [0#8, 0#8, 0#8])
        { s.accessNote ag a len code with reply := data }

/-- APERTURE_ACCESS (R298). -/
def execApertureAccess (t : Time) (i off len : Nat) (wdata : Option (List Byte)) (s : State) : Host.Outcome State Fault Refusal :=
  nxt t (fun s => s.aperture i off len wdata) s

end Sys2Proof.Machine
end

