-- ==== Sys2Proof/Machine/InstRows.lean ====
section
/-! DEFINITION. The instance table (R300), INST_CMD (R301, R302, R312 to R318), reservations (R309, R311) and migration copies (R319,
R322). -/

namespace Sys2Proof.Machine

open Sys2Proof

/-- The code of a request to page `p` with the checks `l`: those of R75, the page's state among them (R61, R75). -/
def State.reqCode (s : State) (p : Nat) (l : List (Bool × Nat)) : Option Nat :=
  match refusal (l ++ match s.pageCode p with | some c => [(true, c)] | none => []) with
  | some c => some c
  | none => s.pageCode p

/-! Writes to the table (R300). -/

/-- The states in which a field of the table is writable. -/
inductive EntAccess where
  | never | setup | active | suspended | w1c | any
  deriving DecidableEq, Repr

/-- The fields of word `w` of an entry: lowest bit, width, where writable (R300). -/
def entFields (w : Nat) : List (Nat × Nat × EntAccess) :=
  if w = 0 then [(0, 5, .never), (8, 2, .active), (16, 8, .active)]
  else if w = 1 then [(0, 20, .setup)]
  else if w = 2 then [(0, 14, .setup), (16, 15, .setup)]
  else if w = 3 then [(0, 24, .setup)]
  else if w = 4 then [(0, 12, .setup), (16, 13, .setup)]
  else if w = 5 then [(0, 18, .active)]
  else if w = 6 then [(0, 11, .active), (16, 16, .active)]
  else if w = 7 then [(0, 8, .setup), (8, 4, .setup), (12, 4, .setup), (16, 16, .setup)]
  else if w < 12 then [(0, 14, .setup), (16, 14, .setup)]
  else if w < 36 then (if w % 3 = 0 then [(0, 3, .setup), (7, 1, .setup)] else [(0, 16, .setup), (16, 16, .setup)])
  else if w < 38 then [(0, 32, .setup)]
  else if w = 38 then [(0, 4, .setup)]
  else if w = 39 then []
  else if w < 56 then
    (if w % 4 < 2 then [(0, 32, .setup)] else if w % 4 = 2 then [(0, 4, .setup), (8, 1, .setup), (9, 1, .setup)] else [])
  else if w = 56 then [(0, 1, .suspended), (1, 1, .suspended), (8, 4, .setup), (16, 1, .w1c), (17, 1, .w1c)]
  else if w = 57 || w = 58 then [(0, 32, .setup)]
  else if w = 59 then [(0, 19, .never)]
  else if w = 60 then [(0, 19, .any)]
  else if w = 61 || w = 62 then [(0, 32, .setup)]
  else []

/-- Whether a field may be written in an instance state. -/
def EntAccess.open_ (a : EntAccess) (st : Nat) : Bool :=
  match a with
  | .never => false
  | .setup => st = iSETUP
  | .active => st = iSETUP || st = iACTIVE
  | .suspended => st = iSETUP || st = iACTIVE || st = iSUSPENDED
  | .w1c => true
  | .any => true

/-- The bits of the fields that satisfy `f`. -/
def fieldBits (fs : List (Nat × Nat × EntAccess)) (f : EntAccess → Bool) : Nat :=
  fs.foldl (fun m x => if f x.2.2 then m ||| ((2 ^ x.2.1 - 1) * 2 ^ x.1) else m) 0

/-- Whether two ranges of the given starts and lengths overlap. -/
def overlap (a m b n : Nat) : Bool := m != 0 && n != 0 && decide (a < b + n) && decide (b < a + m)

/-- Whether the dirty bitmap named by an entry lies where R316 forbids. -/
def State.dirtyBad (s : State) (i : Nat) : Bool :=
  let a := s.ent64 i 61
  let n := s.ent i 2 16 15 * 64
  n != 0 && (decide (a < s.wmDram) ||
    s.openInsts.any fun j => overlap a n (s.ent j 2 0 14 * 2097152) (s.ent j 2 16 15 * 2097152))

/-- RES_MBPS of an instance that R309 would refuse. -/
def State.resBad (s : State) (i mbps : Nat) : Bool :=
  let total := if (s.inst i).holds then s.resTotal - s.resMbps i else s.resTotal
  decide (s.capMbps - s.c0Res - total < mbps)

/-- A write that a port makes to word `w` of an entry: the refusals (R300, R301, R316). -/
def State.entryCode (s : State) (port : Port) (i w : Nat) (v : Word) : Option Nat :=
  let fs := entFields w
  let st := s.instState i
  let old := s.rd (entKey i w)
  let wrong := !fs.isEmpty && (!fs.any (fun f => f.2.2.open_ st) ||
    fs.any fun f => f.2.2 != .never && !f.2.2.open_ st && bits v f.1 f.2.1 != bits old f.1 f.2.1)
  let dirtyOn := w = 56 && bits v 1 1 = 1 && bits old 1 1 = 0 && st != iSETUP
  refusal [ (v.toNat &&& (0xFFFFFFFF ^^^ fieldBits fs fun _ => true) != 0, BAD_ARG),
    (w = 0 && st = iACTIVE && (bits v 8 2 = 0 || bits v 16 8 = 0), BAD_ARG),
    (port != .bar0 || (dirtyOn && s.dirtyBad i), NO_RIGHT), (wrong, WRONG_STATE),
    (w = 5 && st = iACTIVE && s.resBad i (bits v 0 18), NO_RESOURCE) ]

/-- The fields of word `w` that are open in the instance's state take a written value, W1C bits clear. -/
def State.entryWord (i w : Nat) (v : Word) (s : State) : State :=
  let fs := entFields w
  let st := s.instState i
  let m : Word := BitVec.ofNat 32 (fieldBits fs fun a => a != .w1c && a.open_ st)
  let c : Word := BitVec.ofNat 32 (fieldBits fs fun a => a == .w1c) &&& v
  let s := s.wr (entKey i w) (((s.rd (entKey i w) &&& ~~~m) ||| (v &&& m)) &&& ~~~c)
  if w = 5 then s.showRes.refreshFit else s

/-- The write to the table is made; LO of a 64-bit pair is held until HI is written (R56). -/
def State.entryPut (i w : Nat) (v : Word) (s : State) : State :=
  if entPairLo w then { s with loHeld := fset s.loHeld (entKey i w) v }
  else if entPairLo (w - 1) && fhas s.loHeld (entKey i (w - 1)) then
    ({ s with loHeld := fdel s.loHeld (entKey i (w - 1)) }.entryWord i (w - 1) (fget 0#32 s.loHeld (entKey i (w - 1)))).entryWord i w v
  else s.entryWord i w v

/-- A write to the instance table; a refused one is ignored and captured by the INST page. -/
def State.entryWrite (port : Port) (i w : Nat) (v : Word) (s : State) : State :=
  if !s.portServed port || 256 ≤ i || 64 ≤ w then s
  else match s.entryCode port i w v with
    | some c => s.err PG_INST c
    | none => s.entryPut i w v

/-- INST_ENTRY_WRITE (R300). -/
def execInstEntryWrite (t : Time) (p : Port) (i w : Nat) (v : Word) (s : State) : Host.Outcome State Fault Refusal :=
  nxt t (fun s => s.entryWrite p i w v) s

/-! The checks of ACTIVATE (R301). -/

/-- A rectangle beyond the area of its head's present mode (DEDUCED, log entry 169), or empty. -/
def State.rectOut (s : State) (h : Nat) (r : Rect) : Bool :=
  r.empty || decide ((s.headMode h).ha < r.x1) || decide ((s.headMode h).va < r.y1)

/-- Whether two instances hold the same plane, block, memory, SDT entries or area of a head (R301). -/
def State.clash (s : State) (i j : Nat) : Bool :=
  overlap (s.ent i 2 0 14) (s.ent i 2 16 15) (s.ent j 2 0 14) (s.ent j 2 16 15) ||
    overlap (s.ent i 4 0 12) (s.ent i 4 16 13) (s.ent j 4 0 12) (s.ent j 4 16 13) ||
    [7, 8, 9, 10, 11].any (fun w => s.rd (entKey i w) &&& s.rd (entKey j w) != 0#32) ||
    (List.range 8).any fun h => (s.windows i h).any fun a => (s.windows j h).any fun b => a.meets b

/-- A head granted to, or a block routed to, the instance that the secure world owns, or a window on a head with no plane granted. -/
def State.grantSecure (s : State) (i : Nat) : Bool :=
  (s.instHeads i).any (fun h => s.secureOwned (pgAve h) || !s.grantsHead i h) ||
    (List.range 8).any (fun g => s.ent i 7 g 1 = 1 && (s.grpOwner g).1) ||
    (List.range 4).any (fun n => (s.ent i 7 (8 + n) 1 = 1 && (s.hapOwner n).1) || (s.ent i 7 (12 + n) 1 = 1 && (s.gpioOwner n).1)) ||
    (List.range 16).any fun n => s.ent i 7 (16 + n) 1 = 1 && (s.strOwner n).1

/-- Sizes, bases, weights and ranges out of bounds (R301). -/
def State.entryBad (s : State) (i : Nat) : Bool :=
  s.ent i 0 8 2 = 0 || s.ent i 0 16 8 = 0 || 8 < s.ent i 38 0 4 || 8 < s.ent i 56 8 4 ||
    (List.range 4).any (fun r => 6 < s.ent i (42 + 4 * r) 0 4 || s.ent64 i (40 + 4 * r) % 4096 != 0) ||
    s.ent64 i 36 % 4096 != 0 || s.ent64 i 57 % 4096 != 0 || s.ent64 i 61 % 4096 != 0 ||
    (List.range 8).any (fun h => (s.windows i h).any fun r => s.rectOut h r) ||
    s.ent i 2 16 15 * 512 < s.ent i 3 0 24 || 4096 < s.ent i 4 0 12 + s.ent i 4 16 13 || 2047 < s.ent i 6 0 11

/-- The checks of R301, and R316's of the dirty bitmap. -/
def State.activateChecks (s : State) (i : Nat) : List (Bool × Nat) :=
  [ (s.entryBad i, BAD_ARG),
    ((s.ent i 2 16 15 != 0 && s.ent i 2 0 14 * 2097152 < s.wmDram) || (s.ent i 4 16 13 != 0 && s.ent i 4 0 12 < s.wmSdt) ||
      s.grantSecure i || (s.ent i 56 1 1 = 1 && s.dirtyBad i), NO_RIGHT),
    (s.openInsts.any (fun j => j != i && s.clash i j) || s.resBad i (s.resMbps i), NO_RESOURCE) ]

/-! INST_CMD (R302). -/

/-- OPEN: the entry becomes writable. -/
def State.openInst (i : Nat) (s : State) : State := (s.setInstState i iSETUP OK).setInst i fun _ => {}

/-- ACTIVATE: the reservation is held, vacated fill goes at the next vertical blank. -/
def State.activate (i : Nat) (s : State) : State :=
  (((s.setInstState i iACTIVE OK).setInst i fun x => { x with holds := true, share := s.ent i 0 16 8 }).showRes.unvacateAll i).refreshFit

/-- The DRAM grant of an instance is cleared (R392). -/
def State.clearGrant (i : Nat) (s : State) : State :=
  s.clearPages (s.ent i 2 0 14 * 512) ((s.ent i 2 0 14 + s.ent i 2 16 15) * 512)

/-- CLOSE: the entry is cleared; vacated fill stays until the head's next vertical blank. -/
def State.closeInst (i : Nat) (s : State) : State :=
  let s := (if (s.inst i).importing then s.importEnd i CANCELLED else s).clearGrant i
  let keep := (List.range 8).filter fun h => (fget [] s.vacated h).contains i && s.headSt h != hIDLE
  let s := forEach keep (fun h s => { s with closedWins := fmod [] s.closedWins h fun l => l ++ fget [] s.vacRects (256 * h + i) }) s
  let drop := fun (m : FMap NSet) => m.map fun p => (p.1, ndel p.2 i)
  let s := s.setInstState i iUNASSIGNED OK
  { s with
    vacated := drop s.vacated
    vacRects := s.vacRects.filter fun p => p.1 % 256 != i
    vacate := drop s.vacate
    unvacate := drop s.unvacate
    insts := fdel s.insts i
    regs := s.regs.filter fun p => !(entKey i 0 ≤ p.1 && p.1 < entKey i 64) }

/-- SUSPEND sets a list's wait aside with what remains of its timeout; a list at a command in progress waits on for it (R317). -/
def State.setAside (q : Nat) (s : State) : State :=
  let l := s.lr q
  match l.st, l.wait with
  | .running, _ => s.chargeRun q
  | .wait, .command _ => s
  | .wait, w => s.setLr q fun x => { x with
      st := .aside, deadline := if w.isCall then l.deadline else l.deadline.map fun d => d - s.walltime }
  | _, _ => s

/-- RESUME gives a list its wait back; what came meanwhile ends it (R302, R317, R336). -/
def State.takeBack (q : Nat) (s : State) : State :=
  let l := s.lr q
  if l.st = .running then s.setLr q fun x => { x with startAt := s.walltime }
  else if l.st != .aside then s
  else
    let s := s.setLr q fun x => { x with st := .wait, resume := none, deadline := if l.wait.isCall then l.deadline else l.deadline.map fun d => d + s.walltime }
    match l.resume with
    | some c => s.replyTo q c l.result
    | none => match l.wait with
      | .frame h target =>
        let c := s.frameCount h
        if (c + 4294967296 - target % 4294967296) % 4294967296 < 2147483648 then s.waitDone q OK (c % 4294967296) else s
      | .fence k v => if v ≤ s.fence k then s.waitDone q OK (s.fence k % 4294967296) else s
      | _ => s

/-- Whether a call of the instance awaits its reply (R336). -/
def State.awaitsReply (s : State) (i : Nat) : Bool :=
  (s.calls.any fun p => p.2.open_ && p.2.q / 4 == i) ||
    (List.range 4).any fun r => let l := s.lr (4 * i + r)
      (l.st = .wait || l.st = .aside) && l.wait.isCall && l.resume.isNone

/-- The state from which an operation is legal (R302). -/
def State.opLegal (s : State) (i op : Nat) : Bool :=
  let st := s.instState i
  match op with
  | 0 => st = iUNASSIGNED
  | 1 => st = iSETUP
  | 2 => st = iACTIVE || st = iSUSPENDED || st = iFAULTED
  | 3 => st = iSETUP
  | 4 => st = iACTIVE
  | 5 => st = iSUSPENDED
  | 6 => st = iSUSPENDED && !s.awaitsReply i && !(s.inst i).exporting
  | _ => st = iSETUP && !(s.inst i).importing

/-- What an accepted operation does. -/
def State.opGo (i op : Nat) (s : State) : State :=
  let at_ := s.g64 PG_INST R.INST_CMD_ARG_LO_ADDR R.INST_CMD_ARG_HI_ADDR
  match op with
  | 0 => s.openInst i
  | 1 => s.activate i
  | 2 => s.resetInstTo i iRESETTING OK
  | 3 => s.closeInst i
  | 4 => forNat 4 (fun r s => s.setAside (4 * i + r)) (s.setInst i fun x => { x with suspending := true })
  | 5 => forNat 4 (fun r s => s.takeBack (4 * i + r)) (s.setInstState i iACTIVE OK)
  | 6 => s.setInst i fun x => { x with exporting := true, ctxAt := at_ }
  | _ => s.setInst i fun x => { x with importing := true, ctxAt := at_ }

/-- INST_CMD.GO. -/
def instCmdAct : Act where
  code s :=
    let i := s.gf PG_INST R.INST_CMD_INSTANCE
    let op := s.gf PG_INST R.INST_CMD_OP
    let at_ := s.g64 PG_INST R.INST_CMD_ARG_LO_ADDR R.INST_CMD_ARG_HI_ADDR
    s.reqCode PG_INST ([ (7 < op || ((op = 6 || op = 7) && at_ % 4096 != 0), BAD_ARG), (!s.opLegal i op, WRONG_STATE) ] ++
      if op = 1 && s.opLegal i op then s.activateChecks i else [])
  refused c s := (s.sf PG_INST R.INST_CMD_STATUS_RESULT c).err PG_INST c
  go s := (s.sf PG_INST R.INST_CMD_STATUS_RESULT OK).opGo (s.gf PG_INST R.INST_CMD_INSTANCE) (s.gf PG_INST R.INST_CMD_OP)

/-- A write of INST_CMD that names an instance and an operation, with GO. -/
def State.instCmd (p : Port) (i op : Nat) (s : State) : State :=
  s.guarded p PG_INST 0x40 fun s => instCmdAct.run (s.plainWrite (portSecure p) PG_INST 0x40 (BitVec.ofNat 32 (i % 256 + op * 256)))

def execInstOpen (t : Time) (p : Port) (i : Nat) (s : State) : Host.Outcome State Fault Refusal := nxt t (fun s => s.instCmd p i 0) s
def execInstActivate (t : Time) (p : Port) (i : Nat) (s : State) : Host.Outcome State Fault Refusal := nxt t (fun s => s.instCmd p i 1) s
def execInstReset (t : Time) (p : Port) (i : Nat) (s : State) : Host.Outcome State Fault Refusal := nxt t (fun s => s.instCmd p i 2) s
def execInstClose (t : Time) (p : Port) (i : Nat) (s : State) : Host.Outcome State Fault Refusal := nxt t (fun s => s.instCmd p i 3) s
def execInstSuspend (t : Time) (p : Port) (i : Nat) (s : State) : Host.Outcome State Fault Refusal := nxt t (fun s => s.instCmd p i 4) s
def execInstResume (t : Time) (p : Port) (i : Nat) (s : State) : Host.Outcome State Fault Refusal := nxt t (fun s => s.instCmd p i 5) s
def execInstExport (t : Time) (p : Port) (i : Nat) (s : State) : Host.Outcome State Fault Refusal := nxt t (fun s => s.instCmd p i 6) s
def execInstImport (t : Time) (p : Port) (i : Nat) (s : State) : Host.Outcome State Fault Refusal := nxt t (fun s => s.instCmd p i 7) s

/-! The ends of the longer operations. -/

/-- Whether no work of a resetting instance remains (R313): entries FREE, no command, no window still to be vacated, no write that
waits. -/
def State.resetOver (s : State) (i : Nat) : Bool :=
  let base := s.ent i 4 0 12
  let n := s.ent i 4 16 13
  !s.sdt.any (fun p => p.2.state != sFREE && ((base ≤ p.1 && p.1 < base + n) || (!p.2.secure && p.2.inst == i))) &&
    !s.cmds.any (fun p => qInst p.2.q == some i) && !s.vacate.any (fun p => p.2.contains i) &&
    !s.wwait.any fun w => w.by_.inst == some i

/-- RESETTING ends (R313, R392). -/
def State.instResetDone (i : Nat) (s : State) : State :=
  if s.instState i != iRESETTING || !s.resetOver i then s
  else
    let us := (s.walltime - (s.inst i).resetAt) / 1000
    -- records held for want of a link are never written under the PASID again (R295, R313)
    let s := forEach (s.inst i).heldRecs (fun r s => s.evtLost i (pair64 (nthW r 2) (nthW r 3))) s
    let s := ((s.clearGrant i).setInstState i iSETUP OK).setInst i fun x => { lostAt := x.lostAt }
    s.raise PG_INST 0 { d6 := i, d7 := us, inst := some i }

/-- INST_RESET_DONE (R313). -/
def execInstResetDone (t : Time) (i : Nat) (s : State) : Host.Outcome State Fault Refusal := nxt t (fun s => s.instResetDone i) s

/-- SUSPENDED is entered when every command in progress has completed; held and staged settings stay (R317, R318). -/
def State.suspendDone (i : Nat) (s : State) : State :=
  if s.instState i != iACTIVE || !(s.inst i).suspending ||
      s.cmds.any (fun p => qInst p.2.q == some i && p.2.phase != 1 && p.2.phase != 3) then s
  else
    let s := (s.setInstState i iSUSPENDED OK).setInst i fun x => { x with suspending := false }
    s.raise PG_INST 2 { d6 := i, inst := some i }

/-- SUSPEND_DONE (R317). -/
def execSuspendDone (t : Time) (i : Nat) (s : State) : Host.Outcome State Fault Refusal := nxt t (fun s => s.suspendDone i) s

/-- Length of an instance's context (R318). -/
def State.ctxLen (s : State) (i : Nat) : Nat := 16384 + 64 * s.ent i 4 16 13

/-- The settings of a plane as a context gives them: operand words 1 to 7 of SET_PLANE (R106, R318). -/
def ctxCfg (c : PlaneCfg) : CtxCfg :=
  let w0 := (if c.enable then 65536 else 0) + (if c.static then 131072 else 0) + c.alpha % 4 * 262144 + (if c.keyEn then 1048576 else 0) +
    c.z % 16 * 16777216
  { words := [w0, cornerWord c.dst.x0 c.dst.y0, cornerWord c.dst.x1 c.dst.y1, cornerWord c.src.x0 c.src.y0, cornerWord c.src.x1 c.src.y1,
      c.galpha % 256 + c.csc % 4 * 256, c.key].map (BitVec.ofNat 32), surf := c.surf }

/-- A wait set aside on a ring of an instance, as a context gives it. -/
def State.ctxWait (s : State) (i r : Nat) : Option CtxWait :=
  let l := s.lr (4 * i + r)
  if l.st != .aside then none
  else some { ring := r, tag := l.tag, words := l.words, idx := l.idx, remaining := l.deadline
              target := match l.wait with | .frame _ n => n | .time n => n | _ => 0 }

/-- A plane of an instance, as a context gives it. -/
def State.ctxPlane (s : State) (h p : Nat) : CtxPlane :=
  let x := s.plane h p
  { head := h, plane := p, act := ctxCfg x.act, com := ctxCfg x.com, held := x.held.map fun f => (ctxCfg f.cfg, f.ct)
    ct := if x.hasCt then some x.ct else none }

/-- What the context of an instance holds (R318). -/
def State.context (s : State) (i : Nat) : Context :=
  { entry := (List.range 64).map fun w => s.rd (entKey i w)
    rings := (List.range 4).map fun r => ((s.win i (0x20 + 8 * r)).toNat, (s.win i (0x24 + 8 * r)).toNat)
    evt := ((s.win i 0x10).toNat, (s.win i 0x14).toNat)
    fences := (List.range 32).map fun k => fget 0 s.fences (32 * i + k)
    waits := (List.range 4).filterMap (s.ctxWait i)
    planes := (List.range 8).flatMap fun h => ((List.range 16).filter fun p => s.granted i h p).map (s.ctxPlane h)
    sdt := (List.range (s.ent i 4 16 13)).map fun k => (List.range 16).map fun w => BitVec.ofNat 32 (s.sdtWord (s.ent i 4 0 12 + k) w) }

/-! A context written out as numbers, each list after its length. -/
def listCode {α : Type} (f : α → List Nat) (l : List α) : List Nat := l.length :: l.flatMap f
def optCode (x : Option Nat) : List Nat := match x with | some n => [1, n] | none => [0]
def cfgCode (c : CtxCfg) : List Nat := c.words.map (·.toNat) ++ optCode c.surf
def planeCode (c : CtxPlane) : List Nat :=
  [c.head, c.plane] ++ cfgCode c.act ++ cfgCode c.com ++ listCode (fun (f : CtxCfg × Nat) => cfgCode f.1 ++ [f.2]) c.held ++ optCode c.ct
def waitCode (c : CtxWait) : List Nat :=
  [c.ring, c.tag, c.idx, c.target] ++ listCode (fun w => [w.toNat]) c.words ++ optCode c.remaining
def contextCode (c : Context) : List Nat :=
  c.entry.map (·.toNat) ++ c.rings.flatMap (fun r => [r.1, r.2]) ++ [c.evt.1, c.evt.2] ++ c.fences ++ listCode waitCode c.waits ++
    listCode planeCode c.planes ++ listCode (fun e => e.map (·.toNat)) c.sdt

/-- The bytes of an exported context (R318): the first word, the length, what it holds in a layout that the manual does not give
(`Config.ctxByte`), and the CRC over the rest. -/
def State.ctxBytes (s : State) (i : Nat) : List Byte :=
  let n := s.ctxLen i
  let code := contextCode (s.context i)
  let body := leBytes 4 0xB0 ++ leBytes 4 n ++ (List.range (n - 12)).map (Config.ctxByte code)
  body ++ leBytes 4 (crc32 body)

/-- EXPORT ends: the context is in the manager's memory, or cannot be issued (R293, R318). -/
def State.exportDone (i : Nat) (s : State) : State :=
  if !(s.inst i).exporting then s
  else if !s.linkUp then s.exportEnd i LINK_ERROR 0
  else if !s.busMaster then (s.dmaHostError (some i) (s.inst i).ctxAt NO_RIGHT).exportEnd i NO_RIGHT 0
  else
    (s.hostPut none (s.inst i).ctxAt (s.ctxBytes i)).exportEnd i OK (s.ctxLen i)

/-- EXPORT_DONE (R318). -/
def execExportDone (t : Time) (i : Nat) (s : State) : Host.Outcome State Fault Refusal := nxt t (fun s => s.exportDone i) s

/-! IMPORT (R318). -/

/-- Whether a context fails: its first word, length or CRC (R211), or a grant that differs from the entry. -/
def State.ctxBad (s : State) (i : Nat) (bs : List Byte) (c : Context) : Bool :=
  let n := 16384 + 64 * bits (nthW c.entry 4) 16 13
  ofLe (bs.take 4) != 0xB0 || ofLe ((bs.drop 4).take 4) != n || bs.length != n || ofLe (bs.drop (n - 4)) != crc32 (bs.take (n - 4)) ||
    ([2, 4] ++ (List.range 28).map (· + 8)).any fun w => nthW c.entry w != s.rd (entKey i w)

/-- An SDT entry from its words (R83), for the importing instance. -/
def sdtOf (i : Nat) (ws : List Word) : Sdt :=
  if bits (nthW ws 2) 8 2 = sFREE then { gen := bits (nthW ws 5) 0 16 }
  else
    { base := pair64 (nthW ws 0) (nthW ws 1), format := bits (nthW ws 2) 0 8, state := bits (nthW ws 2) 8 2, inst := i
      width := bits (nthW ws 3) 0 16, height := bits (nthW ws 3) 16 16, stride := bits (nthW ws 4) 0 24
      gen := bits (nthW ws 5) 0 16, ct := pair64 (nthW ws 6) (nthW ws 7), seq := (nthW ws 8).toNat }

/-- What the waiting command of a set-aside wait waits for (R112, R118, R119). -/
def ctxWaitFor (q : Nat) (c : CtxWait) : WaitFor :=
  let w (k : Nat) := nthW c.words (c.idx + k)
  let op := hOp (w 0)
  if op = 0x30 then .frame (bits (w 1) 0 3) c.target
  else if op = 0x31 then .time c.target
  else if op = 0x34 then .fence (fenceKey q (bits (w 1) 0 5)) (pair64 (w 2) (w 3))
  else if op = 0x70 then .gatehouse (bits (w 1) 0 16)
  else .nothing

/-- A set-aside wait joins its ring, on the lowest Conductor that takes lists. -/
def State.importWait (i : Nat) (c : CtxWait) (s : State) : State :=
  let q := 4 * i + c.ring % 4
  let n := s.nextList
  let cnd := ((List.range 9).find? fun k => s.cndTakes k).getD 0
  { s with nextList := n + 1 }.setLr q fun _ =>
    { st := .aside, serial := n, cnd, startAt := s.walltime, words := c.words, tag := c.tag, idx := c.idx
      pc := c.idx + hLen (nthW c.words c.idx), wait := ctxWaitFor q c, deadline := c.remaining }

/-- A plane of the context: a commit for the head's next vertical blank, at once on a head in IDLE; and its held flips. -/
def State.importPlane (i : Nat) (c : CtxPlane) (s : State) : State :=
  let cfg := cfgOf c.com.words c.com.surf
  let held := c.held.map fun (x : CtxCfg × Nat) => ({ owner := i, cfg := cfgOf x.1.words x.1.surf, ct := x.2 } : Held)
  if !s.granted i c.head c.plane then s
  else if s.headSt c.head = hIDLE then
    s.setPlane c.head c.plane fun x => { x with
      act := cfg, com := cfg, stg := none, queue := [], held, ct := c.ct.getD 0, hasCt := c.ct.isSome
      changed := s.frameCount c.head + 1 }
  else (s.commitPlane c.head c.plane cfg c.ct.isSome (c.ct.getD 0)).setPlane c.head c.plane fun x => { x with held }

/-- What a context holds comes into the instance, which keeps its own entry (DEDUCED, log entry 169). -/
def State.importAll (i : Nat) (c : Context) (s : State) : State :=
  let base := s.ent i 4 0 12
  let s := forNat 4 (fun r s =>
    let x := c.rings.getD r (0, 0)
    (s.setWin i (0x20 + 8 * r) (BitVec.ofNat 32 (x.1 % 16384))).setWin i (0x24 + 8 * r) (BitVec.ofNat 32 (x.2 % 16384))) s
  let s := (s.setWin i 0x10 (BitVec.ofNat 32 (c.evt.1 % 65536))).setWin i 0x14 (BitVec.ofNat 32 (c.evt.2 % 65536))
  let s := { s with fences := (c.fences.take 32).zipIdx.foldl (fun m x => fset m (32 * i + x.2) x.1) s.fences }
  let s := forEach ((c.sdt.take (s.ent i 4 16 13)).zipIdx) (fun (x : List Word × Nat) s => s.setSurf (base + x.2) fun _ => sdtOf i x.1) s
  forEach c.waits (fun w s => s.importWait i w) (forEach c.planes (fun p s => s.importPlane i p) s)

/-- IMPORT ends: its checks, those of R301, and entry to SUSPENDED with the reservation held (R302, R309, R318). -/
def State.importDone (i : Nat) (bs : List Byte) (c : Context) (s : State) : State :=
  if !(s.inst i).importing then s
  else if !s.linkUp then s.importEnd i LINK_ERROR
  else if !s.busMaster then (s.dmaHostError (some i) (s.inst i).ctxAt NO_RIGHT).importEnd i NO_RIGHT
  else match refusal ([(s.ctxBad i bs c, BAD_ARG), (s.instState i != iSETUP, WRONG_STATE)] ++ s.activateChecks i) with
    | some code => (s.hostGet none (s.inst i).ctxAt (s.ctxLen i)).importEnd i code
    | none =>
      let s := s.hostGet none (s.inst i).ctxAt (s.ctxLen i)
      let s := ((s.importAll i c).setInstState i iSUSPENDED OK).setInst i fun x => { x with holds := true }
      s.showRes.refreshFit.importEnd i OK

/-- IMPORT_DONE (R292, R318): the bytes read, and what they hold. -/
def execImportDone (t : Time) (i : Nat) (image : CtxImage) (s : State) : Host.Outcome State Fault Refusal :=
  nxt t (fun s => s.importDone i image.bytes image.ctx) s

/-! Reservations (R309, R311). -/

/-- Withdrawn reservations covered for 1 s are restored: C1 first, within a class ascending; one that does not fit is skipped (R311). -/
def State.restoreDue (s : State) : State :=
  (forEach ([1, 2, 3].flatMap fun c => s.ofClass c) (fun i s =>
    match (s.inst i).fitSince with
    | some since => if s.shed i && since + 1000000000 ≤ s.walltime && s.resMbps i ≤ s.freeCap then s.restore i else s
    | none => s) s).refreshFit

/-- RES_RESTORE_TIMER (R311). -/
def execResRestoreTimer (t : Time) (s : State) : Host.Outcome State Fault Refusal := nxt t (fun s => s.restoreDue) s

/-- A write of INST_C0_RES: above INST_CAPACITY − INST_RES_TOTAL it is ignored (R309). -/
def c0ResAct (v : Word) : Act where
  code s := refusal [(decide (s.capMbps - s.resTotal < bits v 0 18), NO_RESOURCE)]
  refused c s := s.err PG_INST c
  go s := (s.sf PG_INST R.INST_C0_RES_MBPS (bits v 0 18)).refreshFit

/-- INST_C0_RES_WRITE (R309). -/
def execInstC0ResWrite (t : Time) (p : Port) (v : Word) (s : State) : Host.Outcome State Fault Refusal :=
  nxt t (fun s => s.guarded p PG_INST 0x58 fun s => (c0ResAct v).run s) s

/-! Migration copies (R319, R322). -/

/-- MIG_CMD.GO. -/
def migAct : Act where
  code s :=
    let i := s.gf PG_DMA R.MIG_CMD_INSTANCE
    let mode := s.gf PG_DMA R.MIG_CMD_MODE
    let a := s.g64 PG_DMA R.MIG_DRAM_LO_ADDR R.MIG_DRAM_HI_ADDR
    let n := s.gf PG_DMA R.MIG_LEN_BYTES
    let st := s.instState i
    let grant := s.ent i 2 0 14 * 2097152 ≤ a && a + n ≤ (s.ent i 2 0 14 + s.ent i 2 16 15) * 2097152
    s.reqCode PG_DMA [
      (mode = 3 || s.g64 PG_DMA R.MIG_HOST_LO_ADDR R.MIG_HOST_HI_ADDR % 4096 != 0 ||
        (mode != 2 && (a % 4096 != 0 || n % 4096 != 0 || decide (1073741824 < n))), BAD_ARG),
      (mode != 2 && !grant, NO_RIGHT), (s.tf PG_DMA R.MIG_STATUS_BUSY || st = iUNASSIGNED || st = iRESETTING, WRONG_STATE) ]
  refused c s := (s.sf PG_DMA R.MIG_STATUS_RESULT c).err PG_DMA c
  go s :=
    let i := s.gf PG_DMA R.MIG_CMD_INSTANCE
    let mode := s.gf PG_DMA R.MIG_CMD_MODE
    { s.sf PG_DMA R.MIG_STATUS_BUSY 1 with
      mig := {
        mode, inst := i, host := s.g64 PG_DMA R.MIG_HOST_LO_ADDR R.MIG_HOST_HI_ADDR
        dram := if mode = 2 then s.ent64 i 61 else s.g64 PG_DMA R.MIG_DRAM_LO_ADDR R.MIG_DRAM_HI_ADDR
        len := if mode = 2 then s.ent i 2 16 15 * 64 else s.gf PG_DMA R.MIG_LEN_BYTES } }

/-- A write of MIG_CMD that names a mode and an instance, with GO. -/
def State.migCmd (p : Port) (mode i : Nat) (s : State) : State :=
  s.guarded p PG_DMA 0x64 fun s => migAct.run (s.plainWrite (portSecure p) PG_DMA 0x64 (BitVec.ofNat 32 (mode + i % 256 * 256)))

def execMigDramToHost (t : Time) (p : Port) (i : Nat) (s : State) : Host.Outcome State Fault Refusal := nxt t (fun s => s.migCmd p 0 i) s
def execMigHostToDram (t : Time) (p : Port) (i : Nat) (s : State) : Host.Outcome State Fault Refusal := nxt t (fun s => s.migCmd p 1 i) s
def execMigSnapshot (t : Time) (p : Port) (i : Nat) (s : State) : Host.Outcome State Fault Refusal := nxt t (fun s => s.migCmd p 2 i) s

/-- A migration copy ends once every byte has moved and none of its writes waits; a copy that can move no more ends with its failure (R293,
R295, R319, R322). -/
def State.migDone (s : State) : State :=
  let m := s.mig
  if !s.tf PG_DMA R.MIG_STATUS_BUSY then s
  else if m.moved < m.len then
    if !s.linkUp then s.migEnd LINK_ERROR
    else if !s.busMaster then (s.dmaHostError (some m.inst) (m.host + m.moved) NO_RIGHT).migEnd NO_RIGHT
    else s
  else if s.wwait.any fun w => w.by_.mig then s else s.migEnd OK

/-- MIG_DONE (R322): its last chunk may come with the end, by its channel and with the bytes read. -/
def execMigDone (t : Time) (last : Option (Nat × List Byte)) (s : State) : Host.Outcome State Fault Refusal :=
  nxt t (fun s => (last.elim s fun x => s.migChunk x.1 x.2).migDone) s

end Sys2Proof.Machine
end

