-- ==== Sys2Proof/Machine/ConsoleRows.lean ====
section
/-! DEFINITION. The console: scan cycles (R408, R411), haptic triggers and phases (R433 to R437), ports, cues and alarm generators
(R439 to R444). -/

namespace Sys2Proof.Machine

open Sys2Proof

/-! The capacitive front end. -/

/-- Period of a scan rate code, in ns (R411). -/
def scanPeriod (r : Nat) : Nat := [4166666, 16666666, 66666666, 250000000].getD r 4166666

/-- A scan cycle starts at its period, and a pending commit of the TCH page applies (R411, R428). -/
def State.cycleStart (s : State) : State :=
  if !s.scanOn || !s.tf PG_TCH R.TCH_STATUS_SCANNING || s.tch.inCycle then s
  else if s.tch.n != 0 && s.walltime < s.tch.startAt + scanPeriod (s.gf PG_TCH R.TCH_STATUS_RATE) then s
  else
    let s := if s.gf PG_TCH R.COMMIT_STATUS_STATE = 2 then s.commitPoint PG_TCH 0 else s
    { s with tch := { s.tch with inCycle := s.tf PG_TCH R.TCH_STATUS_SCANNING, startAt := s.walltime } }

/-- SCAN_CYCLE_START (R411). -/
def execScanCycleStart (t : Time) (s : State) : Host.Outcome State Fault Refusal := nxt t (fun s => s.cycleStart) s

/-- SCAN_CYCLE_END (R408): the raw counts of the cycle. -/
def execScanCycleEnd (t : Time) (selfs : List Nat) (muts : List (Nat × Nat)) (noise : Nat) (s : State) :
    Host.Outcome State Fault Refusal :=
  nxt t (fun s => if s.scanOn && s.tch.inCycle then s.cycleEnd selfs muts noise else s) s

/-- Idle time before each step down of the rate (R411). -/
def idleStep (r : Nat) : Option Nat := [1000000000, 10000000000, 60000000000][r]?

/-- Idle time passes a step (R411). -/
def State.idleStepDown (s : State) : State :=
  let r := s.gf PG_TCH R.TCH_STATUS_RATE
  match s.tch.idle, idleStep r with
  | some since, some ns =>
    if s.scanOn && s.tf PG_TCH R.TCH_CTRL_IDLE_EN && since + ns ≤ s.walltime then s.rateTo (r + 1) else s
  | _, _ => s

/-- IDLE_RATE_STEP (R411). -/
def execIdleRateStep (t : Time) (s : State) : Host.Outcome State Fault Refusal := nxt t (fun s => s.idleStepDown) s

/-! Haptic channels. -/

/-- Whether a self-test runs on channel `n` (R459). -/
def State.hapTested (s : State) (n : Nat) : Bool := s.bistRun.any fun x => x.1 == PG_HAP && x.2.1 == n
/-- Whether triggers act: RUN or SERVICE (R33, R446), the page in RUN, the die-to-die link up (R19). -/
def State.hapLive (s : State) : Bool := s.running && s.pstate PG_HAP = pRUN && s.d2dDownAt.isNone

/-- An edge on HAP_TRIG[n] (R433); a refused one is ignored (R435). -/
def State.hapEdge (n : Nat) (rising : Bool) (s : State) : State :=
  let edge := s.gf PG_HAP (R.HAP_CH_CTRL_TRIG_EDGE n)
  let slot := s.gf PG_HAP (R.HAP_CH_CTRL_TRIG_SLOT n)
  if 4 ≤ n || !s.hapLive || s.hapTested n || !s.tf PG_HAP (R.HAP_CH_CTRL_TRIG_EN n) || slot / 8 != n ||
      (edge = 0 && !rising) || (edge = 1 && rising) then s
  else s.trigger n slot none fun _ s => s

/-- HAP_TRIG_EDGE (R433). -/
def execHapTrigEdge (t : Time) (ch : Nat) (rising : Bool) (s : State) : Host.Outcome State Fault Refusal :=
  nxt t (fun s => s.hapEdge ch rising) s

/-- Why PLAY is refused before R435 is asked (R61, R437, R459). -/
def State.playCode (s : State) (n : Nat) : Option Nat :=
  s.reqCode PG_HAP
    [ (s.gf PG_HAP (R.HAP_CH_CTRL_PLAY_SLOT n) / 8 != n, BAD_ARG), (s.hapTested n, IN_SERVICE), (!s.running, WRONG_STATE) ]

/-- PLAY (R433, R435, R437): a trigger refused under R435 is counted and captured. -/
def hapPlayAct (n : Nat) : Act where
  code s := match s.playCode n with
    | some c => some c
    | none => if s.hapSt n = cBRAKE then none else s.trigCode n
  refused c s := (if (s.playCode n).isSome then s else s.trigRefused n).err PG_HAP c
  go s := s.trigTake n (s.gf PG_HAP (R.HAP_CH_CTRL_PLAY_SLOT n)) none

/-- STOP and CLEAR (R433, R434). -/
def hapStopAct (n : Nat) : Act where
  go s := s.hapStopReg n
def hapClearAct (n : Nat) : Act where
  go s := if s.hapSt n = cFAULTED then (s.hapTo n cIDLE).sf PG_HAP (R.HAP_CH_STATUS_FAULT n) 0 else s

/-- HAP_PLAY (R433): a write of HAP_CH_CTRL with PLAY at 1. -/
def execHapPlay (t : Time) (p : Port) (ch : Nat) (v : Word) (s : State) : Host.Outcome State Fault Refusal :=
  nxt t (fun s => if 4 ≤ ch then s else s.guardedW p PG_HAP (0x8C + 0x20 * ch) (v ||| 0x10000#32) fun s =>
    (hapPlayAct ch).run (s.plainWrite (portSecure p) PG_HAP (0x8C + 0x20 * ch) v)) s
/-- HAP_STOP (R434). -/
def execHapStop (t : Time) (p : Port) (ch : Nat) (s : State) : Host.Outcome State Fault Refusal :=
  nxt t (fun s => if 4 ≤ ch then s else s.guardedW p PG_HAP (0x8C + 0x20 * ch) (s.rd (regKey PG_HAP (0x8C + 0x20 * ch)) ||| 0x20000#32)
    (hapStopAct ch).run) s
/-- HAP_CLEAR (R433). -/
def execHapClear (t : Time) (p : Port) (ch : Nat) (s : State) : Host.Outcome State Fault Refusal :=
  nxt t (fun s => if 4 ≤ ch then s else s.guardedW p PG_HAP (0x8C + 0x20 * ch) (s.rd (regKey PG_HAP (0x8C + 0x20 * ch)) ||| 0x40000#32)
    (hapClearAct ch).run) s

/-- HAP_PHASE_END (R433): the running phase's time has passed. -/
def execHapPhaseEnd (t : Time) (ch : Nat) (s : State) : Host.Outcome State Fault Refusal :=
  nxt t (fun s =>
    if ch < 4 && (s.hap ch).phaseAt + s.phaseMs (s.hapSlot ch) (s.hapSt ch) * 1000000 ≤ s.walltime then s.phaseEnd ch else s) s

/-- A timed start falls due (R433, R437). -/
def State.timedStart (n : Nat) (s : State) : State :=
  match (s.hap n).timed with
  | none => s
  | some q =>
    if s.localTime (islandOf PG_HAP) < q.start || !s.hapLive then s
    else
      let s := (s.setHap n fun x => { x with timed := none }).sf PG_HAP (R.HAP_CH_STATUS_TIMED n) 0
      s.trigger n q.slot q.cmd fun c s => s.hapCmd q.cmd c

/-- HAP_TIMED_START (R437). -/
def execHapTimedStart (t : Time) (ch : Nat) (s : State) : Host.Outcome State Fault Refusal := nxt t (fun s => s.timedStart ch) s

/-- HAP_DUTY_REACHED (R435). -/
def execHapDutyReached (t : Time) (ch : Nat) (s : State) : Host.Outcome State Fault Refusal :=
  nxt t (fun s =>
    if ch < 4 && (s.hapSt ch = cKICK || s.hapSt ch = cSUSTAIN) && s.dutyOver ch then
      (s.blkRaise PG_HAP 1 (s.hapOwner ch) { d6 := ch, d7 := s.dutyNow ch }).toBrake ch
    else s) s

/-- Whether the bridges are powered: the page is neither OFF nor initialising. -/
def State.hapOn (s : State) (n : Nat) : Bool := n < 4 && s.pstate PG_HAP != pOFF && s.pstate PG_HAP != pINIT

/-- HAP_SHORT_DETECT (R436). -/
def execHapShortDetect (t : Time) (ch : Nat) (s : State) : Host.Outcome State Fault Refusal :=
  nxt t (fun s => if s.hapOn ch then s.hapFault ch 2 else s) s
/-- HAP_OPEN_DETECT (R436): after 1 ms of continuous drive at 1,000 mV or more. -/
def execHapOpenDetect (t : Time) (ch : Nat) (s : State) : Host.Outcome State Fault Refusal :=
  nxt t (fun s => if s.hapOn ch && (s.hap ch).full.any (fun a => a + 1000000 ≤ s.walltime) then s.hapFault ch 1 else s) s
/-- BACK_EMF_SAMPLE (R436). -/
def execBackEmfSample (t : Time) (ch : Nat) (mv : Int) (s : State) : Host.Outcome State Fault Refusal :=
  nxt t (fun s => if s.hapOn ch then s.backEmf ch mv else s) s
/-- VDD_HAP_MEASURE (R435). -/
def execVddHapMeasure (t : Time) (mv : Nat) (s : State) : Host.Outcome State Fault Refusal :=
  nxt t (fun s => if s.pstate PG_HAP = pOFF then s else s.vddHap mv) s

/-! Audio. -/

/-- TDM_CLOCK_LOCK (R439). -/
def execTdmClockLock (t : Time) (port : Nat) (s : State) : Host.Outcome State Fault Refusal :=
  nxt t (fun s => if port < 2 && s.tf PG_AUD (R.AUD_PORT_CFG_TARGET port) then s.clockLock port else s) s
/-- TDM_NO_CLOCK (R439). -/
def execTdmNoClock (t : Time) (port : Nat) (s : State) : Host.Outcome State Fault Refusal :=
  nxt t (fun s => if port < 2 then s.clockLost port else s) s
/-- CUE_START (R441): a frame at which a cue falls due, or a STOP takes effect. -/
def execCueStart (t : Time) (str : Nat) (s : State) : Host.Outcome State Fault Refusal :=
  nxt t (fun s => if str < 16 then s.cueFrame str else s) s
/-- CUE_END (R441): cues make progress only on a port in RUN. -/
def execCueEnd (t : Time) (str : Nat) (s : State) : Host.Outcome State Fault Refusal :=
  nxt t (fun s => if str < 16 && s.tdmSt (s.strPort str) = tRUN then s.cueEnds str else s) s
/-- CUE_DATA_READ_DONE (R440, R441). -/
def execCueDataReadDone (t : Time) (str zeroed : Nat) (err : Bool) (s : State) : Host.Outcome State Fault Refusal :=
  nxt t (fun s => if str < 16 then s.cueData str zeroed err else s) s

/-- AUD_STR_CTRL.STOP. -/
def strStopAct (n : Nat) : Act where
  go s := s.strStop n
/-- AUD_STR_STOP (R441). -/
def execAudStrStop (t : Time) (p : Port) (str : Nat) (s : State) : Host.Outcome State Fault Refusal :=
  nxt t (fun s => if 16 ≤ str then s else s.guardedW p PG_AUD (0x104 + 0x10 * str) 1#32 (strStopAct str).run) s

/-- ALARM_PATTERN_STEP (R444): the present on-time or off-time has passed. -/
def execAlarmPatternStep (t : Time) (g : Nat) (s : State) : Host.Outcome State Fault Refusal :=
  nxt t (fun s =>
    let a := s.alarm g
    let ms := s.gf PG_AUD (if a.on then R.ALM_PATTERN_ON_MS g else R.ALM_PATTERN_OFF_MS g)
    if a.at_ + ms * 1000000 ≤ s.walltime then s.alarmStep g else s) s
/-- GENERATOR_START (R444). -/
def execGeneratorStart (t : Time) (g : Nat) (s : State) : Host.Outcome State Fault Refusal :=
  nxt t (fun s => if g < 4 then s.alarmStart g else s) s
/-- DUCK_HOLD_EXPIRE (R443). -/
def execDuckHoldExpire (t : Time) (str : Nat) (s : State) : Host.Outcome State Fault Refusal :=
  nxt t (fun s =>
    match (s.strm str).duckHold with
    | some d => if str < 16 && d ≤ s.walltime then s.duckTo str 0 else s
    | none => s) s

end Sys2Proof.Machine
end

