-- ==== Sys2Proof/Machine/Display.lean ====
section
/-! DEFINITION. DisplayPort outputs (chapter 08): HPD, capability reads, training, AUX transactions, electrical faults and the
panel sequence. -/

namespace Sys2Proof.Machine

open Sys2Proof

/-! HPD (R278 to R280). -/

/-- Whether HPD is monitored: not in OFF, and in eDP mode only while VDD_EN is high (R278, R279). -/
def State.hpdWatched (s : State) (h : Nat) : Bool :=
  h < 8 && s.linkSt h != lOFF && (!s.tf (pgDpl h) R.DPL_CTRL_EDP || s.vddEn h)

/-- HPD has been high for 100 ms (R268, R280). -/
def State.hpdPlug (h terms : Nat) (s : State) : State :=
  if !s.hpdWatched h then s
  else
    let s := (s.sf (pgDpl h) R.DPL_STATUS_HPD 1).setDp h fun x => { x with hpdLow := false, stuckSince := none }
    let s := if s.gf (pgDpl h) R.DPL_STATUS_HPD_STUCK = 1 then s.sf (pgDpl h) R.DPL_STATUS_HPD_STUCK 0 else s
    if s.linkSt h = lNO_SINK then (s.setDp h fun x => { x with terms }).plug h else s

/-- HPD_PLUG (R268). -/
def execHpdPlug (t : Time) (h terms : Nat) (s : State) : Host.Outcome State Fault Refusal := nxt t (fun s => s.hpdPlug h terms) s

/-- A low pulse of 0.25 to 2 ms (R278). -/
def State.hpdIrq (h : Nat) (d : List Byte) (s : State) : State :=
  let st := s.linkSt h
  if !s.hpdWatched h || st = lNO_SINK then s
  else if st = lREAD_CAPS || st = lTRAINING then s.setDp h fun x => { x with irq := some d }
  else s.irqActs h d

/-- HPD_IRQ (R278). -/
def execHpdIrq (t : Time) (h : Nat) (dpcd : List Byte) (s : State) : Host.Outcome State Fault Refusal :=
  nxt t (fun s => s.hpdIrq h dpcd) s

/-- HPD has been low for more than 2 ms (R278, R280). -/
def State.hpdGone (h : Nat) (s : State) : State :=
  if !s.hpdWatched h then s
  else
    let s := (s.sf (pgDpl h) R.DPL_STATUS_HPD 0).setDp h fun x => { x with hpdLow := true, capsFails := 0 }
    let s := if s.gf (pgDpl h) R.DPL_STATUS_HPD_STUCK = 2 then s.sf (pgDpl h) R.DPL_STATUS_HPD_STUCK 0 else s
    if s.tf (pgDpl h) R.DPL_CTRL_HPD_FORCE then s else s.unplug h

/-- HPD_UNPLUG (R278). -/
def execHpdUnplug (t : Time) (h : Nat) (s : State) : Host.Outcome State Fault Refusal := nxt t (fun s => s.hpdGone h) s

/-- Terminations are sensed, for the next training start (R282); in NO_SINK HPD is stuck low when lanes 0 and 1 have sensed it for 1 s
(R280). -/
def State.termSense (h terms : Nat) (s : State) : State :=
  if 8 ≤ h || s.linkSt h = lOFF then s
  else
    let s := s.setDp h fun x => { x with terms }
    if !s.hpdWatched h || s.linkSt h != lNO_SINK then s
    else if !(bit terms (s.physLane h 0) && bit terms (s.physLane h 1)) || s.tf (pgDpl h) R.DPL_STATUS_HPD then
      s.setDp h fun x => { x with stuckSince := none }
    else
      let since := (s.dp h).stuckSince.getD s.walltime
      let s := s.setDp h fun x => { x with stuckSince := some since }
      if since + 1000000000 ≤ s.walltime && s.gf (pgDpl h) R.DPL_STATUS_HPD_STUCK != 1 then
        (s.sf (pgDpl h) R.DPL_STATUS_HPD_STUCK 1).dplRaise h 11 { d6 := 1 }
      else s

/-- TERMINATION_SENSE (R280, R282). -/
def execTerminationSense (t : Time) (h terms : Nat) (s : State) : Host.Outcome State Fault Refusal :=
  nxt t (fun s => s.termSense h terms) s

/-! Capabilities and training (R266 to R273). -/

/-- A capability read fails for good (R268, R280). -/
def State.capsFail (h : Nat) (s : State) : State :=
  if s.linkSt h != lREAD_CAPS then s
  else
    let alone := s.tf (pgDpl h) R.DPL_STATUS_HPD && (s.dp h).terms = 0
    let s := (s.linkFails h LINK_ERROR 0 0).setDp h fun x => { x with capsFails := if alone then x.capsFails + 1 else 0 }
    let s := if (s.dp h).capsFails = 3 then (s.sf (pgDpl h) R.DPL_STATUS_HPD_STUCK 2).dplRaise h 11 { d6 := 2 } else s
    s.irqHeld h

/-- DPCD 0x00000 to 0x0000F have been read, or the read has failed (R266, R268). -/
def State.capsDone (h terms : Nat) (caps : Option (List Byte)) (s : State) : State :=
  if h < 8 && s.linkSt h = lREAD_CAPS then
    let s := s.setDp h fun x => { x with terms }
    match caps with
    | none => s.capsFail h
    | some bs =>
      let s := forNat 4 (fun k s => s.wr (pageBase (pgDpl h) + 0x50 + 4 * k) (BitVec.ofNat 32 (mle bs (4 * k) 4))) s
      ((s.setDp h fun x => { x with capsKnown := true, capsFails := 0 }).startTraining h 0).irqHeld h
  else s

/-- CAPS_READ_DONE (R268). -/
def execCapsReadDone (t : Time) (h terms : Nat) (caps : Option (List Byte)) (s : State) : Host.Outcome State Fault Refusal :=
  nxt t (fun s => s.capsDone h terms caps) s

/-- The configuration being trained has failed: the next one, or FAILED (R268). -/
def State.configFails (h : Nat) (s : State) : State :=
  match (s.dp h).cfgs with
  | [] => s
  | c :: rest =>
    if rest.isEmpty then
      (((s.trainEnds h).dpcdWrite h 0x102 0).linkFails h LINK_ERROR (c.1 * 16 + c.2) (s.dp h).tried).irqHeld h
    else (s.setDp h fun x => { x with cfgs := rest, tried := x.tried + 1 }).tryConfig h

/-- The link comes up (R268). -/
def State.linkUpNow (h : Nat) (c : Nat × Nat) (s : State) : State :=
  let s := (((s.trainEnds h).dpcdWrite h 0x102 0).linkTo h lUP).setDp h fun x => { x with cfgs := [] }
  ((s.dplRaise h 3 { d6 := c.1, d7 := c.2 }).panelLinkUp h).irqHeld h

/-- The polarity search inverts the lanes that lacked lock and keeps the inversion of those that then lock (R272). -/
def State.polSearch (h : Nat) (kept : List Nat) (s : State) : State :=
  let s := s.setDp h fun x => { x with searched := true }
  if kept.isEmpty then s
  else
    let m := kept.foldl (fun m p => m ||| 2 ^ p) 0
    let s := s.sf (pgDpl h) R.DPL_STATUS_POL_FOUND (s.gf (pgDpl h) R.DPL_STATUS_POL_FOUND ^^^ m)
    s.dplRaise h 6 { d6 := s.gf (pgDpl h) R.DPL_STATUS_POL_FOUND }

/-- A lane's status in a read of DPCD 0x00202 to 0x00207 during training: clock recovery, equalisation, symbol lock; and the voltage swing
that the sink asks for (PRESUMED, log entry 168). -/
def laneStatus (d : List Byte) (k : Nat) : Nat := (d.getD (k / 2) 0#8).toNat / 16 ^ (k % 2) % 8
def swingAsked (d : List Byte) (k : Nat) : Nat := (d.getD (4 + k / 2) 0#8).toNat / 16 ^ (k % 2) % 4

/-- A lane in clock recovery: the swing sent, the swing last asked for and how often in a row. -/
structure CrLane where
  swing : Nat := 0
  asked : Nat := 4
  times : Nat := 0

/-- Clock recovery on `n` lanes, one status read an iteration (R269): the lanes without lock at its end.  It ends early when every lane has
lock, or when a lane that lacks lock was sent at the highest swing or has been asked for the same swing five times. -/
def crRun (n : Nat) (lanes : List CrLane) : List (List Byte) → List Nat → List Nat
  | [], left => left
  | d :: reads, _ =>
    let left := (List.range n).filter fun k => laneStatus d k % 2 = 0
    let lanes' := (List.range n).map fun k =>
      let x := lanes.getD k {}
      let a := swingAsked d k
      ({ swing := x.swing, asked := a, times := if a = x.asked then x.times + 1 else 1 } : CrLane)
    if left.isEmpty || left.any (fun k => (lanes'.getD k {}).swing = 3 || 5 ≤ (lanes'.getD k {}).times) then left
    else crRun n (lanes'.map fun x => { x with swing := x.asked }) reads left

/-- The physical lanes that lack lock after at most 10 iterations of clock recovery (R269). -/
def State.crLost (s : State) (h n : Nat) (reads : List (List Byte)) : List Nat :=
  (crRun n [] (reads.take 10) (List.range n)).map (s.physLane h)

/-- Whether equalisation on `n` lanes succeeds within 6 iterations: every lane equalised and symbol locked, and the lanes aligned (R268,
R269). -/
def eqDone (n : Nat) (reads : List (List Byte)) : Bool :=
  (reads.take 6).any fun d => (List.range n).all (fun k => laneStatus d k = 7) && (d.getD 2 0#8).toNat % 2 = 1

/-- Training at one configuration, with the status reads of clock recovery, of the polarity search and of equalisation (R269, R272). -/
def State.trainConfig (h : Nat) (cr1 cr2 eq : List (List Byte)) (s : State) : State :=
  if 8 ≤ h || s.linkSt h != lTRAINING then s
  else match (s.dp h).cfgs with
  | [] => s
  | c :: _ =>
    let lost := s.crLost h c.2 cr1
    let search := !lost.isEmpty && s.tf (pgDpl h) R.DPL_CTRL_AUTO_POL && (s.dp h).tried = 1 && !(s.dp h).searched
    let left := if search then s.crLost h c.2 cr2 else lost
    let s := if search then (s.sendTps h 1).polSearch h (lost.filter fun p => !left.contains p) else s
    if !left.isEmpty then s.configFails h
    else
      let s := s.sendTps h (if c.1 = 3 then 4 else 2)
      if eqDone c.2 eq then s.linkUpNow h c else s.configFails h

/-- TRAIN_CONFIG_DONE (R269). -/
def execTrainConfigDone (t : Time) (h : Nat) (cr1 cr2 eq : List (List Byte)) (s : State) : Host.Outcome State Fault Refusal :=
  nxt t (fun s => s.trainConfig h cr1 cr2 eq) s

/-- LINK_FAIL_RETRY (R268). -/
def execLinkFailRetry (t : Time) (h : Nat) (s : State) : Host.Outcome State Fault Refusal :=
  nxt t (fun s =>
    if h < 8 && s.linkSt h = lFAILED && (s.dp h).failAt + 1000000000 ≤ s.walltime &&
        s.gf (pgDpl h) R.DPL_STATUS_FAIL_REASON != NO_RESOURCE && s.gf (pgDpl h) R.DPL_STATUS_HPD_STUCK != 2 then s.readCaps h
    else s) s

/-- DPL_CTRL.RETRAIN (R268). -/
def dplRetrainAct (h : Nat) : Act where
  go s := s.retrain h 4

/-- DPL_RETRAIN (R268). -/
def execDplRetrain (t : Time) (p : Port) (h : Nat) (s : State) : Host.Outcome State Fault Refusal :=
  nxt t (fun s => if h < 8 then s.guarded p (pgDpl h) 0x40 (dplRetrainAct h).run else s) s

/-! AUX (R275, R276, R281). -/

/-- Whether DPCD bytes `a` to `a + n − 1` touch what the link layer alone writes (R275). -/
def dpcdKept (a n : Nat) : Bool :=
  let meets (lo hi : Nat) := a ≤ hi && lo < a + n
  meets 0x100 0x10F || meets 0x200 0x2FF || meets 0x600 0x600

/-- The code with which DPL_AUX_CMD.GO is refused (R61, R275). -/
def State.auxCode (s : State) (sec : Bool) (h : Nat) (v : Word) : Option Nat :=
  let p := pgDpl h
  let addr := bits v 0 20
  let req := bits v 20 3
  let len := bits v 24 5
  refusal [
    (s.tf p R.DPL_STATUS_AUX_FAULT || s.linkSt h = lOFF || s.linkSt h = lNO_SINK, LINK_ERROR),
    (16 < len || (len = 0 && req ≤ 1) || 6 ≤ req || (2 ≤ req && 0x7F < addr), BAD_ARG),
    (sec != s.secureOwned p || (req = 1 && dpcdKept addr len), NO_RIGHT),
    (s.inService p, IN_SERVICE), (s.tf p R.DPL_AUX_STATUS_BUSY, WRONG_STATE)]

/-- A refusal is written to STATUS and captured (R275). -/
def State.auxRefused (h c : Nat) (s : State) : State := (s.sf (pgDpl h) R.DPL_AUX_STATUS_STATUS c).err (pgDpl h) c

/-- DPL_AUX_CMD.GO (R275). -/
def auxAct (sec : Bool) (h : Nat) (v : Word) : Act where
  code s := s.auxCode sec h v
  refused c s := s.auxRefused h c
  go s := (s.sf (pgDpl h) R.DPL_AUX_STATUS_BUSY 1).setDp h fun x => { x with swErr := false, swDefers := 0, swWait := false }

/-- A write of DPL_AUX_CMD with GO: a normal-world writer on a secure-owned page finds SECURE_DENIED in STATUS too (R275). -/
def State.auxGo (port : Port) (h : Nat) (v : Word) (s : State) : State :=
  let sec := portSecure port
  let s' := s.guarded port (pgDpl h) 0x60 fun s => (auxAct sec h v).run (s.plainWrite sec (pgDpl h) 0x60 v)
  if s.portServed port && s.writeCode sec (pgDpl h) 0x60 15 = some (SECURE_DENIED, pgDpl h) then
    s'.sf (pgDpl h) R.DPL_AUX_STATUS_STATUS SECURE_DENIED
  else s'

/-- AUX_GO (R275). -/
def execAuxGo (t : Time) (p : Port) (h : Nat) (v : Word) (s : State) : Host.Outcome State Fault Refusal :=
  nxt t (fun s => if h < 8 then s.auxGo p h (putBits v 31 1 1) else s) s

/-- A transaction recovered by the retry (R71, R276). -/
def State.auxRecovered (h addr req : Nat) (s : State) : State :=
  (s.bump (pgDpl h) R.DPL_AUX_STAT_TRANSIENT 1).transient (pgDpl h) 0x0E07 { d6 := addr, d7 := req }

/-- A transaction error (R276): the software request's, or a link-layer step's.  The transaction is sent once more; a second error
is lasting. -/
def State.auxError (h : Nat) (sw : Bool) (addr req : Nat) (s : State) : State :=
  if sw then
    if !s.tf (pgDpl h) R.DPL_AUX_STATUS_BUSY || (s.dp h).swWait then s
    else if (s.dp h).swErr then (s.auxLasting h addr req).auxDone h LINK_ERROR 0
    else s.setDp h fun x => { x with swErr := true }
  else if s.linkSt h = lOFF || (s.dp h).llWait then s
  else if (s.dp h).llErr then
    let s := ((s.auxLasting h addr req).err (pgDpl h) LINK_ERROR).setDp h fun x => { x with llErr := false, llDefers := 0 }
    if s.linkSt h = lREAD_CAPS then s.capsFail h else if s.linkSt h = lTRAINING then s.configFails h else s
  else s.setDp h fun x => { x with llErr := true }

/-- A reply to the software request (R276). -/
def State.swReply (h addr req : Nat) (reply : AuxReply) (s : State) : State :=
  let p := pgDpl h
  if !s.tf p R.DPL_AUX_STATUS_BUSY || (s.dp h).swWait then s
  else match reply with
  | .ack data =>
    let recovered := (s.dp h).swErr
    let reads := req = 0 || req = 2 || req = 4
    let s := if recovered then s.auxRecovered h addr req else s
    let d := data.take 16
    let s := if reads then forNat ((d.length + 3) / 4) (fun k s =>
        let q := pageBase p + 0x68 + 4 * k
        s.wr q (putBits (s.rd q) 0 (8 * min 4 (d.length - 4 * k)) (mle d (4 * k) 4))) s else s
    s.auxDone h (if recovered then RETRIED_OK else OK) (if reads then d.length else s.gf p R.DPL_AUX_CMD_LEN)
  | .nack n => s.auxDone h BAD_ARG n
  | .defer =>
    if 7 ≤ (s.dp h).swDefers then s.auxDone h TIMEOUT 0
    else s.setDp h fun x => { x with swDefers := x.swDefers + 1, swWait := true }
  | .bad => s.auxError h true addr req

/-- A reply to a link-layer transaction (R276); what it read shows in CAPS_READ_DONE, TRAIN_CONFIG_DONE and HPD_IRQ. -/
def State.llReply (h addr req : Nat) (reply : AuxReply) (s : State) : State :=
  if s.linkSt h = lOFF || (s.dp h).llWait then s
  else match reply with
  | .ack _ =>
    let s := if (s.dp h).llErr then s.auxRecovered h addr req else s
    s.setDp h fun x => { x with llErr := false, llDefers := 0 }
  | .nack _ => s.setDp h fun x => { x with llErr := false, llDefers := 0 }
  | .defer =>
    s.setDp h fun x => if 7 ≤ x.llDefers then { x with llErr := false, llDefers := 0 }
      else { x with llDefers := x.llDefers + 1, llWait := true }
  | .bad => s.auxError h false addr req

/-- AUX_TRANSACTION_DONE (R276): no transaction is sent while AUX is in FAULT (R281). -/
def execAuxTransactionDone (t : Time) (h : Nat) (sw : Bool) (addr req : Nat) (reply : AuxReply) (s : State) :
    Host.Outcome State Fault Refusal :=
  nxt t (fun s =>
    if 8 ≤ h || s.tf (pgDpl h) R.DPL_STATUS_AUX_FAULT then s
    else if sw then s.swReply h addr req reply else s.llReply h addr req reply) s

/-- AUX_REPLY_TIMEOUT (R276). -/
def execAuxReplyTimeout (t : Time) (h : Nat) (sw : Bool) (addr req : Nat) (s : State) : Host.Outcome State Fault Refusal :=
  nxt t (fun s =>
    if 8 ≤ h || s.tf (pgDpl h) R.DPL_STATUS_AUX_FAULT then s else s.auxError h sw addr req) s

/-- AUX_DEFER_RETRY (R276): the transaction is sent again. -/
def execAuxDeferRetry (t : Time) (h : Nat) (sw : Bool) (s : State) : Host.Outcome State Fault Refusal :=
  nxt t (fun s =>
    if h < 8 then s.setDp h fun x => if sw then { x with swWait := false } else { x with llWait := false } else s) s

/-- AUX enters FAULT (R281): the request and the step in progress complete with LINK_ERROR at once. -/
def State.auxShorts (h kind : Nat) (s : State) : State :=
  let p := pgDpl h
  let new := !s.tf p R.DPL_STATUS_AUX_FAULT
  let s := s.sf p R.DPL_STATUS_AUX_FAULT kind
  if !new then s
  else
    let s := (s.setDp h fun x => { x with llErr := false, llDefers := 0, llWait := false }).dplRaise h 9 { d6 := kind }
    let s := if s.tf p R.DPL_AUX_STATUS_BUSY then s.auxDone h LINK_ERROR 0 else s
    (if s.linkSt h = lREAD_CAPS then s.linkFails h LINK_ERROR 0 0
    else if s.linkSt h = lTRAINING then s.trainAuxFail h
    else s).irqHeld h

/-- AUX_SHORT (R281): 1 to ground, 2 to a supply. -/
def execAuxShort (t : Time) (h kind : Nat) (s : State) : Host.Outcome State Fault Refusal :=
  nxt t (fun s => if h < 8 && (kind = 1 || kind = 2) && s.pstate (pgDpl h) != pOFF then s.auxShorts h kind else s) s

/-- AUX leaves FAULT (R281): with HPD high the link reads the capabilities.  A link that leaves UP so raises LINK_DOWN, whose
trigger code the manual does not give: a free value (log entry 27). -/
def State.auxClears (h : Nat) (s : State) : State :=
  let p := pgDpl h
  if !s.tf p R.DPL_STATUS_AUX_FAULT then s
  else
    let s := s.sf p R.DPL_STATUS_AUX_FAULT 0
    if s.linkSt h = lOFF || !s.hpdHigh h then s
    else if s.linkSt h = lNO_SINK then s.plug h
    else if s.linkSt h = lUP then
      let w := s.free.toNat % 4294967296
      ((s.useFree.linkTo h lREAD_CAPS).dplRaise h 4 { d6 := lREAD_CAPS, d7 := w }).panelPoll h
    else s.readCaps h

/-- AUX_FAULT_CLEAR (R281). -/
def execAuxFaultClear (t : Time) (h : Nat) (s : State) : Host.Outcome State Fault Refusal :=
  nxt t (fun s => if h < 8 then s.auxClears h else s) s

/-! Lane faults (R282). -/

/-- Whether a physical lane is in use, or in the configuration being trained. -/
def State.laneUsed (s : State) (h lane : Nat) : Bool :=
  let n := (fun c => if c = 3 then 4 else c) (s.gf (pgDpl h) R.DPL_STATUS_LANES)
  (s.linkSt h = lUP || s.linkSt h = lTRAINING) && (s.physLanes h n).contains lane

/-- LANE_SHORT_DETECT (R268, R282): 1 to ground, 2 to a supply. -/
def execLaneShortDetect (t : Time) (h lane kind : Nat) (s : State) : Host.Outcome State Fault Refusal :=
  nxt t (fun s =>
    if 8 ≤ h || 4 ≤ lane || (kind != 1 && kind != 2) || s.pstate (pgDpl h) = pOFF ||
        bit (s.gf (pgDpl h) R.DPL_STATUS_LANE_SHORT) lane then s
    else
      let s := s.sf (pgDpl h) R.DPL_STATUS_LANE_SHORT (setBit (s.gf (pgDpl h) R.DPL_STATUS_LANE_SHORT) lane true)
      let s := s.dplRaise h 10 { d6 := lane, d7 := kind }
      if s.laneUsed h lane then s.retrain h 1 else s) s

/-- LANE_SHORT_CLEAR (R268, R282). -/
def execLaneShortClear (t : Time) (h lane : Nat) (s : State) : Host.Outcome State Fault Refusal :=
  nxt t (fun s =>
    if 8 ≤ h || 4 ≤ lane || !bit (s.gf (pgDpl h) R.DPL_STATUS_LANE_SHORT) lane then s
    else
      let s := s.sf (pgDpl h) R.DPL_STATUS_LANE_SHORT (setBit (s.gf (pgDpl h) R.DPL_STATUS_LANE_SHORT) lane false)
      if s.linkSt h = lFAILED && s.gf (pgDpl h) R.DPL_STATUS_FAIL_REASON = NO_RESOURCE then s.readCaps h else s) s

/-! Panel power (R284). -/

/-- A panel timer of `ms` has expired since the panel state was entered. -/
def State.panelOver (s : State) (h ms : Nat) : Bool := (s.dp h).panelAt + ms * 1000000 ≤ s.walltime

/-- A panel timer expires (R284); `hpd` is the level of the HPD pin then. -/
def State.panelTimer (h : Nat) (hpd : Bool) (s : State) : State :=
  let p := pgDpl h
  let st := s.panelSt h
  if st = vVDD_WAIT then
    if s.linkSt h != lUP && !(hpd || s.tf p R.DPL_CTRL_HPD_FORCE) && s.panelOver h (s.gf p R.DPL_PANEL_SEQ_T_HPD_MS) then
      ((s.sf p R.DPL_STATUS_FAIL_REASON TIMEOUT).dplRaise h 5 { status := TIMEOUT }).panelTo h vFAILED
    else s.panelPoll h
  else if st = vVIDEO_WAIT then
    match (s.dp h).firstFrame with
    | some f => if f + s.gf p R.DPL_PANEL_SEQ_T_BL_ON * 1000000 ≤ s.walltime then s.panelTo h vON else s
    | none => s
  else if st = vBL_OFF then (if s.panelOver h (s.gf p R.DPL_PANEL_SEQ_T_BL_OFF) then s.panelTo h vVDD_OFF else s)
  else if st = vVDD_OFF then (if s.panelOver h (s.gf p R.DPL_PANEL_SEQ_T_VDD_OFF) then s.panelTo h vOFF else s)
  else s.panelPoll h

/-- PANEL_SEQ_TIMER (R284). -/
def execPanelSeqTimer (t : Time) (panel : PanelSense) (s : State) : Host.Outcome State Fault Refusal :=
  nxt t (fun s => if panel.head < 8 then s.panelTimer panel.head panel.hpd else s) s

end Sys2Proof.Machine
end

