-- ==== Sys2Proof/Machine/Torfold.lean ====
section
/-! DEFINITION. The Torfold Chain (chapter 07): ports, enumeration, time, marks and the wall vote.  The messages that perform
register accesses are in `Remote.lean`. -/

namespace Sys2Proof.Machine

open Sys2Proof

/-! Ports (R224 to R229). -/

/-- The ports follow CHN_PORT_CTRL.A_EN and B_EN (R226). -/
def State.portEnFollow (s : State) : State :=
  let one (b : Bool) (s : State) : State := if s.portEn b then s.portWake b else s.portDrop b 0
  one true (one false s)

/-- CHN_PORT_CTRL.A_RETRAIN and B_RETRAIN: a held port trains again (R226). -/
def retrainAct (b : Bool) : Act where
  go s := if s.portSt b = cHELD then s.portTo b cTRAINING 0 else s

/-- CHAIN_SIGNAL_DETECT (R226). -/
def execChainSignalDetect (t : Time) (portB : Bool) (s : State) : Host.Outcome State Fault Refusal :=
  nxt t (fun s => (s.setPort portB fun x => { x with signal := true }).portWake portB) s

/-- CHAIN_TRAIN_DONE (R225, R226, R240, R241): `delay` and `offset` come of the 16 probes, in 10 ps. -/
def execChainTrainDone (t : Time) (portB rxInverted : Bool) (delay : Nat) (offset : Int) (s : State) :
    Host.Outcome State Fault Refusal :=
  nxt t (fun s =>
    if s.portSt portB != cTRAINING || (s.port portB).peerId.isNone then s
    else
      let s := (s.sf PG_CHN (pfld portB R.CHN_PORT_STATUS_A_RX_INVERTED) (if rxInverted then 1 else 0)).sf PG_CHN
        (pfld portB R.CHN_DELAY_A_DELAY) (min delay 0xFFFFF)
      let s := s.portGoesUp portB
      if s.upPort = some portB then s.timeOffset offset else s) s

/-- CHAIN_TRAIN_TIMEOUT (R226): 1 ms after training began. -/
def execChainTrainTimeout (t : Time) (portB : Bool) (s : State) : Host.Outcome State Fault Refusal :=
  nxt t (fun s =>
    if s.portSt portB = cTRAINING && decide ((s.port portB).since + 1000000 ≤ s.walltime) then
      (s.portTo portB cDOWN 0).setPort portB fun x => { x with retry := some (s.walltime + 10000000) }
    else s) s

/-- CHAIN_TRAIN_RETRY (R226): not before 10 ms have passed. -/
def execChainTrainRetry (t : Time) (portB : Bool) (s : State) : Host.Outcome State Fault Refusal :=
  nxt t (fun s => s.portWake portB) s

/-- The master that this unit would name on port `b`, leaving that port aside (R228). -/
def State.ownMaster (s : State) (b : Bool) : Option Nat :=
  if s.isMaster then some Config.unitId
  else match s.upPort with
    | some u => if u = b then none else (s.port u).peerMaster
    | none => none

/-- A TRAIN message arrives (R225 to R228); `inv` is the polarity that the receiver has found. -/
def State.trainMsg (b inv : Bool) (uid : Nat) (master hops : Option Nat) (down : Bool) (addr : Option Nat) (s : State) : State :=
  let st := s.portSt b
  if st = cDOWN || st = cFAULT then s
  else
    let x := s.port b
    let new : ChPort := { x with peerId := some uid, peerMaster := master, peerHops := hops, peerDown := down }
    let s := (s.setPort b fun _ => new).sf PG_CHN (pfld b R.CHN_PORT_STATUS_A_RX_INVERTED) (if inv then 1 else 0)
    let s := (s.sf PG_CHN (pfld b R.CHN_PORT_STATUS_A_PEER_ADDR) (addr.getD 0)).sf PG_CHN
      (pfld b R.CHN_PORT_STATUS_A_PEER_VALID) (if addr.isSome then 1 else 0)
    let self := uid = Config.unitId
    let cross := match s.ownMaster b, master with
      | some m, some m' => m != m'
      | _, _ => false
    if st = cHELD then (if new = x then s else s.portTo b cTRAINING 0)
    else if self || cross then
      let s := (s.sf PG_CHN (pfld b R.CHN_PORT_STATUS_A_HELD_SELF) (if self then 1 else 0)).portTo b cHELD 0
      s.raise PG_CHN 2 { d6 := pnum b, d7 := if self then 1 else 0 }
    else s.roles none

/-- TRAIN_MESSAGE (R225, R227, R228). -/
def execTrainMessage (t : Time) (rx : TrainRx) (unitId : Nat) (master hops : Option Nat) (peerDown : Bool)
    (peerAddr : Option Nat) (s : State) : Host.Outcome State Fault Refusal :=
  nxt t (fun s => s.trainMsg rx.portB rx.inverted unitId master hops peerDown peerAddr) s

/-- CHAIN_SHORT (R226, R229). -/
def execChainShort (t : Time) (portB supply : Bool) (s : State) : Host.Outcome State Fault Refusal :=
  nxt t (fun s => s.portTo portB cFAULT (if supply then 2 else 1)) s

/-- CHAIN_FAULT_CLEAR (R226): not before 100 ms in FAULT; the port stays down until signal appears. -/
def execChainFaultClear (t : Time) (portB : Bool) (s : State) : Host.Outcome State Fault Refusal :=
  nxt t (fun s =>
    if s.portSt portB = cFAULT && decide ((s.port portB).since + 100000000 ≤ s.walltime) then (s.setPort portB fun x => { x with signal := false }).portTo portB cDOWN 0 else s) s

/-- CHAIN_LOSS_OF_SIGNAL (R226, R247). -/
def execChainLossOfSignal (t : Time) (portB : Bool) (s : State) : Host.Outcome State Fault Refusal :=
  nxt t (fun s => (s.setPort portB fun x => { x with signal := false, retry := none }).portDrop portB 3) s

/-- CHAIN_PORT_RETRAIN (R226). -/
def execChainPortRetrain (t : Time) (p : Port) (portB : Bool) (s : State) : Host.Outcome State Fault Refusal :=
  nxt t (fun s => s.guarded p PG_CHN 0x4C (retrainAct portB).run) s

/-! Delay probes and WALLTIME (R28, R240 to R244). -/

/-- DELAY_PROBE (R240): a probe leaves an upstream or STANDBY port at `t1`, in 10 ps. -/
def execDelayProbe (t : Time) (portB : Bool) (t1 : Int) (s : State) : Host.Outcome State Fault Refusal :=
  nxt t (fun s =>
    if s.portUp portB && (s.portRole portB = 1 || s.portRole portB = 3) then
      { s.setPort portB fun x => { x with probe := some t1 } with probeOut := s.probeOut ++ [(pnum portB, [t1])] }
    else s) s

/-- PROBE_RECEIVED (R240): the peer's probe arrives at `rx`, and the reply leaves at `tx`. -/
def execProbeReceived (t : Time) (portB : Bool) (rx tx : Int) (s : State) : Host.Outcome State Fault Refusal :=
  nxt t (fun s =>
    if s.portUp portB || s.portSt portB = cTRAINING || s.portSt portB = cHELD then
      { s with probeOut := s.probeOut ++ [(pnum portB, [rx, tx])] }
    else s) s

/-- CHN_ASYM of a port, in 10 ps. -/
def State.asym (s : State) (b : Bool) : Int :=
  toInt 16 (s.gf PG_CHN (if b then R.CHN_ASYM_ASYM_B else R.CHN_ASYM_ASYM_A))

/-- A 32-bit signed field that saturates. -/
def sat32 (i : Int) : Nat := ofInt 32 (max (-2147483648) (min 2147483647 i))

/-- TIME_LOCKED, once the averaged offset has stayed within ±2 ns for 10 s (R241). -/
def State.lockWatch (b : Bool) (avg : Int) (s : State) : State :=
  if s.timeSt != tLOCKED || decide (200 < avg.natAbs) then { s with lockSince := none }
  else
    let since := s.lockSince.getD s.walltime
    let s := { s with lockSince := some since }
    if !s.lockTold && decide (since + 10000000000 ≤ s.walltime) then
      { s with lockTold := true }.raise PG_TIME 0 { d6 := pnum b, d7 := ofInt 32 avg }
    else s

/-- A probe's reply (R240, R241): `avg` and `freq` are the averaged offset and the frequency correction that the loop holds. -/
def State.probeReply (b : Bool) (t1 t2 t3 t4 avg freq : Int) (s : State) : State :=
  if (s.port b).probe != some t1 || !s.portUp b then s
  else
    let s := s.setPort b fun x => { x with probe := none }
    let delay := ((t4 - t1) - (t3 - t2)) / 2
    let s := s.sf PG_CHN (pfld b R.CHN_DELAY_A_DELAY) (min delay.toNat 0xFFFFF)
    if s.upPort != some b then s
    else
      let s := (s.sf PG_TIME R.TIME_OFFSET_OFFSET (sat32 avg)).sf PG_TIME R.TIME_FREQ_FREQ (sat32 freq)
      (s.timeOffset (((t2 - t1) - (t4 - t3) - s.asym b) / 2)).lockWatch b avg

/-- DELAY_PROBE_REPLY (R240, R241). -/
def execDelayProbeReply (t : Time) (portB : Bool) (t1 t2 t3 t4 avg freq : Int) (s : State) : Host.Outcome State Fault Refusal :=
  nxt t (fun s => s.probeReply portB t1 t2 t3 t4 avg freq) s

/-- The master steps its time to `new` and sends STEP (R28, R242): every unit that follows it 500 µs later agrees with it again. -/
def State.masterStep (new : Nat) (s : State) : State :=
  (s.broadcast (s.ctl 0x02 0 true 0 (leBytes 8 (s.walltime + 500000) ++ leBytes 8 (new + 500000)))).stepTime new

/-- TIME_SET_CTRL.GO (R28). -/
def timeSetAct : Act where
  code s := if !s.isMaster || !s.mayStep then some WRONG_STATE else none
  refused c s := (s.sf PG_TIME R.TIME_SET_CTRL_RESULT c).err PG_TIME c
  go s := (s.sf PG_TIME R.TIME_SET_CTRL_RESULT OK).masterStep (s.g64 PG_TIME R.TIME_SET_LO_VALUE R.TIME_SET_HI_VALUE)

/-- TIME_SET_GO (R28, R242). -/
def execTimeSetGo (t : Time) (p : Port) (s : State) : Host.Outcome State Fault Refusal :=
  nxt t (fun s => s.guarded p PG_TIME 0x5C timeSetAct.run) s

/-- A refused step of `ofs` ns: a unit that is LOCKED or in HOLDOVER detaches (R241, R242, R262). -/
def State.stepRefused (ofs : Int) (s : State) : State :=
  if s.timeSt = tLOCKED || s.timeSt = tHOLDOVER then s.detach 1 (ofInt 32 (ofs / 1000)) else s

/-- STEP (R242). -/
def execStepMsg (t : Time) (portB : Bool) (m : List Byte) (s : State) : Host.Outcome State Fault Refusal :=
  nxt t (fun s => s.bcastMsg portB 0x02 m fun s =>
    if s.mayStep then { s with stepAt := some (mle m 8 8, mle m 16 8) } else s.stepRefused ((mle m 16 8 : Int) - mle m 8 8)) s

/-- TIME_STEP_APPLY (R242). -/
def execTimeStepApply (t : Time) (s : State) : Host.Outcome State Fault Refusal :=
  nxt t (fun s =>
    match s.stepAt with
    | none => s
    | some (at_, new) =>
      if s.walltime < at_ then s
      else
        let s := { s with stepAt := none }
        if s.mayStep then s.stepTime (new + (s.walltime - at_)) else s.stepRefused ((new : Int) - at_)) s

/-- A write of TIME_PPS_CTRL (R243): EN starts or ends the watch for edges, and any write allows one step again. -/
def State.ppsFollow (was : Bool) (s : State) : State :=
  let on := s.tf PG_TIME R.TIME_PPS_CTRL_EN
  let s := { s with ppsStepped := false }
  if on = was then s
  else { s.sf PG_TIME R.TIME_STATUS_PPS_PRESENT 0 with ppsLast := if on then some s.walltime else none }

/-- The signed distance in ns of a time from the nearest whole second. -/
def secondErr (t : Int) : Int := (t + 500000000) % 1000000000 - 500000000

/-- An edge of TIME_PPS_IN on the master (R243). -/
def State.ppsEdge (s : State) : State :=
  if !s.isMaster || !s.tf PG_TIME R.TIME_PPS_CTRL_EN then s
  else
    let e := secondErr ((s.walltime : Int) - (s.gf PG_TIME R.TIME_PPS_CTRL_DELAY_NS : Int))
    let s := (s.sf PG_TIME R.TIME_PPS_ERR_ERR (ofInt 32 e)).sf PG_TIME R.TIME_STATUS_PPS_PRESENT 1
    let s := { s with ppsLast := some s.walltime }
    if s.tf PG_TIME R.TIME_PPS_CTRL_STEP_EN && s.mayStep && !s.ppsStepped && e != 0 then
      let s := { s with ppsStepped := true }.masterStep ((s.walltime : Int) - e).toNat
      { s with ppsLast := some s.walltime }
    else s

/-- PPS_EDGE (R243). -/
def execPpsEdge (t : Time) (s : State) : Host.Outcome State Fault Refusal := nxt t State.ppsEdge s

/-- PPS_LOST (R243). -/
def execPpsLost (t : Time) (s : State) : Host.Outcome State Fault Refusal :=
  nxt t (fun s =>
    match s.ppsLast with
    | none => s
    | some l =>
      if s.isMaster && s.tf PG_TIME R.TIME_PPS_CTRL_EN && decide (l + 3000000000 ≤ s.walltime) then
        ({ s with ppsLast := none }.sf PG_TIME R.TIME_STATUS_PPS_PRESENT 0).raise PG_TIME 3 {}
      else s) s

/-- Whether a write of TIME_MARK_OUT is refused (R244): the pin's bank must belong to the writer's world. -/
def State.markOutCode (s : State) (sec : Bool) (v : Word) : Option Nat :=
  if (s.gpioOwner (bits v 1 5 / 8)).1 = sec then none else some NO_RIGHT

/-- A write of TIME_MARK_OUT (R244): from EN's rise on, the next whole second is looked for. -/
def State.markOutFollow (was : Bool) (s : State) : State :=
  if !was && s.tf PG_TIME R.TIME_MARK_OUT_EN then { s with markOutNext := s.walltime / 1000000000 * 1000000000 } else s

/-- TIME_MARK_OUT_PULSE (R244, R505): WALLTIME has crossed a whole second, and the pin goes high for 10 µs. -/
def execTimeMarkOutPulse (t : Time) (s : State) : Host.Outcome State Fault Refusal :=
  nxt t (fun s =>
    let sec := s.walltime / 1000000000 * 1000000000
    if s.tf PG_TIME R.TIME_MARK_OUT_EN && decide (s.markOutNext < sec) then
      { s with markOutNext := sec, markHigh := some (s.gf PG_TIME R.TIME_MARK_OUT_PIN, s.walltime + 10000) }
    else s) s

/-! Addresses and topology (R230 to R234, R247). -/

/-- A walk of the master through port `b` starts (R231, R233): through port A 100 ms after the last; through port B after that through A,
unless ENUM has come back by it. -/
def State.enumWalk (b : Bool) (s : State) : State :=
  let due := s.walkAt.all fun t => decide (t + 100000000 ≤ s.walltime)
  if !s.isMaster then s
  else if !b then
    if due then { s with walkRing := false, walkDue := true, walkAt := some s.walltime }.sendEnum false s.unitCount 0 else s
  else if s.walkDue then
    let s := { s with walkDue := false }
    if s.walkRing then s else s.sendEnum true s.unitCount 1
  else if !s.portUp false && due then { s with walkAt := some s.walltime }.sendEnum true s.unitCount 1
  else s

/-- ENUM_WALK (R231, R233). -/
def execEnumWalk (t : Time) (portB : Bool) (s : State) : Host.Outcome State Fault Refusal := nxt t (State.enumWalk portB) s

/-- An ENUM message (R231): back at the master it closes a ring; a unit with an address passes it on; one without an address, or that has
lost its path to the master through this port since, asks for one (R232; DEDUCED, log entry 153). -/
def State.enumArrives (b : Bool) (m : List Byte) (s : State) : State :=
  let next := mle m 8 2
  let side := mb m 10
  if s.isMaster then
    if b != (side == 0) then s
    else
      let new := s.gf PG_CHN R.CHN_STATUS_TOPOLOGY != 2
      let s := { s with walkRing := true }.setTopo 2
      if new then { s.ringRoutes s.unitCount with topoBrk := (0, 0) }.sendTopo else s
  else
    let s := { s with enumPort := some b }
    if s.addrValid && fhas (s.port b).reach 0 then s.sendEnum (!b) next side
    else ({ s with pendEnum := some (next, side) }).chSend b (s.ctl 0x09 0 false 0 (leBytes 8 Config.unitId))

/-- ENUM (R231). -/
def execEnumMsg (t : Time) (portB : Bool) (m : List Byte) (s : State) : Host.Outcome State Fault Refusal :=
  nxt t (fun s => s.recvMsg portB 0x08 m fun s => s.enumArrives portB m) s

/-- The master grants an address (R232): the old one, or the next free one while there is one. -/
def State.grantAddr (b : Bool) (uid : Nat) (s : State) : State :=
  let old := (s.grants.find? fun (p : Nat × Nat) => p.2 == uid).map (·.1)
  let a := old.getD s.unitCount
  if !s.isMaster || 1024 ≤ a then s
  else
    let s := { s with grants := fset s.grants a uid }.learn b a
    let s := s.chSend b (s.ctl 0x0A a false 0 (leBytes 8 uid ++ leBytes 2 a))
    let healed := s.topoBrk.2 == a
    if old.isNone || healed then { s with topoBrk := if healed then (0, 0) else s.topoBrk }.sendTopo else s

/-- ADDR_REQ (R231, R232): it goes back to the master by the way that ENUM came. -/
def execAddrReq (t : Time) (portB : Bool) (m : List Byte) (s : State) : Host.Outcome State Fault Refusal :=
  nxt t (fun s => s.recvMsg portB 0x09 m fun s =>
    if s.isMaster then s.grantAddr portB (mle m 8 8)
    else match s.enumPort with
      | some b => if b = portB then s else s.chSend b (m.take (m.length - 4))
      | none => s.forward portB m) s

/-- An ADDR_GRANT (R231): the unit takes its address and passes ENUM on; another unit learns the address and passes the grant on. -/
def State.grantArrives (b : Bool) (m : List Byte) (s : State) : State :=
  let a := mle m 16 2 % 1024
  if mle m 8 8 = Config.unitId then
      let s := if s.addrValid then s else s.takeAddr a (some b)
      let s := s.setPort b fun x => { x with reach := fset x.reach 0 (x.peerHops.getD 0 + 1) }
      match s.pendEnum with
      | some (next, side) => ({ s with pendEnum := none }).sendEnum (!b) (max next (a + 1)) side
      | none => s
  else if s.isMaster then s
  else (s.learn (!b) a).chSend (!b) (m.take (m.length - 4))

/-- ADDR_GRANT (R231). -/
def execAddrGrant (t : Time) (portB : Bool) (m : List Byte) (s : State) : Host.Outcome State Fault Refusal :=
  nxt t (fun s => s.recvMsg portB 0x0A m fun s => s.grantArrives portB m) s

/-- TOPO (R234, R236, R247). -/
def execTopo (t : Time) (portB : Bool) (m : List Byte) (s : State) : Host.Outcome State Fault Refusal :=
  nxt t (fun s => s.bcastMsg portB 0x0B m fun s =>
    let s := { s with topoUnits := mle m 10 2, topoBrk := (mle m 12 2, mle m 14 2) }.setTopo (mb m 8 % 4)
    if mb m 8 % 4 = 2 then s.ringRoutes s.topoUnits
    else if s.topoBrk = (0, 0) then { s with cutOff := [] }
    else s.cutRoutes s.topoBrk.1 s.topoBrk.2) s

/-- A BREAK (R234, R247): the link that the sender has lost leads away from the port by which the message came; the other end of a link
already known to be lost says nothing new. -/
def State.breakArrives (b : Bool) (m : List Byte) (s : State) : State :=
  let a := mSrc m
  let known := fhas (s.port b).reach a
  let next := s.hopAddr b (fget 0 (s.port b).reach a + 1)
  if !s.isMaster || !known then s
  else match next with
    | some hi => s.ringBreak b a hi
    | none => if s.gf PG_CHN R.CHN_STATUS_TOPOLOGY = 2 then s.ringBreak b a 0 else s

/-- BREAK (R234, R247). -/
def execBreakMsg (t : Time) (portB : Bool) (m : List Byte) (s : State) : Host.Outcome State Fault Refusal :=
  nxt t (fun s => s.unicastMsg portB 0x0C m fun s => s.breakArrives portB m) s

/-! Link answers (R239). -/

/-- The message with this LSEQ has arrived good; if it had been sent twice the fault was transient. -/
def State.ackSeq (b : Bool) (seq : Nat) (s : State) : State :=
  let l := (s.port b).unacked
  match l.find? (fun x => mSeq x.1 == seq) with
  | none => s
  | some x =>
    let s := s.setPort b fun y => { y with unacked := l.filter fun z => mSeq z.1 != seq }
    if x.2 then
      (s.bump PG_CHN (pfld b R.CHN_CRC_A_TRANSIENT) 1).transient PG_CHN 0x0F05 { d6 := pnum b, d7 := mType x.1 }
    else s

/-- ACK (R239). -/
def execAckMsg (t : Time) (portB : Bool) (m : List Byte) (s : State) : Host.Outcome State Fault Refusal :=
  nxt t (fun s => s.recvMsg portB 0x30 m fun s => s.ackSeq portB (mb m 8)) s

/-- NAK (R239). -/
def execNakMsg (t : Time) (portB : Bool) (m : List Byte) (s : State) : Host.Outcome State Fault Refusal :=
  nxt t (fun s => s.recvMsg portB 0x31 m fun s => s.noAck portB (some (mb m 8))) s

/-- CHAIN_ACK_TIMEOUT (R239): the oldest message not answered. -/
def execChainAckTimeout (t : Time) (portB : Bool) (s : State) : Host.Outcome State Fault Refusal :=
  nxt t (fun s => s.noAck portB none) s

/-! Marks (R245, R246). -/

/-- MARK (R245, R246). -/
def State.markArrives (seq time : Nat) (restart : Bool) (s : State) : State :=
  let s := match s.markSeen with
    | some p => if !restart && p + 1 < seq then s.bump PG_CHN R.CHN_MARK_STAT_GAPS (seq - p - 1) else s
    | none => s
  let s := { s with markSeen := some seq }
  if time ≤ s.walltime then (s.bump PG_CHN R.CHN_MARK_STAT_LATE 1).raise PG_CHN 6 { d6 := seq, d7 := s.walltime - time }
  else { s with marks := s.marks ++ [{ seq, time, restart := restart }] }

/-- MARK (R245, R246). -/
def execMarkMsg (t : Time) (portB : Bool) (m : List Byte) (s : State) : Host.Outcome State Fault Refusal :=
  nxt t (fun s => s.bcastMsg portB 0x01 m fun s => s.markArrives (mle m 8 8) (mle m 16 8) (bit (mb m 6) 1)) s

/-- MARK_SEND (R245): with SRC 0, the next mark is due 250 µs ahead of its time. -/
def execMarkSend (t : Time) (s : State) : Host.Outcome State Fault Refusal :=
  nxt t (fun s =>
    let s := if s.markNext.isNone then s.markStart false else s
    match s.markNext with
    | none => s
    | some n =>
      if s.walltime + 250000 < s.markNs n then s
      else { s.sendMark n (s.markNs n) with markNext := some (n + 1) }) s

/-- A standing READY is sent again after a mark, and the marks without news of its group are counted (R254, R261); a COMMIT whose
mark N + 1 has come is due at the head's next frame start (R256). -/
def State.markWall (k : Mark) (h : Nat) (s : State) : State :=
  let x := s.wallOf h
  let s := s.setHw h fun y => { y with commits := y.commits.map fun c => (c.1, c.2 || decide (c.1 < k.seq) || k.restart) }
  let s := s.wallJoin h
  match x.ready with
  | some (g, tag) => (s.setHw h fun y => { y with silent := y.silent + 1 }).toMaster 0x10 h g tag 1
  | none => s

/-- A mark fires: the active edge of the CHAIN source (R246).  A DETACHED unit fires none (R241). -/
def State.fireMark (k : Mark) (s : State) : State :=
  let s := { s with marks := s.marks.filter fun y => y != k }
  if s.timeSt = tDETACHED then s
  else
    let s := (s.s64 PG_CHN R.CHN_MARK_SEQ_LO_SEQ R.CHN_MARK_SEQ_HI_SEQ k.seq).s64 PG_CHN R.CHN_MARK_TIME_LO_TIME
      R.CHN_MARK_TIME_HI_TIME k.time
    let s := forNat 8 (fun h s => s.syncEdge h 1 k.time) s
    forNat 8 (fun h s => s.markWall k h) s

/-- CHAIN_MARK_FIRE (R246, R254, R256). -/
def execChainMarkFire (t : Time) (s : State) : Host.Outcome State Fault Refusal :=
  nxt t (fun s =>
    match s.marks.foldl (fun (a : Option Mark) k => match a with
        | some b => if k.time < b.time then some k else a
        | none => some k) none with
    | some k => if k.time ≤ s.walltime then s.fireMark k else s
    | none => s) s

/-! The wall vote (R252 to R261). -/

def wGroup (m : List Byte) : Nat := mb m 8 % 64
def wMember (m : List Byte) : Nat := mle m 10 2 % 8192
def wTag (m : List Byte) : Nat := mle m 12 4
def wRound (m : List Byte) : Nat := mle m 16 8

/-- A wall message for the master. -/
def State.forMaster (b : Bool) (ty : Nat) (m : List Byte) (go : State → State) (s : State) : State :=
  s.unicastMsg b ty m fun s => if s.isMaster then go s else s

/-- A wall message for a member head of this unit. -/
def State.forMember (b : Bool) (ty : Nat) (m : List Byte) (go : Nat → State → State) (s : State) : State :=
  s.unicastMsg b ty m fun s =>
    let h := wMember m % 8
    if wMember m / 8 = s.ownAddr && s.isMember h && s.headGroup h = wGroup m then go h s else s

/-- READY (R255, R260). -/
def execReadyMsg (t : Time) (portB : Bool) (m : List Byte) (s : State) : Host.Outcome State Fault Refusal :=
  nxt t (fun s => s.forMaster portB 0x10 m fun s => s.masterReady (wGroup m) (wMember m) (wTag m)) s

/-- COMMIT (R256). -/
def execCommitMsg (t : Time) (portB : Bool) (m : List Byte) (s : State) : Host.Outcome State Fault Refusal :=
  nxt t (fun s => s.bcastMsg portB 0x11 m fun s => s.commitHere (wGroup m) (wTag m) (wRound m)) s

/-- DEFER (R255, R261): READYs stay standing. -/
def execDeferMsg (t : Time) (portB : Bool) (m : List Byte) (s : State) : Host.Outcome State Fault Refusal :=
  nxt t (fun s => s.bcastMsg portB 0x12 m fun s =>
    forNat 8 (fun h s =>
      if (s.wallOf h).ready.any (fun r => r.1 == wGroup m) then s.setHw h fun y => { y with silent := 0 } else s) s) s

/-- EXCLUDE (R258). -/
def execExcludeMsg (t : Time) (portB : Bool) (m : List Byte) (s : State) : Host.Outcome State Fault Refusal :=
  nxt t (fun s => s.forMember portB 0x13 m fun h s => s.excludeHere h (wGroup m) 0 false) s

/-- A head of this unit is readmitted (R258). -/
def State.readmitHere (h g : Nat) (s : State) : State :=
  ((s.setHw h fun x => { x with excl := ndel x.excl g }).showExcluded h).raise PG_CHN 10 { d6 := g, d7 := s.memberNo h }

/-- READMIT (R258). -/
def execReadmitMsg (t : Time) (portB : Bool) (m : List Byte) (s : State) : Host.Outcome State Fault Refusal :=
  nxt t (fun s => s.forMember portB 0x14 m fun h s => s.readmitHere h (wGroup m)) s

/-- JOIN (R252). -/
def execJoinMsg (t : Time) (portB : Bool) (m : List Byte) (s : State) : Host.Outcome State Fault Refusal :=
  nxt t (fun s => s.forMaster portB 0x15 m fun s => s.masterJoin (wGroup m) (wMember m)) s

/-- WITHDRAW (R259). -/
def execWithdrawMsg (t : Time) (portB : Bool) (m : List Byte) (s : State) : Host.Outcome State Fault Refusal :=
  nxt t (fun s => s.forMaster portB 0x16 m fun s => s.masterWithdraw (wGroup m) (wMember m)) s

/-- LATE_COMMIT (R260). -/
def execLateCommit (t : Time) (portB : Bool) (m : List Byte) (s : State) : Host.Outcome State Fault Refusal :=
  nxt t (fun s => s.forMember portB 0x17 m fun h s =>
    if (s.wallOf h).ready = some (wGroup m, wTag m) then s.lateCommit h (wGroup m) (wRound m) else s) s

/-- SELF_EXCLUDED (R261). -/
def execSelfExcluded (t : Time) (portB : Bool) (m : List Byte) (s : State) : Host.Outcome State Fault Refusal :=
  nxt t (fun s => s.forMaster portB 0x18 m fun s => s.masterSelfExcl (wGroup m) (wMember m)) s

/-- WALL_VOTE_LINE (R255): the round is that of the last mark fired. -/
def execWallVoteLine (t : Time) (group : Nat) (s : State) : Host.Outcome State Fault Refusal :=
  nxt t (fun s =>
    let n := s.g64 PG_CHN R.CHN_MARK_SEQ_LO_SEQ R.CHN_MARK_SEQ_HI_SEQ
    let fired := s.g64 PG_CHN R.CHN_MARK_TIME_LO_TIME R.CHN_MARK_TIME_HI_TIME
    let line := fired + s.gf PG_CHN R.CHN_WALL_CFG_VOTE_US * 1000
    if !s.isMaster || fired = 0 || s.walltime < line || (s.group group).voted = some n || 64 ≤ group then s else s.voteGroup group n) s

/-- SELF_EXCLUDE (R261). -/
def execSelfExclude (t : Time) (h : Nat) (s : State) : Host.Outcome State Fault Refusal :=
  nxt t (fun s =>
    match (s.wallOf h).ready with
    | none => s
    | some (g, _) =>
      let lim := s.gf PG_CHN R.CHN_WALL_CFG_DEFER_LIMIT
      if h < 8 && (!s.hasPath || decide ((if lim = 0 then 5 else lim + 2) ≤ (s.wallOf h).silent)) then
        (s.excludeHere h g 1 false).toMaster 0x18 h g 0 0
      else s) s

/-- CHN_WALL_CMD.READMIT (R258), with the fields of the word written. -/
def readmitAct (v : Word) : Act where
  code s := if s.isMaster && (s.member (bits v 16 6) (bits v 0 13)).excluded then none else some WRONG_STATE
  refused c s := (s.sf PG_CHN R.CHN_WALL_RESULT_RESULT c).err PG_CHN c
  go s :=
    let g := bits v 16 6
    let m := bits v 0 13
    let s := (s.sf PG_CHN R.CHN_WALL_RESULT_RESULT OK).setMember g m fun x => { x with excluded := false, misses := 0, ready := none }
    if m / 8 = s.ownAddr then s.readmitHere (m % 8) g
    else (s.unicast (s.ctl 0x14 (m / 8) false 0 (wallPay g m 0 0))).raise PG_CHN 10 { d6 := g, d7 := m }

/-- WALL_READMIT_CMD (R258). -/
def execWallReadmitCmd (t : Time) (p : Port) (v : Word) (s : State) : Host.Outcome State Fault Refusal :=
  nxt t (fun s => s.guarded p PG_CHN 0xA0 fun s => (readmitAct v).run (s.plainWrite (portSecure p) PG_CHN 0xA0 v)) s

end Sys2Proof.Machine
end

