-- ==== Sys2Proof/Machine/Write.lean ====
section
/-! DEFINITION. What a write of any register does (R51 to R60, R75): its plain fields, and the requests of the fields that have a
command of their own. -/

namespace Sys2Proof.Machine

open Sys2Proof

/-- A request that is made when bit `b` of the written word is 1. -/
def actIf (v : Word) (b : Nat) (a : Act) : List Act := if bits v b 1 = 1 then [a] else []

/-- The requests of a write to a page header (R57 to R70). -/
def hdrActs (p off : Nat) (v : Word) : List Act :=
  if off = 0x08 then ctrlActs p v
  else if off = 0x14 then [evtClearAct p v]
  else if off = 0x18 then [evtEnableAct p v]
  else if off = 0x20 then actIf v 31 (errClearAct p)
  else if off = 0x30 then actIf v 0 (commitAct p) ++ actIf v 1 (abortAct p)
  else if off = 0x3C then actIf v 0 (lockAct p)
  else []

/-- The requests of writes on the SYS, TIME, INST, DMA, MEM and SWEEP pages. -/
def coreActs (sec : Bool) (p off : Nat) (v : Word) : List Act :=
  match pageType p with
  | 0x01 =>
    if off = 0x44 then [modeAct sec (bits v 0 3)]
    else if off = 0x48 then secReadyAct (bits v 0 1 = 1) :: actIf v 2 deviceResetAct
    else []
  | 0x02 => if off = 0x5C then actIf v 0 timeSetAct else []
  | 0x05 => if off = 0x40 then actIf v 31 instCmdAct else if off = 0x58 then [c0ResAct v] else []
  | 0x06 => if off = 0x64 then actIf v 31 migAct else []
  | 0x07 => if off = 0x44 then actIf v 3 memFreqAct else []
  | 0x08 =>
    let g := p - 16
    if off = 0x64 then
      actIf v 8 (logMarkAct sec g (bits v 0 6)) ++ actIf v 9 (logUnmarkAct g (bits v 0 6)) ++ actIf v 10 (logFreeAct sec g (bits v 0 6))
    else if off = 0x90 && p = 16 then actIf v 8 (rangeAct sec) ++ actIf v 9 rangeAbortAct
    else []
  | _ => []

/-- The requests of writes on the PLAZA, ARCADE, DPL, SEC, WMARK, PERF and journal pages. -/
def viewActs (sec : Bool) (p off : Nat) (v : Word) : List Act :=
  match pageType p with
  | 0x09 => if off = 0x4C then actIf v 8 (plzSubstAct (bits v 0 3)) else []
  | 0x0B => if off = 0x40 then [arcFlushAct (bits v 16 8)] else []
  | 0x0E =>
    if off = 0x40 then actIf v 4 (dplRetrainAct (p - 56)) else if off = 0x60 then actIf v 31 (auxAct sec (p - 56) v) else []
  | 0x10 =>
    if off = 0x50 then [svcCtrlAct v]
    else if off = 0x64 then actIf v 31 replyAct
    else if off = 0x70 then actIf v 31 hoAct
    else if off = 0xA8 || off = 0xB8 then [subCtrlAct ((off - 0xA8) / 16) v]
    else if off = 0xAC || off = 0xBC then [subTailAct ((off - 0xAC) / 16) v]
    else []
  | 0x11 => if off = 0x40 then [wmDramAct v] else if off = 0x44 then [wmSdtAct v] else if off = 0x48 then [wmSramAct v] else []
  | 0x13 => if off = 0x40 then actIf v 2 perfClearAct else []
  | 0x15 => if off = 0x48 then [jrnCtrlAct p v] else if off = 0x50 then [jrnRdAct p v] else []
  | _ => []

/-- The requests of writes on the CHN, HAP, AUD, QSPI and BIST pages; `mb` is the GO of a mailbox. -/
def ioActs (mb : Bool → Act) (sec : Bool) (p off : Nat) (v : Word) : List Act :=
  match pageType p with
  | 0x0F =>
    if off = 0x4C then actIf v 2 (retrainAct false) ++ actIf v 3 (retrainAct true)
    else if off = 0xA0 then actIf v 24 (readmitAct v)
    else if off = 0x100 || off = 0x180 then actIf v 31 (mb (off = 0x180))
    else []
  | 0x17 =>
    let n := (off - 0x8C) / 0x20
    if 0x8C ≤ off && off < 0x10C && (off - 0x8C) % 0x20 = 0 then
      actIf v 16 (hapPlayAct n) ++ actIf v 17 (hapStopAct n) ++ actIf v 18 (hapClearAct n)
    else []
  | 0x18 => if 0x104 ≤ off && off < 0x204 && off % 0x10 = 4 then actIf v 0 (strStopAct ((off - 0x104) / 0x10)) else []
  | 0x19 => if off = 0x50 then actIf v 31 (qspiAct sec (bits v 0 2) (bits v 8 9)) else []
  | 0x1B =>
    if off = 0x40 then actIf v 31 (bistGoAct sec (bits v 0 8) (bits v 8 8) (bits v 16 4)) ++ actIf v 30 bistAbortAct
    else if off = 0x70 then [tgAct sec (bits v 0 1 = 1)]
    else if off = 0x94 then actIf v 8 (substCndAct (bits v 0 4))
    else if off = 0xA4 then actIf v 31 (updAct (bits v 0 3) (bits v 8 4))
    else []
  | _ => []

/-- Every request that a write makes. -/
def regActs (mb : Bool → Act) (sec : Bool) (p off : Nat) (v : Word) : List Act :=
  if off < 0x40 then hdrActs p off v
  else coreActs sec p off v ++ viewActs sec p off v ++ ioActs mb sec p off v

/-- Registers whose requests take the whole word: SEC_SVC_CTRL, SEC_SUB_CTRL, JRN_CTRL. -/
def wholeReg (p off : Nat) : Bool :=
  (p = PG_SEC && (off = 0x50 || off = 0xA8 || off = 0xB8)) || ((p = PG_JRN_N || p = PG_JRN_S) && off = 0x48)

/-- A request is decided and carried out; the first refusal of a write is kept. -/
def Act.runCode (a : Act) (x : Option Nat × State) : Option Nat × State :=
  (match x.1 with | some c => some c | none => a.code x.2, a.run x.2)

/-- What follows from plain fields that took a value: the watch for PPS edges, the one-second mark, the chain
ports, the capacity (R226, R243, R244, R363); `old` is the state before. -/
def State.afterPlain (p off : Nat) (old s : State) : State :=
  if p = PG_TIME && off = 0x60 then s.ppsFollow (old.tf PG_TIME R.TIME_PPS_CTRL_EN)
  else if p = PG_TIME && off = 0x68 then s.markOutFollow (old.tf PG_TIME R.TIME_MARK_OUT_EN)
  else if p = PG_CHN && off = 0x4C then s.portEnFollow
  else if (p = 14 || p = 15) && off = 0x5C then s.capUpdate
  else s

/-- An accepted write to a register: the code of its first refusal, and the state after it. -/
def State.regTake (mb : Bool → Act) (sec : Bool) (p off : Nat) (v : Word) (s : State) : Option Nat × State :=
  let h := p - 48
  let lo := regKey p 0x68
  if pageType p = 0x0D && off = 0x68 then (none, { s with loHeld := fset s.loHeld lo v })
  else if pageType p = 0x0D && off = 0x6C then
    (none, (ageReleaseAct h (fget 0#32 s.loHeld lo) v).run { s with loHeld := fdel s.loHeld lo })
  else if p = PG_TIME && off = 0x68 && (s.markOutCode sec v).isSome then (s.markOutCode sec v, s.err p ((s.markOutCode sec v).getD 0))
  else
    let x := if wholeReg p off then (none, s)
      else (s.plainCode sec p off v, (s.plainWrite sec p off v).afterPlain p off s)
    (regActs mb sec p off v).foldl (fun x a => a.runCode x) x

/-- A write to a register of a page, with the bytes `be` enabled (R52, R53, R55, R59, R60, R346). -/
def State.pageWrite (mb : Bool → Act) (port : Port) (p off be : Nat) (v : Word) (s : State) : Option Nat × State :=
  let sec := portSecure port
  if off = 0x08 && be = 15 && s.gates port p (bits v 0 1 = 1) then (some SECURE_DENIED, s.gateRefused port p)
  else match s.writeCode sec p off be with
    | none => s.regTake mb sec p off v
    | some (c, pg) =>
      let s' := s.err pg c
      -- a normal-world GO of an AUX request on a secure-owned page finds its code in STATUS (R275)
      let aux := pageType p = 0x0E && off = 0x60 && be = 15 && bits v 31 1 = 1 && c = SECURE_DENIED
      (some c, if aux then s'.sf p R.DPL_AUX_STATUS_STATUS c else s')

/-- A write of a word of the MSI-X table: its enabled bytes; of the vector control word only the mask (R51). -/
def State.msixWrite (w be : Nat) (v : Word) (s : State) : State :=
  let m : Word := BitVec.ofNat 32 ((bitmap 32 fun b => bit be (b / 8)) &&& (if w % 4 = 3 then 1 else 0xFFFFFFFF))
  s.wr (4 * w) ((s.rd (4 * w) &&& ~~~m) ||| (v &&& m))

/-- A write of a word of the management space from a port (R51, R52, R55, R83, R300). -/
def State.writeAt (mb : Bool → Act) (port : Port) (off be : Nat) (v : Word) (s : State) : Option Nat × State :=
  if !s.portServed port then (none, s)
  else match region51 port off with
    | .msix w => (none, s.msixWrite w be v)
    | .pba _ => (none, s)
    | .page p o => s.pageWrite mb port p o be v
    | .sdt _ _ => let c := if be = 15 then NO_RIGHT else BAD_ARG; (some c, s.err PG_SYS c)
    | .inst i w =>
      if be != 15 then (some BAD_ARG, s.err PG_INST BAD_ARG) else (s.entryCode port i w v, s.entryWrite port i w v)
    | .modes _ => if be = 15 then (none, s) else (some BAD_ARG, s.err PG_SYS BAD_ARG)
    | .reserved => (some BAD_ARG, s.err PG_SYS BAD_ARG)

end Sys2Proof.Machine
end

