-- ==== Sys2Proof/Machine/Remote.lean ====
section
/-! DEFINITION. Runs of words through a port: the chain mailboxes and the management messages (R238, R249 to R251), the secure
management port (R498 to R500), the debug port (R349), and register writes from BAR 0 (R52 to R60). -/

namespace Sys2Proof.Machine

open Sys2Proof

/-! Runs of words (R250, R499). -/

/-- The code of a read of one word, without its effect. -/
def State.readCode (s : State) (port : Port) (off : Nat) : Option Nat :=
  match region51 port off with
  | .page p o => (s.accessCode (portSecure port) p o).map fun c => c.1
  | .reserved => some BAD_ARG
  | _ => none

/-- What a run of words gives: the first code other than OK, the words done before it, and what they read. -/
structure Words where
  code : Nat := OK
  done : Nat := 0
  data : List Word := []

/-- Consecutive words are written in order until the first that is refused. -/
def State.writeWords (mb : Bool → Act) (port : Port) : List Word → Nat → State → Words × State
  | [], _, s => ({}, s)
  | v :: vs, off, s =>
    match s.writeAt mb port off 15 v with
    | (some c, s) => ({ code := c }, s)
    | (none, s) =>
      let r := State.writeWords mb port vs (off + 4) s
      ({ r.1 with done := r.1.done + 1 }, r.2)

/-- `n` consecutive words are read in order until the first that is refused. -/
def State.readWords (port : Port) : Nat → Nat → State → Words × State
  | 0, _, s => ({}, s)
  | n + 1, off, s =>
    let w := s.readReg port off
    match s.readCode port off with
    | some c => ({ code := c }, w.2)
    | none =>
      let r := State.readWords port n (off + 4) w.2
      ({ r.1 with done := r.1.done + 1, data := w.1 :: r.1.data }, r.2)

/-- Whether one of `n` words from an offset waits for the die-to-die link to retrain (R17): the whole run then waits. -/
def State.wordWaits (s : State) (off : Nat) : Bool :=
  match region51 .smp off with
  | .page p o => s.waitsD2d p o
  | _ => false
def State.runWaits (s : State) (off n : Nat) : Bool := (List.range n).any fun k => s.wordWaits (off + 4 * k)

/-! Mailboxes (R249). -/

/-- Offset of word `k` of a mailbox's data. -/
def mbDataOff (sec : Bool) (k : Nat) : Nat := (if sec then 0x1C0 else 0x140) + 4 * k
/-- Words read through a mailbox are placed in MB_DATA. -/
def State.mbStore (sec : Bool) (ws : List Word) (s : State) : State :=
  forNat (min 16 ws.length) (fun k s => s.wr (regKey PG_CHN (mbDataOff sec k)) (ws.getD k 0#32)) s

/-- The code with which GO of a mailbox is refused (R61, R75, R236, R249, R451). -/
def State.mbCode (s : State) (sec : Bool) : Option Nat :=
  let dst := s.gf PG_CHN (mbFld sec R.MB_CMD_DST)
  let cnt := s.gf PG_CHN (mbFld sec R.MB_CMD_COUNT)
  let off := s.gf PG_CHN (mbFld sec R.MB_OFFSET_OFFSET)
  let away := s.addrValid && dst != s.ownAddr
  s.reqCode PG_CHN [
    (away && (s.route dst).isNone, LINK_ERROR),
    (cnt = 0 || 16 < cnt || off < 0x100000 || 0x200000 ≤ off || off % 4 != 0 || 0x1000 < off % 0x1000 + 4 * cnt, BAD_ARG),
    (away && (match s.route dst with | some b => s.portTested b | none => false), IN_SERVICE),
    (s.tf PG_CHN (mbFld sec R.MB_STATUS_BUSY) || !s.addrValid, WRONG_STATE) ]

/-- A mailbox request that this unit serves to itself is carried out (R249). -/
def State.mbServe (mb : Bool → Act) (sec put : Bool) (off cnt : Nat) (ws : List Word) (s : State) : State :=
  let r := if put then s.writeWords mb (.chain sec) ws off else s.readWords (.chain sec) cnt off
  -- a reset among the words clears the mailbox
  if r.2.tf PG_CHN (mbFld sec R.MB_STATUS_BUSY) then (r.2.mbStore sec r.1.data).mbDone sec r.1.code r.1.done else r.2

/-- An accepted request: served here where DST is this unit, else sent (R238, R249). -/
def State.mbStart (mb : Bool → Act) (sec : Bool) (s : State) : State :=
  let dst := s.gf PG_CHN (mbFld sec R.MB_CMD_DST)
  let cnt := s.gf PG_CHN (mbFld sec R.MB_CMD_COUNT)
  let off := s.gf PG_CHN (mbFld sec R.MB_OFFSET_OFFSET)
  let put := s.tf PG_CHN (mbFld sec R.MB_CMD_WRITE)
  let ws := if put then (List.range cnt).map fun k => s.rd (regKey PG_CHN (mbDataOff sec k)) else []
  let s := s.sf PG_CHN (mbFld sec R.MB_STATUS_BUSY) 1
  if dst = s.ownAddr then
    if s.runWaits off cnt then s.holdAcc (.mailbox sec put off cnt ws) else s.mbServe mb sec put off cnt ws
  else
    let id := s.mbNext % 256
    let m := msgHead (if put then 0x41 else 0x40) dst sec s.ownAddr cnt ++
      [BitVec.ofNat 8 id, BitVec.ofNat 8 (4 * ws.length)] ++ leBytes 4 off ++ wordBytes ws
    let s := { s with
      mbNext := id + 1
      mbReq := fset s.mbReq (if sec then 1 else 0) (id, s.walltime) }
    s.unicast m

/-- GO of a mailbox.  A word of a request that a unit serves to itself may be the GO of its other mailbox, and that of the first
again, which is then BUSY: the depth `n` is never used up. -/
def mbAct : Nat → Bool → Act
  | 0, _ => { code := fun _ => some WRONG_STATE, go := fun s => s }
  | n + 1, sec =>
    { code := fun s => s.mbCode sec
      refused := fun c s => (s.sf PG_CHN (mbFld sec R.MB_STATUS_STATUS) c).err PG_CHN c
      go := fun s => s.mbStart (mbAct n) sec }
/-- GO of a mailbox, written by software. -/
def mbGoAct : Bool → Act := mbAct 3

/-- MB_GO (R249): MB_CMD is written with GO. -/
def execMbGo (t : Time) (p : Port) (secure : Bool) (v : Word) (s : State) : Host.Outcome State Fault Refusal :=
  nxt t (fun s =>
    let off := if secure then 0x180 else 0x100
    s.guarded p PG_CHN off fun s => (mbGoAct secure).run (s.plainWrite (portSecure p) PG_CHN off v)) s

/-- MB_TIMEOUT (R251): no response 10 ms after GO. -/
def execMbTimeout (t : Time) (secure : Bool) (s : State) : Host.Outcome State Fault Refusal :=
  nxt t (fun s =>
    match s.mbReq.find? (fun p => p.1 == (if secure then 1 else 0)) with
    | some p => if p.2.2 + 10000000 ≤ s.walltime then s.mbDone secure TIMEOUT 0 else s
    | none => s) s

/-! Management messages (R238, R250). -/

/-- A request from the chain is carried out and answered (R250). -/
def State.serveNow (m : List Byte) (s : State) : State :=
  let sec := mTop m
  let put := mType m = 0x41
  let cnt := mle m 4 2 / 2048
  let off := mle m 8 4
  if sec && mSrc m != 0 then (s.err PG_CHN SECURE_DENIED).unicast (s.mgmtRsp m SECURE_DENIED 0 [])
  else
    let ws := bytesWords (min cnt (mb m 7 / 4)) (m.drop 12)
    let r := if put then s.writeWords mbGoAct (.chain sec) ws off else s.readWords (.chain sec) cnt off
    r.2.unicast (r.2.mgmtRsp m r.1.code r.1.done (wordBytes r.1.data))
/-- A request from the chain: it waits where a word of it does (R17, R250). -/
def State.serveMsg (m : List Byte) (s : State) : State :=
  if !(mTop m && mSrc m != 0) && s.runWaits (mle m 8 4) (mle m 4 2 / 2048) then s.holdAcc (.message m) else s.serveNow m

/-- A response completes the mailbox request that it answers; any other is discarded (R249, R251). -/
def State.takeRsp (m : List Byte) (s : State) : State :=
  if !s.mbOf (mb m 6) (mTop m) then s
  else
    let s := if mType m = 0x42 then s.mbStore (mTop m) (bytesWords (mb m 7 / 4) (m.drop 12)) else s
    s.mbDone (mTop m) (mb m 8) (mb m 9)

/-- MGMT_READ (R250). -/
def execMgmtRead (t : Time) (portB : Bool) (m : List Byte) (s : State) : Host.Outcome State Fault Refusal :=
  nxt t (fun s => s.unicastMsg portB 0x40 m fun s => s.serveMsg m) s
/-- MGMT_WRITE (R250). -/
def execMgmtWrite (t : Time) (portB : Bool) (m : List Byte) (s : State) : Host.Outcome State Fault Refusal :=
  nxt t (fun s => s.unicastMsg portB 0x41 m fun s => s.serveMsg m) s
/-- READ_RSP (R249). -/
def execReadRsp (t : Time) (portB : Bool) (m : List Byte) (s : State) : Host.Outcome State Fault Refusal :=
  nxt t (fun s => s.unicastMsg portB 0x42 m fun s => s.takeRsp m) s
/-- WRITE_RSP (R249). -/
def execWriteRsp (t : Time) (portB : Bool) (m : List Byte) (s : State) : Host.Outcome State Fault Refusal :=
  nxt t (fun s => s.unicastMsg portB 0x43 m fun s => s.takeRsp m) s

/-! Register writes (R52 to R60). -/

/-- REGISTER_WRITE (R17, R55, R57, R60): any word of the management space, from any port. -/
def execRegisterWrite (t : Time) (p : Port) (off be : Nat) (v : Word) (s : State) : Host.Outcome State Fault Refusal :=
  nxt t (fun s => if s.portServed p && s.wordWaits off then s.holdAcc (.write p off be v) else (s.writeAt mbGoAct p off be v).2) s

/-! The secure management port (R498 to R500). -/

/-- CRC-8, polynomial 0x07: one bit shifted out. -/
def crc8Step (c : Nat) : Nat := if 128 ≤ c then (2 * c) % 256 ^^^ 0x07 else 2 * c
def crc8 (bs : List Byte) : Nat :=
  bs.foldl (fun c b => forNat 8 (fun _ x => crc8Step x) (c ^^^ b.toNat)) 0

/-- Bytes of a request, its CRC included (R498). -/
def smpLen (f : List Byte) : Nat := if mb f 0 = 0x02 then 11 + 4 * mb f 5 else 7
/-- ADDR, most significant byte first. -/
def smpAddr (f : List Byte) : Nat := ofLe (((f.drop 1).take 4).reverse)

/-- A response: 0x5A, STATUS, WORDS, the words read, CRC-8. -/
def smpReply (r : Words) : List Byte :=
  let body := [BitVec.ofNat 8 r.code, BitVec.ofNat 8 r.done] ++ wordBytes r.data
  0x5A#8 :: (body ++ [BitVec.ofNat 8 (crc8 body)])

/-- Why a whole frame performs nothing (R500). -/
def smpRefusal (f : List Byte) : Option Nat :=
  refusal [
    (crc8 (f.take (smpLen f - 1)) != mb f (smpLen f - 1), LINK_ERROR), (mb f 0 != 0x02 && mb f 0 != 0x03, BAD_OPCODE),
    (smpAddr f % 4 != 0 || 16 < mb f 5 + 1, BAD_ARG) ]

/-- The request of a frame is performed, all its words or the first `limit` of them (R499); a frame cut off before its CRC does
nothing (R500). -/
def State.smpServe (f : List Byte) (limit : Nat) (s : State) : State :=
  let n := smpLen f
  let cnt := mb f 5 + 1
  let off := smpAddr f
  if f.length < n then { s with smpOut := [] }
  else
    match smpRefusal f with
    | some c => { s with smpOut := smpReply { code := c } }
    | none =>
      let k := min cnt limit
      let r := if mb f 0 = 0x02 then s.writeWords mbGoAct .smp (bytesWords k (f.drop 6)) off else s.readWords .smp k off
      let w := if r.1.code = OK && k < cnt then { r.1 with code := TIMEOUT } else r.1
      { r.2 with smpOut := smpReply w }
/-- A frame whose words wait for the die-to-die link is in progress: 0x00 is sent until they are done (R17, R498). -/
def State.smpFrame (f : List Byte) (limit : Nat) (s : State) : State :=
  if smpLen f ≤ f.length && (smpRefusal f).isNone && s.runWaits (smpAddr f) (min (mb f 5 + 1) limit) then { s.holdAcc (.smp f limit) with smpOut := [] }
  else s.smpServe f limit

/-- SMP_READ (R498, R499). -/
def execSmpRead (t : Time) (frame : List Byte) (s : State) : Host.Outcome State Fault Refusal :=
  nxt t (fun s => s.smpFrame frame 16) s
/-- SMP_WRITE (R498, R499). -/
def execSmpWrite (t : Time) (frame : List Byte) (s : State) : Host.Outcome State Fault Refusal :=
  nxt t (fun s => s.smpFrame frame 16) s
/-- SMP_CS_EARLY_RISE (R500): SMP_CS_N rises before the CRC byte; nothing is performed. -/
def execSmpCsEarlyRise (t : Time) (s : State) : Host.Outcome State Fault Refusal :=
  nxt t (fun s => { s with smpOut := [] }) s
/-- SMP_TIMEOUT (R499): a request still unfinished after 100 µs, `words` of it done; a word that waits is not done. -/
def execSmpTimeout (t : Time) (frame : List Byte) (words : Nat) (s : State) : Host.Outcome State Fault Refusal :=
  nxt t (fun s =>
    let n := ((List.range words).takeWhile fun k => !s.wordWaits (smpAddr frame + 4 * k)).length
    { s with d2dHeld := s.d2dHeld.filter fun a => a != HeldAcc.smp frame 16 }.smpServe frame n) s

/-! The debug port (R349). -/

/-- The first DBG_ACCESS after Test-Logic-Reset. -/
def State.dbgAttach (s : State) : State :=
  if s.tapReset then s else { s with tapReset := true }.raise PG_DEBUG 0 { d6 := s.dbgEffective }

/-- An attempt without the right: `kind` 0 a read, 1 a write, 2 a halt. -/
def State.dbgDenied (p kind : Nat) (s : State) : State := s.raise PG_DEBUG 1 { d6 := p, d7 := kind }

/-- An attempt on page `p` that needs bit `r` of DBG_EFFECTIVE. -/
def State.dbgWith (r p kind : Nat) (go : State → State) (s : State) : State :=
  if bit s.dbgEffective r then go s else s.dbgDenied p kind

/-- Whether Conductor `c` runs a secure list. -/
def State.inSecureList (s : State) (c : Nat) : Bool :=
  s.lists.any fun p => qSecure p.1 && p.2.cnd == c && p.2.st != .idle

/-- A Conductor halts or runs on. -/
def State.cndHalt (c : Nat) (on : Bool) (s : State) : State :=
  let s := { s with
    haltReq := ndel s.haltReq c
    stepReq := ndel s.stepReq c }
  s.sf PG_DEBUG R.DBG_STATUS_CND_HALTED (setBit (s.gf PG_DEBUG R.DBG_STATUS_CND_HALTED) c on)

/-- The page of an offset within the register pages. -/
def dbgPage (off : Nat) : Nat := (off - 0x100000) / 0x1000 % 256

/-- Whether a DBG_ACCESS waits for the die-to-die link (R17). -/
def State.dbgWaits (s : State) (op : DbgOp) : Bool :=
  match op with
  | .read sec off => s.wordWaits off && bit s.dbgEffective (if sec then 1 else 3)
  | .write sec off _ => s.wordWaits off && bit s.dbgEffective (if sec then 0 else 2)
  | _ => false

/-- What a DBG_ACCESS does with the rights in force (R349). -/
def State.dbgOp (op : DbgOp) (s : State) : State :=
  let inPages (off : Nat) : Bool := 0x100000 ≤ off && off < 0x200000
  match op with
  | .read sec off =>
    let s := { s with reply := [0#32] }
    if !inPages off then s
    else s.dbgWith (if sec then 1 else 3) (dbgPage off) 0 fun s =>
      { (s.readBytes (.jtag sec) off 4).2 with reply := [(s.readBytes (.jtag sec) off 4).1] }
  | .write sec off v =>
    if !inPages off then s
    else s.dbgWith (if sec then 0 else 2) (dbgPage off) 1 fun s => (s.writeAt mbGoAct (.jtag sec) off 15 v).2
  | .haltCnd sec c =>
    if 8 < c then s
    else s.dbgWith (if sec then 0 else 2) (pgCnd c) 2 fun s =>
      if !sec && s.inSecureList c then { s with haltReq := nadd s.haltReq c } else s.cndHalt c true
  | .runCnd sec c => if 8 < c then s else s.dbgWith (if sec then 0 else 2) (pgCnd c) 2 fun s => s.cndHalt c false
  | .stepCnd sec c =>
    if 8 < c then s
    else s.dbgWith (if sec then 0 else 2) (pgCnd c) 2 fun s =>
      if bit (s.gf PG_DEBUG R.DBG_STATUS_CND_HALTED) c && (sec || !s.inSecureList c) then { s with stepReq := nadd s.stepReq c } else s
  | .haltGh => s.dbgWith 0 PG_SEC 2 fun s => s.sf PG_DEBUG R.DBG_STATUS_GH_HALTED 1
  | .runGh => s.dbgWith 0 PG_SEC 2 fun s => s.sf PG_DEBUG R.DBG_STATUS_GH_HALTED 0

/-- DBG_ACCESS (R349). -/
def execDbgAccess (t : Time) (op : DbgOp) (s : State) : Host.Outcome State Fault Refusal :=
  nxt t (fun s => if s.dbgAttach.dbgWaits op then { s.dbgAttach.holdAcc (.debug op) with reply := [] } else s.dbgAttach.dbgOp op) s

/-! The end of a retraining (R17). -/

/-- An access that waited is carried out. -/
def State.serveHeld (a : HeldAcc) (s : State) : State :=
  match a with
  | .write p off be v => (s.writeAt mbGoAct p off be v).2
  | .smp f limit => s.smpServe f limit
  | .mailbox sec put off cnt ws => s.mbServe mbGoAct sec put off cnt ws
  | .message m => s.serveNow m
  | .debug op => s.dbgOp op
/-- Every access that waited is carried out, in order. -/
def State.serveAllHeld (s : State) : State := forEach s.d2dHeld State.serveHeld { s with d2dHeld := [] }

/-- D2D_LINK_UP (R17, R18, R425): the accesses that waited are served. -/
def execD2dLinkUp (t : Time) (s : State) : Host.Outcome State Fault Refusal := nxt t (fun s => s.d2dUp.serveAllHeld) s

/-- D2D_LINK_DOWN (R18, R19): the accesses that waited complete with LINK_ERROR. -/
def execD2dLinkDown (t : Time) (s : State) : Host.Outcome State Fault Refusal := nxt t (fun s => s.d2dFail.serveAllHeld) s

end Sys2Proof.Machine
end

