-- ==== Sys2Proof/Machine/Image.lean ====
section
/-! DEFINITION. The configuration image (R465, R468 to R473): the check of a copy, its application, and the end of ENUMERATE
(R34, R369). -/

namespace Sys2Proof.Machine

open Sys2Proof

/-! The copy (R468 to R471). -/

/-- A little-endian field of `n` bytes of a copy, at offset `i`. -/
def imgFld (bs : List Byte) (i n : Nat) : Nat := ofLe ((bs.drop i).take n)

/-- A section: its TYPE, REQUIRED, and payload (R470). -/
structure Section where
  ty       : Nat
  required : Bool
  body     : List Byte

/-- The `n` sections that fill the bytes exactly, none with a reserved bit set; `none` where they do not (R470, R471). -/
def imgSections : Nat → List Byte → Option (List Section)
  | 0, [] => some []
  | 0, _ :: _ => none
  | n + 1, bs =>
    let h := imgFld bs 0 4
    let len := imgFld bs 4 4
    if bs.length < 8 + len || len % 4 != 0 || 131072 ≤ h then none
    else (imgSections n (bs.drop (8 + len))).map fun r =>
      { ty := h % 65536, required := bit h 16, body := (bs.drop 8).take len } :: r

/-- The sections of a copy whose header passed. -/
def imgParts (bs : List Byte) : Option (List Section) :=
  let len := imgFld bs 8 4
  let n := imgFld bs 20 2
  if n = 0 || 256 < n then none else imgSections n ((bs.drop 64).take (len - 68))

/-- Whether a section may stand in an applied copy (R465, R471). -/
def sectionOk (x : Section) : Bool :=
  if x.ty = 3 || x.ty = 4 then updOk x.body && (updWords x.body).1 = x.ty
  else x.ty = 1 || x.ty = 2 || 0x8000 ≤ x.ty || !x.required

/-- The result code of a copy: the first check that fails, 0 if none (R471). -/
def copyCode (flashOk : Bool) (bs : List Byte) : Nat :=
  let len := imgFld bs 8 4
  let unit := imgFld bs 24 8
  if !flashOk then 1
  else if imgFld bs 0 4 != 0x5452494D then 2
  else if imgFld bs 4 2 != 1 || imgFld bs 6 2 != 64 then 3
  else if len < 76 || 16777216 < len || len % 4 != 0 then 4
  else if imgFld bs 16 2 != 0x8810 || 0x0B0 < imgFld bs 18 2 then 5
  else if unit != 0 && unit != Config.unitId then 6
  else if bs.length < len || crc32 (bs.take (len - 4)) != imgFld bs (len - 4) 4 then 7
  else match imgParts bs with
    | none => 8
    | some l => if l.all sectionOk then 0 else 9

/-! Application (R472). -/

/-- A patch or microcode section is loaded (R465, R472). -/
def State.applyPatch (x : Section) (s : State) : State :=
  let v := (updWords x.body).2.1
  if x.ty = 3 then { s with ghVersion := v }.raise PG_BIST 4 { d6 := 3, d7 := v }
  else if x.ty = 4 then (forNat 9 (fun c s => { s with cndVer := fset s.cndVer c v }) s).raise PG_BIST 4 { d6 := 4, d7 := v }
  else s

/-- Whether a write to a register can have no effect: all its fields are read-only (R57). -/
def regReadOnly (p off : Nat) : Bool :=
  (match findRow (pageRows p) off with
    | some r => r.rw ||| r.w1c ||| r.rws ||| r.rwl = 0
    | none => true) && (regActs mbGoAct true p off (BitVec.allOnes 32)).isEmpty && !(pageType p = 0x0D && (off = 0x68 || off = 0x6C))

/-- A REGS write that was not applied counts, and the first is reported (R472). -/
def State.regMissed (k off : Nat) (s : State) : State :=
  let n := s.gf PG_QSPI R.QSPI_APPLY_ERR_COUNT
  let s := s.sf PG_QSPI R.QSPI_APPLY_ERR_COUNT (min 0xFFFF (n + 1))
  if n = 0 then (s.sf PG_QSPI R.QSPI_APPLY_ERR_FIRST (min 0xFFFF k)).raise PG_QSPI 1 { d6 := k, d7 := off } else s

/-- One REGS write, the `k`th of the copy, made as by the secure world (R470, R472). -/
def State.applyReg (k off : Nat) (v : Word) (s : State) : State :=
  if off < 0x100000 || 0x200000 ≤ off || off % 4 != 0 then s.regMissed k off
  else match s.writeAt mbGoAct .smp off 15 v with
    | (some _, s) => s.regMissed k off
    | (none, s) => if regReadOnly ((off - 0x100000) / 0x1000) ((off - 0x100000) % 0x1000) then s.regMissed k off else s

/-- The offsets and values of a copy's REGS sections. -/
def pairs : List Word → List (Nat × Word)
  | a :: v :: r => (a.toNat, v) :: pairs r
  | _ => []
def regPairs (l : List Section) : List (Nat × Word) :=
  l.flatMap fun x => if x.ty = 1 then pairs (bytesWords (x.body.length / 4) x.body) else []

/-- The REGS writes are made in order. -/
def State.applyRegs : Nat → List (Nat × Word) → State → State
  | _, [], s => s
  | k, x :: r, s => State.applyRegs (k + 1) r (s.applyReg k x.1 x.2)

/-- Every page with a shadow commits. -/
def State.applyCommits (s : State) : State :=
  forEach (allPages.filter fun p => bit (pageCaps p) 3) (fun p s => (s.commitGo p).commitNow p) s

/-- The values that the image gave "cfg" fields are remembered (R341, R473). -/
def State.rememberCfg (l : List (Nat × Word)) (s : State) : State :=
  forEach l (fun x s => { s with img := fset s.img x.1 (s.rd x.1) }) s

/-- The stored baselines (R470). -/
def State.storeBases (l : List Section) (s : State) : State :=
  let ws := l.flatMap fun x => if x.ty = 2 then bytesWords (x.body.length / 4) x.body else []
  forEach ws (fun w s =>
    let k := if bits w 26 1 = 1 then nodeKey (bits w 21 5) (bits w 16 5) else bits w 16 5
    { s with tchStored := fset s.tchStored k (bits w 0 16) }) s

/-- The boot set point is taken (R369). -/
def State.bootSetPoint (s : State) : State :=
  let sp := s.gf 14 R.MEM_FREQ_TARGET
  if !bit (s.gf 14 R.MEM_FREQ_VALID) sp then s.sfUnit R.MEM_FREQ_RESULT NO_RESOURCE
  else if sp = s.gf 14 R.MEM_FREQ_CURRENT || s.tf 14 R.MEM_FREQ_BUSY then s else (s.freqStart sp).freqEnd sp

/-- The copy that passed is applied, and CONFIGURE entered (R34, R472). -/
def State.applyImage (copyB : Bool) (bs : List Byte) (s : State) : State :=
  let l := (imgParts bs).getD []
  let s := s.keepTimes
  let s := forEach l (fun x s => s.applyPatch x) s
  let s := (s.applyRegs 0 (regPairs l)).applyCommits
  let s := (s.rememberCfg (regPairs l)).storeBases l
  let s := (s.sf PG_QSPI R.QSPI_SEQ_SEQUENCE (imgFld bs 12 4)).sf PG_SYS R.SYS_STATE_CFG_COPY (if copyB then 2 else 1)
  let s := if copyB then s.raise PG_QSPI 2 { d6 := s.gf PG_QSPI R.QSPI_STATUS_CHECK_A } else s
  (s.bootSetPoint.modeEnter CONFIGURE).modeFollow

/-- Both copies failed: the factory defaults stand, and FALLBACK is entered (R34). -/
def State.fallback (s : State) : State :=
  let s := (s.sf PG_SYS R.SYS_STATE_CFG_DEFAULTED 1).raise PG_SYS 1
    { d6 := s.gf PG_QSPI R.QSPI_STATUS_CHECK_A, d7 := s.gf PG_QSPI R.QSPI_STATUS_CHECK_B }
  (s.bootSetPoint.modeEnter FALLBACK).modeFollow

/-- COPY_CHECK_DONE (R34, R471, R472): copy A is checked first, copy B only after A failed. -/
def execCopyCheckDone (t : Time) (copyB flashOk : Bool) (bytes : List Byte) (s : State) : Host.Outcome State Fault Refusal :=
  nxt t (fun s =>
    if s.mode != ENUMERATE || s.jtagHold || copyB != (s.gf PG_QSPI R.QSPI_STATUS_CHECK_A != 0) then s
    else
      let c := copyCode flashOk bytes
      let s := s.sf PG_QSPI (if copyB then R.QSPI_STATUS_CHECK_B else R.QSPI_STATUS_CHECK_A) c
      if c = 0 then s.applyImage copyB bytes else if copyB then s.fallback else s) s

end Sys2Proof.Machine
end

