-- ==== Sys2Proof/Machine/Monitor.lean ====
section
/-! DEFINITION. Supplies, temperature and GPIO edges (chapter 16). -/

namespace Sys2Proof.Machine

open Sys2Proof

/-- The tolerance band of rail `r` in mV (R485, R504); a VDDIO bank runs at the voltage it sensed (R484). -/
def State.railBand (s : State) (r : Nat) : Nat × Nat :=
  if r = 7 then (3000, 5500)
  else if r < 7 then
    let nominal := [750, 800, 500, 1050, 850, 1200, 3300].getD r 0
    let tol := if r = 6 then 5 else 3
    ((nominal * (100 - tol) + 99) / 100, nominal * (100 + tol) / 100)
  else if s.bank33.contains (r - 8) then (3135, 3465) else (1710, 1890)

/-- A rail's reading (R504): RAIL_FAULT once for each entry into being out of range. -/
def State.railSample (r mv : Nat) (s : State) : State :=
  let low := decide (mv < (s.railBand r).1)
  let high := decide ((s.railBand r).2 < mv)
  let was := bit (s.gf PG_MON R.MON_STATUS_RAIL_OUT) r
  let s := ((s.sf PG_MON (R.MON_RAIL_MV r) (min mv 8191)).sf PG_MON (R.MON_RAIL_LOW r) (if low then 1 else 0)).sf PG_MON
    (R.MON_RAIL_HIGH r) (if high then 1 else 0)
  let s := s.sf PG_MON R.MON_STATUS_RAIL_OUT (setBit (s.gf PG_MON R.MON_STATUS_RAIL_OUT) r (low || high))
  if (low || high) && !was then (s.bump PG_MON (R.MON_RAIL_FAULTS r) 1).raise PG_MON 0 { d6 := r, d7 := mv } else s

/-- A sensor's reading, in °C plus 40. -/
def State.tempSample (k temp : Nat) (s : State) : State :=
  let v := min temp 255
  (s.sf PG_MON (R.MON_TEMP_TEMP k) v).sf PG_MON (R.MON_TEMP_MAX k) (max v (s.gf PG_MON (R.MON_TEMP_MAX k)))

/-- The hottest sensor (R502), the lowest where several read the same. -/
def State.hotSensor (s : State) : Nat :=
  ((List.range 6).find? fun k => s.gf PG_MON (R.MON_TEMP_TEMP k) = s.gf PG_MON R.MON_STATUS_TJ).getD 0

/-- A temperature event (R506): its words are the sensor and the temperature in °C. -/
def State.tempEvent (b : Nat) (s : State) : State :=
  s.raise PG_MON b { d6 := s.hotSensor, d7 := ofInt 32 ((s.gf PG_MON R.MON_STATUS_TJ : Int) - 40) }

/-- Tj follows the sensors, and ALERT follows Tj (R502, R503). -/
def State.tjFollow (s : State) : State :=
  let tj := (List.range 6).foldl (fun m k => max m (s.gf PG_MON (R.MON_TEMP_TEMP k))) 0
  let s := s.sf PG_MON R.MON_STATUS_TJ tj
  let alert := s.gf PG_MON R.MON_TEMP_CFG_ALERT
  let s := { s with hotSince := if tj + s.gf PG_MON R.MON_TEMP_CFG_HYST < alert then some (s.hotSince.getD s.walltime) else none }
  if alert ≤ tj && !s.tf PG_MON R.MON_STATUS_ALERT then (s.sf PG_MON R.MON_STATUS_ALERT 1).tempEvent 1 else s

/-- Whether MON measures: in RUN, and on the companion die's own while the die-to-die link is down (R18). -/
def State.monRuns (s : State) : Bool := s.pstate PG_MON = pRUN || s.r18State PG_MON = some pRUN

/-- MON_SAMPLE (R502 to R504): the readings of the 13 rails in mV and of the six sensors in °C plus 40. -/
def execMonSample (t : Time) (mv temps : List Nat) (s : State) : Host.Outcome State Fault Refusal :=
  nxt t (fun s =>
    if !s.monRuns then s
    else
      let s := forNat 13 (fun r s => s.railSample r (mv.getD r 0)) s
      (forNat 6 (fun k s => s.tempSample k (temps.getD k 0)) s).tjFollow) s

/-- TEMP_NORMAL_TIMER (R503). -/
def execTempNormalTimer (t : Time) (s : State) : Host.Outcome State Fault Refusal :=
  nxt t (fun s =>
    match s.hotSince with
    | none => s
    | some c =>
      if s.monRuns && s.tf PG_MON R.MON_STATUS_ALERT && decide (c + 1000000000 ≤ s.walltime) then
        (s.sf PG_MON R.MON_STATUS_ALERT 0).tempEvent 2
      else s) s

/-- SUPPLY_UNDERVOLT (R489, R503): only VDD_CORE, VDD_SRAM and VDDA_COMP hold the unit in reset; the last clears TRIPPED. -/
def execSupplyUndervolt (t : Time) (rail : Nat) (s : State) : Host.Outcome State Fault Refusal :=
  nxtReset t (fun u => if rail ≤ 1 || rail = 6 then nadd u.rstHold (1 + rail) else u.rstHold) (fun _ v =>
    if rail = 6 then (v.sf PG_MON R.MON_STATUS_TRIPPED 0).inReset else if rail ≤ 1 then v.inReset else v) s

/-- SUPPLY_RESET_RELEASE (R489): the supplies have been in range for 1 ms. -/
def execSupplyResetRelease (t : Time) (s : State) : Host.Outcome State Fault Refusal :=
  nxtReset t (fun u => u.rstHold.filter fun w => w = 0 || w = 20) State.endReset s

/-- THERMAL_TRIP (R489, R503). -/
def execThermalTrip (t : Time) (s : State) : Host.Outcome State Fault Refusal :=
  nxtReset t (fun u => nadd u.rstHold 20) (fun _ v => (v.sf PG_MON R.MON_STATUS_TRIPPED 1).inReset) s

/-- THERMAL_TRIP_END (R503): every sensor reads below 125 °C. -/
def execThermalTripEnd (t : Time) (s : State) : Host.Outcome State Fault Refusal :=
  nxtReset t (fun u => u.rstHold.filter fun w => w != 20) State.endReset s

/-- GPIO_EDGE (R505): an edge held stable for 1 µs; the record's world and instance are those of the pin's bank. -/
def execGpioEdge (t : Time) (pin : Nat) (rising : Bool) (s : State) : Host.Outcome State Fault Refusal :=
  nxt t (fun s =>
    if 32 ≤ pin then s
    else
      let s := s.sf PG_GPIO R.GPIO_IN_LEVEL (setBit (s.gf PG_GPIO R.GPIO_IN_LEVEL) pin rising)
      if s.pstate PG_GPIO = pRUN && bit (s.gf PG_GPIO (if rising then R.GPIO_EDGE_EN_RISE else R.GPIO_EDGE_EN_F_FALL)) pin then
        s.blkRaise PG_GPIO 0 (s.gpioOwner (pin / 8)) { d6 := pin, d7 := if rising then 1 else 0 }
      else s) s

end Sys2Proof.Machine
end

