-- ==== Sys2Proof/Machine/Pages.lean ====
section
/-! DEFINITION. Register pages, events, commits and journals (chapter 02). -/

namespace Sys2Proof.Machine

open Sys2Proof

/-- PAGE_ENABLE (R61). -/
def execPageEnable (t : Time) (p : Port) (page : Nat) (s : State) : Host.Outcome State Fault Refusal :=
  nxt t (fun s => s.ctrlGuarded p page true (enableAct page).run) s

/-- PAGE_DISABLE (R61, R66, R346). -/
def execPageDisable (t : Time) (p : Port) (page : Nat) (s : State) : Host.Outcome State Fault Refusal :=
  nxt t (fun s => s.ctrlGuarded p page false (disableAct page).run) s

/-- A QUIESCE request of the same SYS cycle is decided first, so that it wins over a block's request (R42). -/
def State.sameCycle (q : Option Port) (s : State) : State :=
  match q with
  | some q => s.guarded q PG_SYS 0x44 (modeAct (portSecure q) QUIESCE).run
  | none => s

/-- SERVICE_REQ_SET (R42, R61, R62), with a QUIESCE request that reaches SYS in the same cycle, from the port that makes it. -/
def execServiceReqSet (t : Time) (p : Port) (req : SvcReq) (s : State) : Host.Outcome State Fault Refusal :=
  nxt t (fun s => (s.sameCycle req.quiesce).guarded p req.page 0x08 (svcAct req.page false true).run) s

/-- SERVICE_REQ_CLEAR (R61, R62). -/
def execServiceReqClear (t : Time) (p : Port) (page : Nat) (s : State) : Host.Outcome State Fault Refusal :=
  nxt t (fun s => s.guarded p page 0x08 (svcAct page false false).run) s

/-- TEST_REQ_SET (R42, R61, R62), with a QUIESCE request of the same SYS cycle. -/
def execTestReqSet (t : Time) (p : Port) (req : SvcReq) (s : State) : Host.Outcome State Fault Refusal :=
  nxt t (fun s => (s.sameCycle req.quiesce).guarded p req.page 0x08 (svcAct req.page true true).run) s

/-- TEST_REQ_CLEAR (R61, R62, R452). -/
def execTestReqClear (t : Time) (p : Port) (page : Nat) (s : State) : Host.Outcome State Fault Refusal :=
  nxt t (fun s => s.guarded p page 0x08 (svcAct page true false).run) s

/-- SOFT_RESET (R10, R61, R66). -/
def execSoftReset (t : Time) (p : Port) (page : Nat) (s : State) : Host.Outcome State Fault Refusal :=
  nxt t (fun s => s.guarded p page 0x08 (softAct page).run) s

/-- CLR_COUNTS (register PAGE_CTRL). -/
def execClrCounts (t : Time) (p : Port) (page : Nat) (s : State) : Host.Outcome State Fault Refusal :=
  nxt t (fun s => s.guarded p page 0x08 (clrAct page).run) s

/-- BLOCK_INIT_DONE (R61, R455). -/
def execBlockInitDone (t : Time) (page : Nat) (s : State) : Host.Outcome State Fault Refusal :=
  nxt t (fun s => if pageExists page then s.initDone page else s) s

/-- EVT_STATUS_CLEAR (R57, R60, R70): the occurrences of the same cycle come after the clear, so that they win. -/
def execEvtStatusClear (t : Time) (p : Port) (page : Nat) (mask : Word) (race : List Occ) (s : State) :
    Host.Outcome State Fault Refusal :=
  nxt t (fun s =>
    let s := s.guardedW p page 0x14 mask (evtClearAct page mask).run
    if pageExists page then
      forEach (race.filter fun o => o.bit < 32) (fun o s => s.raise page o.bit { status := o.status, d6 := o.d6, d7 := o.d7, frame := o.frame, inst := o.inst }) s
    else s) s

/-- EVT_ENABLE_WRITE (R68). -/
def execEvtEnableWrite (t : Time) (p : Port) (page : Nat) (v : Word) (s : State) : Host.Outcome State Fault Refusal :=
  nxt t (fun s => s.guardedW p page 0x18 v (evtEnableAct page v).run) s

/-- ERR_CAPTURE_CLEAR (R70, R76): an error of the same cycle, with its code and DETAIL, comes after the clear. -/
def execErrCaptureClear (t : Time) (p : Port) (page : Nat) (race : Option (Nat × Nat)) (s : State) :
    Host.Outcome State Fault Refusal :=
  nxt t (fun s =>
    let s := s.guardedW p page 0x20 0x80000000#32 (errClearAct page).run
    match race with
    | some (code, detail) => if pageExists page then s.errWith page code detail else s
    | none => s) s

/-- LOCK_SET (R60). -/
def execLockSet (t : Time) (p : Port) (page : Nat) (s : State) : Host.Outcome State Fault Refusal :=
  nxt t (fun s => s.guarded p page 0x3C (lockAct page).run) s

/-- COMMIT_GO (R63, R65). -/
def execCommitGo (t : Time) (p : Port) (page : Nat) (s : State) : Host.Outcome State Fault Refusal :=
  nxt t (fun s => s.guardedW p page 0x30 1#32 (commitAct page).run) s

/-- COMMIT_ABORT (R57). -/
def execCommitAbort (t : Time) (p : Port) (page : Nat) (s : State) : Host.Outcome State Fault Refusal :=
  nxt t (fun s => s.guardedW p page 0x30 2#32 (abortAct page).run) s

/-- COMMIT_APPLY (R63, R64, R66): the commit point that is not a vertical blank. -/
def execCommitApply (t : Time) (page : Nat) (s : State) : Host.Outcome State Fault Refusal :=
  nxt t (fun s => if pageExists page then s.commitNow page else s) s

/-- JRN_ENABLE (R79): a write of JRN_CTRL on a journal page. -/
def execJrnEnable (t : Time) (p : Port) (page : Nat) (v : Word) (s : State) : Host.Outcome State Fault Refusal :=
  nxt t (fun s => if page = PG_JRN_N || page = PG_JRN_S then s.guarded p page 0x48 (jrnCtrlAct page v).run else s) s

/-- JRN_RD_WRITE (R80). -/
def execJrnRdWrite (t : Time) (p : Port) (page : Nat) (v : Word) (s : State) : Host.Outcome State Fault Refusal :=
  nxt t (fun s => if page = PG_JRN_N || page = PG_JRN_S then s.guarded p page 0x50 (jrnRdAct page v).run else s) s

end Sys2Proof.Machine
end

