-- ==== Sys2Proof/Machine/SelfTest.lean ====
section
/-! DEFINITION. Self-test, Conductor substitution, updates and the boot flash (chapter 15): the commands. -/

namespace Sys2Proof.Machine

open Sys2Proof

/-- A write of BIST_CMD with GO and kind `k`: PAGE, UNIT and KIND are stored, then the test is requested (R449). -/
def State.bistWrite (p : Port) (k : Nat) (v : Word) (s : State) : State :=
  s.guarded p PG_BIST 0x40 (fun s =>
    let s := s.plainWrite (portSecure p) PG_BIST 0x40 (putBits v 16 4 k)
    (bistGoAct (portSecure p) (bits v 0 8) (bits v 8 8) k).run s)

/-- BIST_SRAM_MARCH (R449, R456). -/
def execBistSramMarch (t : Time) (p : Port) (v : Word) (s : State) : Host.Outcome State Fault Refusal :=
  nxt t (fun s => s.bistWrite p 0 v) s

/-- BIST_DRAM_MARCH (R449, R457). -/
def execBistDramMarch (t : Time) (p : Port) (v : Word) (s : State) : Host.Outcome State Fault Refusal :=
  nxt t (fun s => s.bistWrite p 1 v) s

/-- BIST_DP_LOOPBACK (R449, R459, R460). -/
def execBistDpLoopback (t : Time) (p : Port) (v : Word) (s : State) : Host.Outcome State Fault Refusal :=
  nxt t (fun s => s.bistWrite p 2 v) s

/-- BIST_PIXEL_PLL (R449, R459, R460). -/
def execBistPixelPll (t : Time) (p : Port) (v : Word) (s : State) : Host.Outcome State Fault Refusal :=
  nxt t (fun s => s.bistWrite p 3 v) s

/-- BIST_CHAIN_LOOPBACK (R449, R451, R459, R460). -/
def execBistChainLoopback (t : Time) (p : Port) (v : Word) (s : State) : Host.Outcome State Fault Refusal :=
  nxt t (fun s => s.bistWrite p 4 v) s

/-- BIST_TOUCH_REF (R449, R459, R460). -/
def execBistTouchRef (t : Time) (p : Port) (v : Word) (s : State) : Host.Outcome State Fault Refusal :=
  nxt t (fun s => s.bistWrite p 5 v) s

/-- BIST_HAPTIC_BRIDGE (R449, R459, R460). -/
def execBistHapticBridge (t : Time) (p : Port) (v : Word) (s : State) : Host.Outcome State Fault Refusal :=
  nxt t (fun s => s.bistWrite p 6 v) s

/-- BIST_TDM_LOOPBACK (R449, R451, R459, R460). -/
def execBistTdmLoopback (t : Time) (p : Port) (v : Word) (s : State) : Host.Outcome State Fault Refusal :=
  nxt t (fun s => s.bistWrite p 7 v) s

/-- BIST_TEMP_SENSORS (R449, R459, R460). -/
def execBistTempSensors (t : Time) (p : Port) (v : Word) (s : State) : Host.Outcome State Fault Refusal :=
  nxt t (fun s => s.bistWrite p 8 v) s

/-- BIST_ABORT (R452). -/
def execBistAbort (t : Time) (p : Port) (s : State) : Host.Outcome State Fault Refusal :=
  nxt t (fun s => s.guarded p PG_BIST 0x40 bistAbortAct.run) s

/-- BIST_ATTEMPT_DONE (R452, R456, R457, R460). -/
def execBistAttemptDone (t : Time) (r : BistRes) (s : State) : Host.Outcome State Fault Refusal :=
  nxt t (fun s => s.bistAttempt r) s

/-- SRAM_SOFT_REPAIR_DONE (R454, R455). -/
def execSramSoftRepairDone (t : Time) (needs : List (Nat × Nat × Nat)) (s : State) : Host.Outcome State Fault Refusal :=
  nxt t (fun s => s.softRepair needs) s

/-- TG_ENABLE (R458): BIST_TG_CTRL written with EN 1. -/
def execTgEnable (t : Time) (p : Port) (v : Word) (s : State) : Host.Outcome State Fault Refusal :=
  nxt t (fun s => s.guarded p PG_BIST 0x70 (fun s =>
    (tgAct (portSecure p) true).run
      (s.plainWrite (portSecure p) PG_BIST 0x70 (putBits v 0 1 (s.gf PG_BIST R.BIST_TG_CTRL_EN))))) s

/-- TG_DISABLE (R458). -/
def execTgDisable (t : Time) (p : Port) (s : State) : Host.Outcome State Fault Refusal :=
  nxt t (fun s => s.guarded p PG_BIST 0x70 (tgAct (portSecure p) false).run) s

/-- TG_WINDOW (R44, R458). -/
def execTgWindow (t : Time) (mbps : Nat) (s : State) : Host.Outcome State Fault Refusal :=
  nxt t (fun s => s.tgWindowEnds mbps) s

/-- CND_SUBST_GO (R463). -/
def execCndSubstGo (t : Time) (p : Port) (v : Word) (s : State) : Host.Outcome State Fault Refusal :=
  nxt t (fun s => s.guarded p PG_BIST 0x94 (fun s =>
    (substCndAct (bits v 0 4)).run (s.plainWrite (portSecure p) PG_BIST 0x94 v))) s

/-- CND_SUBST_DONE (R463). -/
def execCndSubstDone (t : Time) (s : State) : Host.Outcome State Fault Refusal := nxt t State.substCndDone s

/-- CND_FAULT (R464). -/
def execCndFault (t : Time) (c : Nat) (s : State) : Host.Outcome State Fault Refusal :=
  nxt t (fun s => if c < 9 then s.faultPage (pgCnd c) MEM_ERROR else s) s

/-- A write of BIST_UPD_CTRL with GO (R465). -/
def State.updWrite (p : Port) (k : Nat) (v : Word) (s : State) : State :=
  s.guarded p PG_BIST 0xA4 (fun s =>
    (updAct k (bits v 8 4)).run (s.plainWrite (portSecure p) PG_BIST 0xA4 (putBits v 0 3 k)))

/-- UPDATE_GH_PATCH (R465, R466). -/
def execUpdateGhPatch (t : Time) (p : Port) (v : Word) (s : State) : Host.Outcome State Fault Refusal :=
  nxt t (fun s => s.updWrite p 3 v) s

/-- UPDATE_CND_UCODE (R465, R467). -/
def execUpdateCndUcode (t : Time) (p : Port) (v : Word) (s : State) : Host.Outcome State Fault Refusal :=
  nxt t (fun s => s.updWrite p 4 v) s

/-- UPDATE_APPLY_DONE (R466, R467). -/
def execUpdateApplyDone (t : Time) (s : State) : Host.Outcome State Fault Refusal := nxt t State.updDone s

/-- A write of QSPI_OP with GO (R477). -/
def State.qspiWrite (p : Port) (op : Nat) (v : Word) (s : State) : State :=
  s.guardedW p PG_QSPI 0x50 (putBits v 0 2 op ||| 0x80000000#32) (fun s =>
    (qspiAct (portSecure p) op (bits v 8 9)).run (s.plainWrite (portSecure p) PG_QSPI 0x50 (putBits v 0 2 op)))

/-- QSPI_READ (R477). -/
def execQspiRead (t : Time) (p : Port) (v : Word) (s : State) : Host.Outcome State Fault Refusal :=
  nxt t (fun s => s.qspiWrite p 0 v) s

/-- QSPI_PROGRAM (R477). -/
def execQspiProgram (t : Time) (p : Port) (v : Word) (s : State) : Host.Outcome State Fault Refusal :=
  nxt t (fun s => s.qspiWrite p 1 v) s

/-- QSPI_ERASE (R477). -/
def execQspiErase (t : Time) (p : Port) (v : Word) (s : State) : Host.Outcome State Fault Refusal :=
  nxt t (fun s => s.qspiWrite p 2 v) s

/-- QSPI_OP_COMPLETE (R477). -/
def execQspiOpComplete (t : Time) (data : List Byte) (s : State) : Host.Outcome State Fault Refusal :=
  nxt t (fun s => s.qspiEnds OK data) s

/-- QSPI_OP_TIMEOUT (R477): 2 s after the operation began. -/
def execQspiOpTimeout (t : Time) (s : State) : Host.Outcome State Fault Refusal :=
  nxt t (fun s => if s.qspiAt + 2000000000 ≤ s.walltime then s.qspiEnds TIMEOUT [] else s) s

end Sys2Proof.Machine
end

