-- ==== Sys2Proof/Machine/System.lean ====
section
/-! DEFINITION. Modes, reset and the die-to-die link (chapter 01): RESET_N, DEVICE_RESET, mode requests, QUIESCE, the link. -/

namespace Sys2Proof.Machine

open Sys2Proof

/-- RESET_N_RELEASE (R36, R483, R484, R490). -/
def execResetNRelease (t : Time) (strapMaster : Bool) (banks : List Nat) (s : State) : Host.Outcome State Fault Refusal :=
  nxtReset t (fun u => ndel u.rstHold 0) (State.resetRises strapMaster banks) s

/-- RESET_N_ASSERT (R490): below 0.5 µs ignored; from 0.5 to 1 µs the manual leaves it open, and a free value decides. -/
def execResetNAssert (t : Time) (lowNs : Nat) (s : State) : Host.Outcome State Fault Refusal :=
  let long (u : State) : Bool := 1000 ≤ lowNs || (500 ≤ lowNs && u.free.toNat % 2 = 1)
  nxtReset t (fun u => if long u then nadd u.rstHold 0 else u.rstHold) (fun u v =>
    let v := if 500 ≤ lowNs && lowNs < 1000 then v.useFree else v
    if long u then v.inReset else v) s

/-- DEVICE_RESET (R34, R36). -/
def execDeviceReset (t : Time) (p : Port) (s : State) : Host.Outcome State Fault Refusal :=
  nxt t (fun s => s.guarded p PG_SYS 0x48 deviceResetAct.run) s

/-- MODE_REQ_RUN (R34, R41). -/
def execModeReqRun (t : Time) (p : Port) (s : State) : Host.Outcome State Fault Refusal :=
  nxt t (fun s => s.guarded p PG_SYS 0x44 (modeAct (portSecure p) RUNMODE).run) s

/-- MODE_REQ_QUIESCE (R34, R38, R39, R41). -/
def execModeReqQuiesce (t : Time) (p : Port) (s : State) : Host.Outcome State Fault Refusal :=
  nxt t (fun s => s.guarded p PG_SYS 0x44 (modeAct (portSecure p) QUIESCE).run) s

/-- MODE_REQ_CONFIGURE (R34, R40, R41, R378). -/
def execModeReqConfigure (t : Time) (p : Port) (s : State) : Host.Outcome State Fault Refusal :=
  nxt t (fun s => s.guarded p PG_SYS 0x44 (modeAct (portSecure p) CONFIGURE).run) s

/-- QUIESCE_LIST_CANCEL (R39). -/
def execQuiesceListCancel (t : Time) (s : State) : Host.Outcome State Fault Refusal := nxt t State.quiesceCancel s

/-- WRITE_BUFFER_DRAINED (R39, R378). -/
def execWriteBufferDrained (t : Time) (s : State) : Host.Outcome State Fault Refusal := nxt t State.quiesceDone s

/-- SEC_READY_WRITE (R34). -/
def execSecReadyWrite (t : Time) (p : Port) (v : Bool) (s : State) : Host.Outcome State Fault Refusal :=
  nxt t (fun s => s.guarded p PG_SYS 0x48 (secReadyAct v).run) s

/-- D2D_TRANSFER_ERROR (R16, R17). -/
def execD2dTransferError (t : Time) (consecutive : Nat) (s : State) : Host.Outcome State Fault Refusal :=
  nxt t (fun s => s.d2dReplay consecutive) s

/-- D2D_RETRAIN_TIMER (R19): a retraining starts; its outcome is D2D_LINK_UP or D2D_LINK_DOWN. -/
def execD2dRetrainTimer (t : Time) (s : State) : Host.Outcome State Fault Refusal := nxt t State.d2dRetry s

end Sys2Proof.Machine
end

