-- ==== Sys2Proof/Machine/Dispatch.lean ====
section
/-! DEFINITION. One arm per command: the call of its meaning. -/

namespace Sys2Proof.Machine

open Sys2Proof

def exec (i : Instr) (s : State) : Host.Outcome State Fault Refusal :=
  match i with
  -- Modes and the die-to-die link (chapter 01)
  | .resetNRelease t strapMaster banks => Sys2Proof.Machine.execResetNRelease t strapMaster banks s
  | .resetNAssert t lowNs => Sys2Proof.Machine.execResetNAssert t lowNs s
  | .deviceReset t p => Sys2Proof.Machine.execDeviceReset t p s
  | .copyCheckDone t copyB flashOk bytes => Sys2Proof.Machine.execCopyCheckDone t copyB flashOk bytes s
  | .modeReqRun t p => Sys2Proof.Machine.execModeReqRun t p s
  | .modeReqQuiesce t p => Sys2Proof.Machine.execModeReqQuiesce t p s
  | .modeReqConfigure t p => Sys2Proof.Machine.execModeReqConfigure t p s
  | .quiesceListCancel t => Sys2Proof.Machine.execQuiesceListCancel t s
  | .writeBufferDrained t => Sys2Proof.Machine.execWriteBufferDrained t s
  | .secReadyWrite t p v => Sys2Proof.Machine.execSecReadyWrite t p v s
  | .d2dTransferError t consecutive => Sys2Proof.Machine.execD2dTransferError t consecutive s
  | .d2dLinkUp t => Sys2Proof.Machine.execD2dLinkUp t s
  | .d2dLinkDown t => Sys2Proof.Machine.execD2dLinkDown t s
  | .d2dRetrainTimer t => Sys2Proof.Machine.execD2dRetrainTimer t s
  | .timeSetGo t p => Sys2Proof.Machine.execTimeSetGo t p s
  -- Register pages, events, commits and journals (chapter 02)
  | .pageEnable t p page => Sys2Proof.Machine.execPageEnable t p page s
  | .pageDisable t p page => Sys2Proof.Machine.execPageDisable t p page s
  | .serviceReqSet t p req => Sys2Proof.Machine.execServiceReqSet t p req s
  | .serviceReqClear t p page => Sys2Proof.Machine.execServiceReqClear t p page s
  | .testReqSet t p req => Sys2Proof.Machine.execTestReqSet t p req s
  | .testReqClear t p page => Sys2Proof.Machine.execTestReqClear t p page s
  | .softReset t p page => Sys2Proof.Machine.execSoftReset t p page s
  | .clrCounts t p page => Sys2Proof.Machine.execClrCounts t p page s
  | .blockInitDone t page => Sys2Proof.Machine.execBlockInitDone t page s
  | .evtStatusClear t p page mask race => Sys2Proof.Machine.execEvtStatusClear t p page mask race s
  | .evtEnableWrite t p page v => Sys2Proof.Machine.execEvtEnableWrite t p page v s
  | .errCaptureClear t p page race => Sys2Proof.Machine.execErrCaptureClear t p page race s
  | .lockSet t p page => Sys2Proof.Machine.execLockSet t p page s
  | .commitGo t p page => Sys2Proof.Machine.execCommitGo t p page s
  | .commitAbort t p page => Sys2Proof.Machine.execCommitAbort t p page s
  | .commitApply t page => Sys2Proof.Machine.execCommitApply t page s
  | .registerWrite t p off be v => Sys2Proof.Machine.execRegisterWrite t p off be v s
  | .jrnEnable t p page v => Sys2Proof.Machine.execJrnEnable t p page v s
  | .jrnRdWrite t p page v => Sys2Proof.Machine.execJrnRdWrite t p page v s
  -- Command lists (chapter 03): q names the submit ring whose list the command belongs to
  | .listStart t c q slot words => Sys2Proof.Machine.execListStart t c q slot words s
  | .nop t q => Sys2Proof.Machine.execNop t q s
  | .endList t q => Sys2Proof.Machine.execEndList t q s
  | .setSurface t q => Sys2Proof.Machine.execSetSurface t q s
  | .retireSurface t q => Sys2Proof.Machine.execRetireSurface t q s
  | .surfaceRetired t idx head => Sys2Proof.Machine.execSurfaceRetired t idx head s
  | .setPlane t q => Sys2Proof.Machine.execSetPlane t q s
  | .flip t q => Sys2Proof.Machine.execFlip t q s
  | .flipWall t q => Sys2Proof.Machine.execFlipWall t q s
  | .waitFrame t q => Sys2Proof.Machine.execWaitFrame t q s
  | .waitTime t q => Sys2Proof.Machine.execWaitTime t q s
  | .waitTimeReached t q => Sys2Proof.Machine.execWaitTimeReached t q s
  | .waitTimeout t q => Sys2Proof.Machine.execWaitTimeout t q s
  | .writeStamp t q => Sys2Proof.Machine.execWriteStamp t q s
  | .fenceSignal t q => Sys2Proof.Machine.execFenceSignal t q s
  | .fenceWait t q => Sys2Proof.Machine.execFenceWait t q s
  | .upload t q => Sys2Proof.Machine.execUpload t q s
  | .fill t q => Sys2Proof.Machine.execFill t q s
  | .copyRect t q => Sys2Proof.Machine.execCopyRect t q s
  | .dmaChunkDone t chan id data => Sys2Proof.Machine.execDmaChunkDone t chan id data s
  | .setRegionAge t q => Sys2Proof.Machine.execSetRegionAge t q s
  | .readSignature t q => Sys2Proof.Machine.execReadSignature t q s
  | .hapticPlay t q => Sys2Proof.Machine.execHapticPlay t q s
  | .audioCue t q => Sys2Proof.Machine.execAudioCue t q s
  | .mcall t q => Sys2Proof.Machine.execMcall t q s
  -- Gatehouse services and replies (chapter 10)
  | .getVersion t q => Sys2Proof.Machine.execGetVersion t q s
  | .queryBlock t q => Sys2Proof.Machine.execQueryBlock t q s
  | .queryDebug t q => Sys2Proof.Machine.execQueryDebug t q s
  | .queryWatermarks t q => Sys2Proof.Machine.execQueryWatermarks t q s
  | .requestBlock t q => Sys2Proof.Machine.execRequestBlock t q s
  | .offerBlock t q => Sys2Proof.Machine.execOfferBlock t q s
  | .secReply t p v => Sys2Proof.Machine.execSecReply t p v s
  | .mcallTimeout t reqId => Sys2Proof.Machine.execMcallTimeout t reqId s
  | .hostReadDone t who addr err => Sys2Proof.Machine.execHostReadDone t who addr err s
  | .hostReadTimeout t who addr => Sys2Proof.Machine.execHostReadTimeout t who addr s
  -- Composition, scan-out and genlock (chapters 04 to 06)
  | .lineJobRelease t h y => Sys2Proof.Machine.execLineJobRelease t h y s
  | .spanCompose t h y span slice sram => Sys2Proof.Machine.execSpanCompose t h y span slice sram s
  | .outputLine t h y glassDelay => Sys2Proof.Machine.execOutputLine t h y glassDelay s
  | .vblankStart t h => Sys2Proof.Machine.execVblankStart t h s
  | .frameStart t h => Sys2Proof.Machine.execFrameStart t h s
  | .lockTimeout t h => Sys2Proof.Machine.execLockTimeout t h s
  | .pllSettled t h => Sys2Proof.Machine.execPllSettled t h s
  | .genlockEdge t rising => Sys2Proof.Machine.execGenlockEdge t rising s
  | .syncSourceLost t h chain => Sys2Proof.Machine.execSyncSourceLost t h chain s
  | .sourceReturnTimer t h => Sys2Proof.Machine.execSourceReturnTimer t h s
  | .ageRelease t p h lo hi => Sys2Proof.Machine.execAgeRelease t p h lo hi s
  | .memReadDone t req addr errs mapBad => Sys2Proof.Machine.execMemReadDone t req addr errs mapBad s
  | .memReadRetryDone t req addr errs => Sys2Proof.Machine.execMemReadRetryDone t req addr errs s
  | .sliceParityError t slice inFlight => Sys2Proof.Machine.execSliceParityError t slice inFlight s
  | .plzSubstGo t p v => Sys2Proof.Machine.execPlzSubstGo t p v s
  | .arcFlush t p heads => Sys2Proof.Machine.execArcFlush t p heads s
  -- The Torfold Chain, time and the wall vote (chapter 07)
  | .chainSignalDetect t portB => Sys2Proof.Machine.execChainSignalDetect t portB s
  | .chainTrainDone t portB rxInverted delay offset => Sys2Proof.Machine.execChainTrainDone t portB rxInverted delay offset s
  | .chainTrainTimeout t portB => Sys2Proof.Machine.execChainTrainTimeout t portB s
  | .chainTrainRetry t portB => Sys2Proof.Machine.execChainTrainRetry t portB s
  | .trainMessage t rx unitId master hops peerDown peerAddr => Sys2Proof.Machine.execTrainMessage t rx unitId master hops peerDown peerAddr s
  | .chainShort t portB supply => Sys2Proof.Machine.execChainShort t portB supply s
  | .chainFaultClear t portB => Sys2Proof.Machine.execChainFaultClear t portB s
  | .chainLossOfSignal t portB => Sys2Proof.Machine.execChainLossOfSignal t portB s
  | .chainPortRetrain t p portB => Sys2Proof.Machine.execChainPortRetrain t p portB s
  | .markMsg t portB m => Sys2Proof.Machine.execMarkMsg t portB m s
  | .stepMsg t portB m => Sys2Proof.Machine.execStepMsg t portB m s
  | .timeStepApply t => Sys2Proof.Machine.execTimeStepApply t s
  | .enumMsg t portB m => Sys2Proof.Machine.execEnumMsg t portB m s
  | .addrReq t portB m => Sys2Proof.Machine.execAddrReq t portB m s
  | .addrGrant t portB m => Sys2Proof.Machine.execAddrGrant t portB m s
  | .topo t portB m => Sys2Proof.Machine.execTopo t portB m s
  | .breakMsg t portB m => Sys2Proof.Machine.execBreakMsg t portB m s
  | .readyMsg t portB m => Sys2Proof.Machine.execReadyMsg t portB m s
  | .commitMsg t portB m => Sys2Proof.Machine.execCommitMsg t portB m s
  | .deferMsg t portB m => Sys2Proof.Machine.execDeferMsg t portB m s
  | .excludeMsg t portB m => Sys2Proof.Machine.execExcludeMsg t portB m s
  | .readmitMsg t portB m => Sys2Proof.Machine.execReadmitMsg t portB m s
  | .joinMsg t portB m => Sys2Proof.Machine.execJoinMsg t portB m s
  | .withdrawMsg t portB m => Sys2Proof.Machine.execWithdrawMsg t portB m s
  | .lateCommit t portB m => Sys2Proof.Machine.execLateCommit t portB m s
  | .selfExcluded t portB m => Sys2Proof.Machine.execSelfExcluded t portB m s
  | .ackMsg t portB m => Sys2Proof.Machine.execAckMsg t portB m s
  | .nakMsg t portB m => Sys2Proof.Machine.execNakMsg t portB m s
  | .chainAckTimeout t portB => Sys2Proof.Machine.execChainAckTimeout t portB s
  | .mgmtRead t portB m => Sys2Proof.Machine.execMgmtRead t portB m s
  | .mgmtWrite t portB m => Sys2Proof.Machine.execMgmtWrite t portB m s
  | .readRsp t portB m => Sys2Proof.Machine.execReadRsp t portB m s
  | .writeRsp t portB m => Sys2Proof.Machine.execWriteRsp t portB m s
  | .mbGo t p secure v => Sys2Proof.Machine.execMbGo t p secure v s
  | .mbTimeout t secure => Sys2Proof.Machine.execMbTimeout t secure s
  | .delayProbe t portB t1 => Sys2Proof.Machine.execDelayProbe t portB t1 s
  | .delayProbeReply t portB t1 t2 t3 t4 avg freq => Sys2Proof.Machine.execDelayProbeReply t portB t1 t2 t3 t4 avg freq s
  | .enumWalk t portB => Sys2Proof.Machine.execEnumWalk t portB s
  | .markSend t => Sys2Proof.Machine.execMarkSend t s
  | .chainMarkFire t => Sys2Proof.Machine.execChainMarkFire t s
  | .wallVoteLine t group => Sys2Proof.Machine.execWallVoteLine t group s
  | .selfExclude t h => Sys2Proof.Machine.execSelfExclude t h s
  | .wallReadmitCmd t p v => Sys2Proof.Machine.execWallReadmitCmd t p v s
  | .ppsEdge t => Sys2Proof.Machine.execPpsEdge t s
  | .ppsLost t => Sys2Proof.Machine.execPpsLost t s
  | .timeMarkOutPulse t => Sys2Proof.Machine.execTimeMarkOutPulse t s
  -- DisplayPort outputs (chapter 08)
  | .hpdPlug t h terms => Sys2Proof.Machine.execHpdPlug t h terms s
  | .hpdIrq t h dpcd => Sys2Proof.Machine.execHpdIrq t h dpcd s
  | .hpdUnplug t h => Sys2Proof.Machine.execHpdUnplug t h s
  | .capsReadDone t h terms caps => Sys2Proof.Machine.execCapsReadDone t h terms caps s
  | .trainConfigDone t h cr1 cr2 eq => Sys2Proof.Machine.execTrainConfigDone t h cr1 cr2 eq s
  | .linkFailRetry t h => Sys2Proof.Machine.execLinkFailRetry t h s
  | .dplRetrain t p h => Sys2Proof.Machine.execDplRetrain t p h s
  | .auxGo t p h v => Sys2Proof.Machine.execAuxGo t p h v s
  | .auxTransactionDone t h sw addr req reply => Sys2Proof.Machine.execAuxTransactionDone t h sw addr req reply s
  | .auxReplyTimeout t h sw addr req => Sys2Proof.Machine.execAuxReplyTimeout t h sw addr req s
  | .auxDeferRetry t h sw => Sys2Proof.Machine.execAuxDeferRetry t h sw s
  | .auxShort t h kind => Sys2Proof.Machine.execAuxShort t h kind s
  | .auxFaultClear t h => Sys2Proof.Machine.execAuxFaultClear t h s
  | .laneShortDetect t h lane kind => Sys2Proof.Machine.execLaneShortDetect t h lane kind s
  | .laneShortClear t h lane => Sys2Proof.Machine.execLaneShortClear t h lane s
  | .terminationSense t h terms => Sys2Proof.Machine.execTerminationSense t h terms s
  | .panelSeqTimer t panel => Sys2Proof.Machine.execPanelSeqTimer t panel s
  -- The PCIe endpoint, instances and migration (chapter 09)
  | .perstNAssert t => Sys2Proof.Machine.execPerstNAssert t s
  | .flr t => Sys2Proof.Machine.execFlr t s
  | .pcieLinkDown t => Sys2Proof.Machine.execPcieLinkDown t s
  | .pcieLinkUp t speed width => Sys2Proof.Machine.execPcieLinkUp t speed width s
  | .doorbellWrite t inst r v => Sys2Proof.Machine.execDoorbellWrite t inst r v s
  | .winEvtRdWrite t inst v => Sys2Proof.Machine.execWinEvtRdWrite t inst v s
  | .winApertureWrite t inst v => Sys2Proof.Machine.execWinApertureWrite t inst v s
  | .apertureAccess t inst off len wdata => Sys2Proof.Machine.execApertureAccess t inst off len wdata s
  | .instEntryWrite t p inst w v => Sys2Proof.Machine.execInstEntryWrite t p inst w v s
  | .instOpen t p inst => Sys2Proof.Machine.execInstOpen t p inst s
  | .instActivate t p inst => Sys2Proof.Machine.execInstActivate t p inst s
  | .instReset t p inst => Sys2Proof.Machine.execInstReset t p inst s
  | .instClose t p inst => Sys2Proof.Machine.execInstClose t p inst s
  | .instSuspend t p inst => Sys2Proof.Machine.execInstSuspend t p inst s
  | .instResume t p inst => Sys2Proof.Machine.execInstResume t p inst s
  | .instExport t p inst => Sys2Proof.Machine.execInstExport t p inst s
  | .instImport t p inst => Sys2Proof.Machine.execInstImport t p inst s
  | .instResetDone t inst => Sys2Proof.Machine.execInstResetDone t inst s
  | .suspendDone t inst => Sys2Proof.Machine.execSuspendDone t inst s
  | .exportDone t inst => Sys2Proof.Machine.execExportDone t inst s
  | .importDone t inst image => Sys2Proof.Machine.execImportDone t inst image s
  | .resRestoreTimer t => Sys2Proof.Machine.execResRestoreTimer t s
  | .migDramToHost t p inst => Sys2Proof.Machine.execMigDramToHost t p inst s
  | .migHostToDram t p inst => Sys2Proof.Machine.execMigHostToDram t p inst s
  | .migSnapshot t p inst => Sys2Proof.Machine.execMigSnapshot t p inst s
  | .migDone t last => Sys2Proof.Machine.execMigDone t last s
  | .instC0ResWrite t p v => Sys2Proof.Machine.execInstC0ResWrite t p v s
  -- Hand-over, secure rings, watermarks, debug and counters (chapter 10)
  | .handoverStart t p v => Sys2Proof.Machine.execHandoverStart t p v s
  | .handoverRelease t blk => Sys2Proof.Machine.execHandoverRelease t blk s
  | .handoverScrubEnd t blk => Sys2Proof.Machine.execHandoverScrubEnd t blk s
  | .secSubEnable t p r v => Sys2Proof.Machine.execSecSubEnable t p r v s
  | .secDoorbell t p r v => Sys2Proof.Machine.execSecDoorbell t p r v s
  | .svcEnable t p v => Sys2Proof.Machine.execSvcEnable t p v s
  | .wmDramWrite t p v => Sys2Proof.Machine.execWmDramWrite t p v s
  | .wmSdtWrite t p v => Sys2Proof.Machine.execWmSdtWrite t p v s
  | .wmSramWrite t p v => Sys2Proof.Machine.execWmSramWrite t p v s
  | .jtagExtestEntry entry => Sys2Proof.Machine.execJtagExtestEntry entry s
  | .jtagTestLogicReset t => Sys2Proof.Machine.execJtagTestLogicReset t s
  | .dbgAccess t op => Sys2Proof.Machine.execDbgAccess t op s
  | .perfClear t p => Sys2Proof.Machine.execPerfClear t p s
  -- The memory controller (chapter 11)
  | .memInitDone t densities trained => Sys2Proof.Machine.execMemInitDone t densities trained s
  | .idleDrainStart t g => Sys2Proof.Machine.execIdleDrainStart t g s
  | .refreshDue t g urgentQueued => Sys2Proof.Machine.execRefreshDue t g urgentQueued s
  | .refreshIssue t g => Sys2Proof.Machine.execRefreshIssue t g s
  | .refreshPullIn t g => Sys2Proof.Machine.execRefreshPullIn t g s
  | .mr4Poll t g temps hot => Sys2Proof.Machine.execMr4Poll t g temps hot s
  | .retrainStepDue t g urgentQueued => Sys2Proof.Machine.execRetrainStepDue t g urgentQueued s
  | .memFreqGo t p v => Sys2Proof.Machine.execMemFreqGo t p v s
  | .freqSwitchDone t => Sys2Proof.Machine.execFreqSwitchDone t s
  | .fullTrainingDone t fail => Sys2Proof.Machine.execFullTrainingDone t fail s
  | .memSvcActionDone t g fail => Sys2Proof.Machine.execMemSvcActionDone t g fail s
  -- Valid pages, the Sweeper and repair (chapter 12)
  | .pageFillDone t page => Sys2Proof.Machine.execPageFillDone t page s
  | .sweeperRead t g errs retry => Sys2Proof.Machine.execSweeperRead t g errs retry s
  | .lapSlow t g => Sys2Proof.Machine.execLapSlow t g s
  | .rangeGo t p v => Sys2Proof.Machine.execRangeGo t p v s
  | .rangeAbort t p => Sys2Proof.Machine.execRangeAbort t p s
  | .rangeDone t => Sys2Proof.Machine.execRangeDone t s
  | .scrubRewrite t g e errs retry => Sys2Proof.Machine.execScrubRewrite t g e errs retry s
  | .scrubRewritePromote t g e => Sys2Proof.Machine.execScrubRewritePromote t g e s
  | .logMark t p g e => Sys2Proof.Machine.execLogMark t p g e s
  | .logUnmark t p g e => Sys2Proof.Machine.execLogUnmark t p g e s
  | .logFree t p g e => Sys2Proof.Machine.execLogFree t p g e s
  | .repairDone t g e code => Sys2Proof.Machine.execRepairDone t g e code s
  -- Touch, haptics and audio (chapters 13 and 14)
  | .scanCycleStart t => Sys2Proof.Machine.execScanCycleStart t s
  | .scanCycleEnd t selfs muts noise => Sys2Proof.Machine.execScanCycleEnd t selfs muts noise s
  | .idleRateStep t => Sys2Proof.Machine.execIdleRateStep t s
  | .hapTrigEdge t ch rising => Sys2Proof.Machine.execHapTrigEdge t ch rising s
  | .hapPlay t p ch v => Sys2Proof.Machine.execHapPlay t p ch v s
  | .hapStop t p ch => Sys2Proof.Machine.execHapStop t p ch s
  | .hapClear t p ch => Sys2Proof.Machine.execHapClear t p ch s
  | .hapPhaseEnd t ch => Sys2Proof.Machine.execHapPhaseEnd t ch s
  | .hapTimedStart t ch => Sys2Proof.Machine.execHapTimedStart t ch s
  | .hapDutyReached t ch => Sys2Proof.Machine.execHapDutyReached t ch s
  | .hapShortDetect t ch => Sys2Proof.Machine.execHapShortDetect t ch s
  | .hapOpenDetect t ch => Sys2Proof.Machine.execHapOpenDetect t ch s
  | .backEmfSample t ch mv => Sys2Proof.Machine.execBackEmfSample t ch mv s
  | .vddHapMeasure t mv => Sys2Proof.Machine.execVddHapMeasure t mv s
  | .tdmClockLock t port => Sys2Proof.Machine.execTdmClockLock t port s
  | .tdmNoClock t port => Sys2Proof.Machine.execTdmNoClock t port s
  | .cueStart t str => Sys2Proof.Machine.execCueStart t str s
  | .cueEnd t str => Sys2Proof.Machine.execCueEnd t str s
  | .cueDataReadDone t str zeroed err => Sys2Proof.Machine.execCueDataReadDone t str zeroed err s
  | .audStrStop t p str => Sys2Proof.Machine.execAudStrStop t p str s
  | .alarmPatternStep t g => Sys2Proof.Machine.execAlarmPatternStep t g s
  | .duckHoldExpire t str => Sys2Proof.Machine.execDuckHoldExpire t str s
  -- Self-test, substitution, updates and the boot flash (chapter 15)
  | .bistSramMarch t p v => Sys2Proof.Machine.execBistSramMarch t p v s
  | .bistDramMarch t p v => Sys2Proof.Machine.execBistDramMarch t p v s
  | .bistDpLoopback t p v => Sys2Proof.Machine.execBistDpLoopback t p v s
  | .bistPixelPll t p v => Sys2Proof.Machine.execBistPixelPll t p v s
  | .bistChainLoopback t p v => Sys2Proof.Machine.execBistChainLoopback t p v s
  | .bistTouchRef t p v => Sys2Proof.Machine.execBistTouchRef t p v s
  | .bistHapticBridge t p v => Sys2Proof.Machine.execBistHapticBridge t p v s
  | .bistTdmLoopback t p v => Sys2Proof.Machine.execBistTdmLoopback t p v s
  | .bistTempSensors t p v => Sys2Proof.Machine.execBistTempSensors t p v s
  | .bistAbort t p => Sys2Proof.Machine.execBistAbort t p s
  | .bistAttemptDone t r => Sys2Proof.Machine.execBistAttemptDone t r s
  | .sramSoftRepairDone t needs => Sys2Proof.Machine.execSramSoftRepairDone t needs s
  | .tgEnable t p v => Sys2Proof.Machine.execTgEnable t p v s
  | .tgDisable t p => Sys2Proof.Machine.execTgDisable t p s
  | .tgWindow t mbps => Sys2Proof.Machine.execTgWindow t mbps s
  | .cndSubstGo t p v => Sys2Proof.Machine.execCndSubstGo t p v s
  | .cndSubstDone t => Sys2Proof.Machine.execCndSubstDone t s
  | .cndFault t c => Sys2Proof.Machine.execCndFault t c s
  | .updateGhPatch t p v => Sys2Proof.Machine.execUpdateGhPatch t p v s
  | .updateCndUcode t p v => Sys2Proof.Machine.execUpdateCndUcode t p v s
  | .updateApplyDone t => Sys2Proof.Machine.execUpdateApplyDone t s
  | .qspiRead t p v => Sys2Proof.Machine.execQspiRead t p v s
  | .qspiProgram t p v => Sys2Proof.Machine.execQspiProgram t p v s
  | .qspiErase t p v => Sys2Proof.Machine.execQspiErase t p v s
  | .qspiOpComplete t data => Sys2Proof.Machine.execQspiOpComplete t data s
  | .qspiOpTimeout t => Sys2Proof.Machine.execQspiOpTimeout t s
  -- Supplies, temperature, the secure management port and GPIO (chapter 16)
  | .supplyUndervolt t rail => Sys2Proof.Machine.execSupplyUndervolt t rail s
  | .supplyResetRelease t => Sys2Proof.Machine.execSupplyResetRelease t s
  | .thermalTrip t => Sys2Proof.Machine.execThermalTrip t s
  | .thermalTripEnd t => Sys2Proof.Machine.execThermalTripEnd t s
  | .monSample t mv temps => Sys2Proof.Machine.execMonSample t mv temps s
  | .tempNormalTimer t => Sys2Proof.Machine.execTempNormalTimer t s
  | .smpRead t frame => Sys2Proof.Machine.execSmpRead t frame s
  | .smpWrite t frame => Sys2Proof.Machine.execSmpWrite t frame s
  | .smpCsEarlyRise t => Sys2Proof.Machine.execSmpCsEarlyRise t s
  | .smpTimeout t frame words => Sys2Proof.Machine.execSmpTimeout t frame words s
  | .gpioEdge t pin rising => Sys2Proof.Machine.execGpioEdge t pin rising s
  | .perstNRelease t => Sys2Proof.Machine.execPerstNRelease t s
  | .pcieConfigurationRequest t write reg be v => Sys2Proof.Machine.execPcieConfigurationRequest t write reg be v s
  | .writeBufferBlockWritten t g blk errs retry => Sys2Proof.Machine.execWriteBufferBlockWritten t g blk errs retry s
  | .retrainStepPostponeLimit t g => Sys2Proof.Machine.execRetrainStepPostponeLimit t g s
  | .retrainStepEnd t g drift => Sys2Proof.Machine.execRetrainStepEnd t g drift s
  | .probeReceived t portB rx tx => Sys2Proof.Machine.execProbeReceived t portB rx tx s
  | .generatorStart t g => Sys2Proof.Machine.execGeneratorStart t g s

end Sys2Proof.Machine
end

