-- ==== Sys2Proof/Safety.lean ====
section
/-! DEFINITION. What counts as a safe state: the unit held in reset is blank, and nothing of a command is left over after it. -/

namespace Sys2Proof.Machine

open Sys2Proof

/-- While a condition of R489 or RESET_N holds the unit in reset, every register but the two latches of MON_STATUS that survive
reads its reset value, device DRAM is empty, and nothing is under way: no list, command, call, hand-over, message or test. -/
def State.blank (s : State) : Prop :=
  (∀ k, k ≠ pageBase PG_MON + R.MON_STATUS_TRIPPED.off → s.rd k = resetWord k) ∧
  s.dram = [] ∧ s.wbuf = [] ∧ s.lists = [] ∧ s.cmds = [] ∧ s.calls = [] ∧ s.handovers = [] ∧ s.insts = [] ∧ s.shadow = []

/-- No effect of an earlier command is outstanding, and a unit held in reset is blank (R36, R489). -/
def State.settled (s : State) : Prop := s.deferred = [] ∧ (s.rstHold ≠ [] → s.blank)

/-! The terms in which the commands' effects are stated. -/

/-- `u` is the state `s`, not held in reset, at the WALLTIME `t` of a command: the state that the command finds. -/
def Finds (t : Time) (s u : State) : Prop := s.rstHold = [] ∧ u = s.atTime t

/-- A write of all four bytes from a port to a register reaches it: the port is served, no rule of access stops the write
(R33, R52, R53, R55, R60), and it does not wait for the die-to-die link (R17). -/
def State.admits (u : State) (p : Port) (page off : Nat) : Prop :=
  u.portServed p = true ∧ u.writeCode (portSecure p) page off 15 = none ∧ u.waitsD2d page off = false

/-- The command `c`, found by state `u`, is the request `a` made by a write to a register, after the word's plain fields have been
stored by `pre`: the request has its effect, or is refused as its rules say, or the write itself does not reach the register, or it
waits for the die-to-die link to retrain. -/
def Requests (c : Instr) (s u : State) (p : Port) (page off : Nat) (pre : State → State) (a : Act) : Prop :=
  (u.admits p page off → a.code (pre u) = none → exec c s = .next (s.done (a.go (pre u)))) ∧
  (∀ k, u.admits p page off → a.code (pre u) = some k → exec c s = .next (s.done (a.refused k (pre u)))) ∧
  (∀ k pg, u.portServed p = true → u.waitsD2d page off = false → u.writeCode (portSecure p) page off 15 = some (k, pg) →
    exec c s = .next (s.done (u.err pg k))) ∧
  (u.portServed p = false → exec c s = .next (s.done u)) ∧
  (u.portServed p = true → u.waitsD2d page off = true →
    ∃ v, exec c s = .next (s.done (u.holdAcc (.write p (pageBase page + off) 15 v))))

/-- The command of ring `q` at its list's position is opcode `op`, and may run. -/
def State.atOp (u : State) (q op : Nat) : Prop :=
  u.mayRun q = true ∧ definedOp (hOp (u.cmdWord q)) = true ∧ hOp (u.cmdWord q) = op

/-- A good message of type `ty`, not a copy of the last one, arrives through port `b`, which is UP (R239). -/
def State.hears (u : State) (b : Bool) (ty : Nat) (m : List Byte) : Prop :=
  u.portUp b = true ∧ mType m = ty ∧ msgGood m = true ∧ (u.port b).rxSeq ≠ some (mSeq m)

/-- The state in which such a message is acted on: it has been answered with ACK, and its sequence number is the last good one. -/
def State.heard (u : State) (b : Bool) (m : List Byte) : State :=
  (u.chSend b (u.ctl 0x30 0 false 0 (leBytes 1 (mSeq m)))).setPort b fun x => { x with rxSeq := some (mSeq m) }

/-- The message's destination is this unit. -/
def State.destined (u : State) (m : List Byte) : Prop := u.addrValid = true ∧ mDst m = u.ownAddr

/-- The wall message names a head of this unit that is a member of its group. -/
def State.namesHead (u : State) (m : List Byte) : Prop :=
  wMember m / 8 = u.ownAddr ∧ u.isMember (wMember m % 8) = true ∧ u.headGroup (wMember m % 8) = wGroup m

/-- The commands that are chain messages of a unit's other units, with their types (R237, R238). -/
def chainMessages (t : Time) (b : Bool) (m : List Byte) : List (Instr × Nat) :=
  [(.markMsg t b m, 0x01), (.stepMsg t b m, 0x02), (.enumMsg t b m, 0x08), (.addrReq t b m, 0x09), (.addrGrant t b m, 0x0A),
    (.topo t b m, 0x0B), (.breakMsg t b m, 0x0C), (.readyMsg t b m, 0x10), (.commitMsg t b m, 0x11), (.deferMsg t b m, 0x12),
    (.excludeMsg t b m, 0x13), (.readmitMsg t b m, 0x14), (.joinMsg t b m, 0x15), (.withdrawMsg t b m, 0x16),
    (.lateCommit t b m, 0x17), (.selfExcluded t b m, 0x18), (.mgmtRead t b m, 0x40), (.mgmtWrite t b m, 0x41),
    (.readRsp t b m, 0x42), (.writeRsp t b m, 0x43)]

/-! Frames. -/

/-- The task put off is a report of an access that was blocked or reached the capacity. -/
def Deferred.isReport : Deferred → Bool
  | .blocked .. => true
  | .beyond .. => true
  | .ring .. => false
  | .log .. => false
  | .logFull .. => false
  | .landed .. => false

/-- A register that no event, record or journal writes: it lies in a register page, and is none of EVT_RAW, EVT_MISS, LAST_EVT_TIME,
MEM_STATUS, JRN_WR, JRN_LOST, MEM_WBUF_STAT. -/
def Quiet (k : Nat) : Prop := k < 0x180000 ∧
  k % 0x1000 ≠ 0x10 ∧ k % 0x1000 ≠ 0x1C ∧ k % 0x1000 ≠ 0x28 ∧ k % 0x1000 ≠ 0x2C ∧ k % 0x1000 ≠ 0x48 ∧ k % 0x1000 ≠ 0x4C ∧
    k % 0x1000 ≠ 0x54 ∧ k % 0x1000 ≠ 0x78

/-- The state `v` has put off to the command's end nothing more than `s` but reports of accesses that the DRAM watermark blocked or
that reached the capacity (R325, R355). -/
def State.onlyReports (s v : State) : Prop := ∃ l, v.deferred = s.deferred ++ l ∧ ∀ x ∈ l, x.isReport = true

/-- What stays: the register `k`, device DRAM, the clock, the queue, what holds the unit in reset, lists, commands,
heads and planes; with `d` also what is put off to the end of the command, reports of blocked accesses aside. -/
structure Calm (d : Bool) (k : Nat) (s v : State) : Prop where
  rd : v.rd k = s.rd k
  dram : v.dram = s.dram
  walltime : v.walltime = s.walltime
  pending : v.pending = s.pending
  rstHold : v.rstHold = s.rstHold
  lists : v.lists = s.lists
  cmds : v.cmds = s.cmds
  heads : v.heads = s.heads
  planes : v.planes = s.planes
  deferred : d = true → s.onlyReports v

/-- A state in which nothing but the registers `ks` differs. -/
def State.onlyWrites (s v : State) (ks : List Nat) : Prop := v = { s with regs := v.regs } ∧ ∀ k, k ∉ ks → v.rd k = s.rd k

end Sys2Proof.Machine
end

