-- ==== Sys2Proof/Certificates/Slice0/Obligations.lean ====
section
/-! DEFINITION. The statements for the provers.  `Finds t s u`: the unit is not held in reset, and the command of WALLTIME `t` finds
the state `u`, which is `s` at that time.  `s.done v` is the end of a command that has brought about `v` (its host writes that could not
be issued take their effects, the queue stands as the step left it), and `QueueUntouched` says what that is.  `Requests` says of a register
write that it has the effect of its request, is refused as the request's rules say, or does not reach its register. -/

open Sys2Proof Sys2Proof.Machine

/-! The queue, the end of a command, reset. -/

/-- Every step acts on the command at the front of the queue and leaves the rest of the queue as it was. -/
def Obligations.StepFront : Prop :=
  ∀ (c : Instr) (s : State) (rest : List Instr), s.pending = c :: rest → step s = exec c { s with pending := rest }

/-- With no command waiting the block idles (the model's choice, log entry 31). -/
def Obligations.StepIdle : Prop := ∀ s : State, s.pending = [] → step s = .next s

/-- Every command of the table answers a next state, whose queue is the one it found; where no host write was held back, its end adds
nothing of its own to what the command has brought about. -/
def Obligations.QueueUntouched : Prop :=
  (∀ (c : Instr) (s : State), ∃ t, exec c s = .next t ∧ t.pending = s.pending) ∧
  (∀ s v : State, v.deferred = [] → s.done v = { v with pending := s.pending, rstHold := [] })

/-- A unit held in reset acts on nothing (R489): every command but RESET_N, the supplies and the thermal trip changes only WALLTIME,
which never runs backward. -/
def Obligations.HeldInert : Prop :=
  ∀ (c : Instr) (s : State), s.rstHold ≠ [] →
    (∃ t : Time, exec c s = .next { s with walltime := max s.walltime t }) ∨
    (∃ t strap banks, c = .resetNRelease t strap banks) ∨ (∃ t n, c = .resetNAssert t n) ∨ (∃ t r, c = .supplyUndervolt t r) ∨
    (∃ t, c = .supplyResetRelease t) ∨ (∃ t, c = .thermalTrip t) ∨ (∃ t, c = .thermalTripEnd t)

/-- The invariant of reset, kept by every step: nothing of a command is left over, and while the unit is held in reset every register but
MON_STATUS reads its reset value, device DRAM is empty, and nothing is under way (R36, R489). -/
def Obligations.SettledKept : Prop := ∀ s s' : State, s.settled → step s = .next s' → s'.settled

/-- The invariant of reset holds right after reset. -/
def Obligations.SettledAtReset : Prop := State.reset.settled

/-- Right after reset every register of every page reads its reset value, DRAM is empty, no command waits, the mode is ENUMERATE. -/
def Obligations.ResetValues : Prop :=
  (∀ k, State.reset.rd k = resetWord k) ∧ State.reset.dram = [] ∧ State.reset.pending = [] ∧ State.reset.mode = ENUMERATE ∧
  (∀ p, pageExists p = true → State.reset.pstate p = pOFF ∧ State.reset.tf p R.PAGE_CTRL_ENABLE = true)

/-- RESET_N low for 1 µs or longer, a core supply under its threshold and a thermal trip each put the unit into reset, blank; a shorter
low pulse of less than 0.5 µs, and a rail that holds nothing, change only WALLTIME; a supply or thermal condition that ends while another
holds leaves the unit in reset (R489, R490, R503). -/
def Obligations.ResetEntered : Prop :=
  (∀ t n s, 1000 ≤ n → ∃ v, exec (.resetNAssert t n) s = .next v ∧ 0 ∈ v.rstHold ∧ v.blank ∧ v.pending = s.pending) ∧
  (∀ t n s, n < 500 → exec (.resetNAssert t n) s = .next { s.ends (s.atTime t) with rstHold := s.rstHold }) ∧
  (∀ t r s, r ≤ 1 → ∃ v, exec (.supplyUndervolt t r) s = .next v ∧ 1 + r ∈ v.rstHold ∧ v.blank ∧ v.pending = s.pending) ∧
  (∀ t s, ∃ v, exec (.supplyUndervolt t 6) s = .next v ∧ 7 ∈ v.rstHold ∧ v.blank ∧ v.tf PG_MON R.MON_STATUS_TRIPPED = false) ∧
  (∀ t r s, 1 < r → r ≠ 6 → exec (.supplyUndervolt t r) s = .next { s.ends (s.atTime t) with rstHold := s.rstHold }) ∧
  (∀ t s, ∃ v, exec (.thermalTrip t) s = .next v ∧ 20 ∈ v.rstHold ∧ v.blank ∧ v.tf PG_MON R.MON_STATUS_TRIPPED = true)

/-- The end of the last condition of reset restarts the unit as RESET_N does (R489, R490): the strap and the bank supplies are
sampled as RESET_N rises. -/
def Obligations.ResetLeft : Prop :=
  (∀ t s, s.rstHold ≠ [] → (∀ w ∈ s.rstHold, w ≠ 0 ∧ w ≠ 20) →
    exec (.supplyResetRelease t) s = .next { s.ends (({ s.atTime t with rstHold := [] }).restart 0) with rstHold := [] }) ∧
  (∀ t s, s.rstHold ≠ [] → (∀ w ∈ s.rstHold, w = 20) →
    exec (.thermalTripEnd t) s = .next { s.ends (({ s.atTime t with rstHold := [] }).restart 0) with rstHold := [] }) ∧
  (∀ t s w, w ∈ s.rstHold → w ≠ 20 → ∃ v, exec (.thermalTripEnd t) s = .next v ∧ w ∈ v.rstHold ∧ 20 ∉ v.rstHold) ∧
  (∀ t strap banks s, s.rstHold = [0] →
    exec (.resetNRelease t strap banks) s = .next { s.ends ((({ s.atTime t with
      strapMaster := strap, bank33 := (List.range 5).filter fun k => bank33mv (banks.getD k 0), rstHold := [] }).sf PG_MON
        R.MON_STATUS_BANK_BAD (bitmap 5 fun k => !bank33mv (banks.getD k 0) && !bank18mv (banks.getD k 0))).restart 0) with
          rstHold := [] })

/-! Modes, the die-to-die link, JTAG (chapters 01 and 10). -/

/-- DEVICE_RESET, the mode requests and SEC_READY are requests of SYS registers, with their own refusals (R34, R36, R38, R41); what each
does where it is granted: the unit restarts; RUN and CONFIGURE are entered and what follows the mode follows; QUIESCE begins, with
SEC_READY cleared, TRANSITION and BUSY shown and its deadline running (R39); SEC_READY written 1 also locks the watermarks (R328). -/
def Obligations.ModeRequests : Prop :=
  ∀ t s u p, Finds t s u →
    Requests (.deviceReset t p) s u p PG_SYS 0x48 id deviceResetAct ∧
    Requests (.modeReqRun t p) s u p PG_SYS 0x44 id (modeAct (portSecure p) RUNMODE) ∧
    Requests (.modeReqQuiesce t p) s u p PG_SYS 0x44 id (modeAct (portSecure p) QUIESCE) ∧
    Requests (.modeReqConfigure t p) s u p PG_SYS 0x44 id (modeAct (portSecure p) CONFIGURE) ∧
    (∀ v, Requests (.secReadyWrite t p v) s u p PG_SYS 0x48 id (secReadyAct v)) ∧
    (u.admits p PG_SYS 0x48 → exec (.deviceReset t p) s = .next (s.done (u.restart u.mode))) ∧
    (u.admits p PG_SYS 0x44 → u.tf PG_SYS R.SYS_STATE_TRANSITION = false → u.mode = CONFIGURE →
      u.tf PG_SYS R.SYS_SEC_CTRL_SEC_READY = true → ∃ v : State, exec (.modeReqRun t p) s = .next (s.done v.serviceCount.modeFollow) ∧
        v = ((u.sf PG_SYS R.SYS_MODE_REQ_TARGET RUNMODE).sf PG_SYS R.SYS_MODE_REQ_RESULT OK).modeEnter RUNMODE ∧
        v.mode = RUNMODE ∧ v.gf PG_SYS R.SYS_MODE_REQ_RESULT = OK ∧ v.tf PG_SYS R.SYS_STATE_TRANSITION = false) ∧
    (u.admits p PG_SYS 0x44 → portSecure p = true ∨ u.tf PG_SYS R.SYS_SEC_CTRL_NW_QUIESCE_OK = true →
      u.tf PG_SYS R.SYS_STATE_TRANSITION = false → u.mode = RUNMODE ∨ u.mode = SERVICEMODE ∨ u.mode = CONFIGURE →
      ∃ v : State, exec (.modeReqQuiesce t p) s = .next (s.done (v.testsEnd.rangeEnd CANCELLED)) ∧
        v.quiescing = true ∧ v.qcancelAt = some u.walltime ∧ v.lists = u.lists ∧ v.mode = u.mode ∧
        v.tf PG_SYS R.SYS_STATE_TRANSITION = true ∧ v.tf PG_SYS R.SYS_MODE_REQ_BUSY = true ∧
        v.tf PG_SYS R.SYS_STATE_SEC_READY = false ∧ v.tf PG_SYS R.SYS_SEC_CTRL_SEC_READY = false) ∧
    (u.admits p PG_SYS 0x44 → u.tf PG_SYS R.SYS_STATE_TRANSITION = false → u.mode = QUIESCE →
      exec (.modeReqConfigure t p) s = .next (s.done ((State.modeEnter CONFIGURE (forNat 8
        (fun h v => if v.headSt h = hRUN then v.goRelock h else v)
        (((u.sf PG_SYS R.SYS_MODE_REQ_TARGET CONFIGURE).sf PG_SYS R.SYS_MODE_REQ_RESULT OK).sf PG_SYS
          R.SYS_STATE_TRANSITION 1).leaveRefresh)).modeFollow))) ∧
    (u.admits p PG_SYS 0x48 → exec (.secReadyWrite t p true) s = .next (s.done (((u.sf PG_SYS R.SYS_SEC_CTRL_SEC_READY 1).sf PG_SYS
      R.SYS_STATE_SEC_READY 1).sf PG_WMARK R.LOCK_LOCKED 1))) ∧
    (u.admits p PG_SYS 0x48 → exec (.secReadyWrite t p false) s = .next (s.done
      ((u.sf PG_SYS R.SYS_SEC_CTRL_SEC_READY 0).sf PG_SYS R.SYS_STATE_SEC_READY 0)))

/-- A move from CONFIGURE to RUN is granted exactly when no transition runs, the mode is CONFIGURE and SEC_READY is 1; CONFIGURE is
granted exactly from QUIESCE; QUIESCE from RUN, SERVICE or CONFIGURE, to the normal world only with NW_QUIESCE_OK (R34, R38, R41). -/
def Obligations.ModeCodes : Prop :=
  (∀ (s : State) (sec : Bool), s.modeCode sec RUNMODE = none ↔
    s.tf PG_SYS R.SYS_STATE_TRANSITION = false ∧ s.mode = CONFIGURE ∧ s.tf PG_SYS R.SYS_SEC_CTRL_SEC_READY = true) ∧
  (∀ (s : State) (sec : Bool), s.modeCode sec CONFIGURE = none ↔ s.tf PG_SYS R.SYS_STATE_TRANSITION = false ∧ s.mode = QUIESCE) ∧
  (∀ (s : State) (sec : Bool), s.modeCode sec QUIESCE = none ↔
    (sec = true ∨ s.tf PG_SYS R.SYS_SEC_CTRL_NW_QUIESCE_OK = true) ∧ s.tf PG_SYS R.SYS_STATE_TRANSITION = false ∧
      (s.mode = RUNMODE ∨ s.mode = SERVICEMODE ∨ s.mode = CONFIGURE)) ∧
  (∀ (s : State) (n : Nat), n ≠ RUNMODE → n ≠ QUIESCE → n ≠ CONFIGURE → ∀ sec, s.modeCode sec n = some BAD_ARG)

/-- The stop sequence of QUIESCE (R39), the die-to-die link (R16 to R19) and the JTAG port (R348): what each event does.  At 10 ms the
lists in progress and their copies are cancelled; once the write buffer is empty and no list runs, QUIESCE is entered.  The eighth
replay in a row takes the link down and retrains it; a failed retraining puts the console pages in FAULT once, however often it fails,
and lets waiting accesses end; a link that is up again serves them; the timer starts the next retraining after 100 ms. -/
def Obligations.SystemEvents : Prop :=
  ∀ t s u, Finds t s u →
    (∀ at_ qs ids, u.qcancelAt = some at_ → u.quiescing = true → at_ + 10000000 ≤ u.walltime →
      qs = (u.lists.filter fun x => x.2.st != .idle).map (·.1) →
      ids = u.cmdsWhere (fun c => qs.contains c.q && (c.op = 0x40 || c.op = 0x41 || c.op = 0x42)) →
      exec (.quiesceListCancel t) s = .next (s.done
        { forEach ids (fun id v => v.cmdDone id CANCELLED 0) (forEach qs (fun q v => v.cancelList q) u) with qcancelAt := none })) ∧
    (u.quiescing = false ∨ u.qcancelAt = none → exec (.quiesceListCancel t) s = .next (s.done u)) ∧
    (u.quiescing = true → u.wbuf = [] → u.wwait = [] → (∀ p ∈ u.lists, p.2.st = .idle) →
      exec (.writeBufferDrained t) s = .next (s.done
        ((({ u with quiescing := false, qcancelAt := none }.selfRefresh.sf PG_SYS R.SYS_MODE_REQ_BUSY 0).modeEnter QUIESCE).consoleMode.headsEval))) ∧
    (u.quiescing = false ∨ u.wbuf ≠ [] ∨ u.wwait ≠ [] → exec (.writeBufferDrained t) s = .next (s.done u)) ∧
    (∀ n, n < 8 → u.tf PG_SYS R.SYS_D2D_STATUS_LINK_UP = true →
      exec (.d2dTransferError t n) s = .next (s.done (u.bump PG_SYS R.SYS_D2D_STATUS_REPLAY_COUNT 1))) ∧
    (∀ n, 8 ≤ n → u.tf PG_SYS R.SYS_D2D_STATUS_LINK_UP = true → exec (.d2dTransferError t n) s = .next (s.done
      { u.bump PG_SYS R.SYS_D2D_STATUS_REPLAY_COUNT 1 with d2dTrying := true, d2dTryAt := u.walltime }.d2dDown)) ∧
    (∀ n, u.tf PG_SYS R.SYS_D2D_STATUS_LINK_UP = false → exec (.d2dTransferError t n) s = .next (s.done u)) ∧
    (∀ t0, u.tf PG_SYS R.SYS_D2D_STATUS_LINK_UP = false → u.d2dDownAt = some t0 → exec (.d2dLinkUp t) s = .next (s.done
      (forEach u.onlyR18 State.r18Return ({ (u.sf PG_SYS R.SYS_D2D_STATUS_LINK_UP 1).sf PG_SYS R.SYS_STATE_D2D_UP 1 with
        d2dTrying := false, d2dFailed := false, d2dDownAt := none, onlyR18 := [] }.raise PG_SYS 4
          { d6 := (u.walltime - t0) / 1000 })).reportsOut.scanCheck.serveAllHeld)) ∧
    (u.tf PG_SYS R.SYS_D2D_STATUS_LINK_UP = true → exec (.d2dLinkUp t) s = .next (s.done u.serveAllHeld)) ∧
    (u.d2dFailed = true → u.d2dTrying = false → exec (.d2dLinkDown t) s = .next (s.done u.serveAllHeld)) ∧
    (u.d2dTrying = true → ∃ v : State, v = { u.d2dDown with d2dTrying := false, d2dFailed := true } ∧
      exec (.d2dLinkDown t) s = .next (s.done
        (forEach [96, 97, 98, 99, 100] State.r18Fault (v.raise PG_SYS 3 { d6 := v.gf PG_SYS R.SYS_D2D_STATUS_REPLAY_COUNT })).serveAllHeld)) ∧
    (u.d2dFailed = true → u.d2dTrying = false → u.d2dTryAt + 100000000 ≤ u.walltime →
      exec (.d2dRetrainTimer t) s = .next (s.done { u with d2dTrying := true, d2dTryAt := u.walltime })) ∧
    (u.d2dFailed = false ∨ u.d2dTrying = true ∨ u.walltime < u.d2dTryAt + 100000000 →
      exec (.d2dRetrainTimer t) s = .next (s.done u)) ∧
    (∀ ir, exec (.jtagExtestEntry { time := t, ir }) s = .next (s.done { u.restart u.mode with jtagHold := true, tapIr := ir })) ∧
    exec (.jtagTestLogicReset t) s = .next (s.done { u with jtagHold := false, tapReset := false, tapIr := .idcode })

/-! Register pages (chapter 02). -/

/-- The requests of a page header: SERVICE_REQ, TEST_REQ, SOFT_RESET, CLR_COUNTS, EVT_ENABLE, LOCK, COMMIT.GO and ABORT, and of the
journal pages (R57, R60 to R66, R68, R79, R80); a QUIESCE request of the same SYS cycle is decided first (R42). -/
def Obligations.PageRequests : Prop :=
  ∀ t s u p page, Finds t s u →
    Requests (.serviceReqSet t p { page }) s u p page 0x08 id (svcAct page false true) ∧
    Requests (.serviceReqClear t p page) s u p page 0x08 id (svcAct page false false) ∧
    Requests (.testReqSet t p { page }) s u p page 0x08 id (svcAct page true true) ∧
    (∀ q v, u.admits q PG_SYS 0x44 → u.modeCode (portSecure q) QUIESCE = none →
      v = (u.sf PG_SYS R.SYS_MODE_REQ_TARGET QUIESCE).modeGo QUIESCE → v.admits p page 0x08 →
      v.tf page R.PAGE_CTRL_SERVICE_REQ = false → v.serviceCode page false ≠ none →
      ∃ k, v.serviceCode page false = some k ∧ exec (.serviceReqSet t p { page, quiesce := some q }) s = .next (s.done (v.err page k))) ∧
    (∀ q v, u.admits q PG_SYS 0x44 → u.modeCode (portSecure q) QUIESCE = none →
      v = (u.sf PG_SYS R.SYS_MODE_REQ_TARGET QUIESCE).modeGo QUIESCE → v.admits p page 0x08 →
      v.tf page R.PAGE_CTRL_TEST_REQ = false → v.serviceCode page true ≠ none →
      ∃ k, v.serviceCode page true = some k ∧ exec (.testReqSet t p { page, quiesce := some q }) s = .next (s.done (v.err page k))) ∧
    Requests (.testReqClear t p page) s u p page 0x08 id (svcAct page true false) ∧
    Requests (.softReset t p page) s u p page 0x08 id (softAct page) ∧
    Requests (.clrCounts t p page) s u p page 0x08 id (clrAct page) ∧
    (∀ v, Requests (.evtEnableWrite t p page v) s u p page 0x18 id (evtEnableAct page v)) ∧
    Requests (.lockSet t p page) s u p page 0x3C id (lockAct page) ∧
    Requests (.commitGo t p page) s u p page 0x30 id (commitAct page) ∧
    Requests (.commitAbort t p page) s u p page 0x30 id (abortAct page) ∧
    (∀ v, page = PG_JRN_N ∨ page = PG_JRN_S → Requests (.jrnEnable t p page v) s u p page 0x48 id (jrnCtrlAct page v)) ∧
    (∀ v, page = PG_JRN_N ∨ page = PG_JRN_S → Requests (.jrnRdWrite t p page v) s u p page 0x50 id (jrnRdAct page v))

/-- ENABLE written 1 or 0 (R61, R346): a normal-world write of 0 that would gate a secure-owned island is refused, and the write is
ignored; else the block initialises, or stops. -/
def Obligations.PageEnables : Prop :=
  ∀ t s u p page, Finds t s u →
    (u.portServed p = true → u.gates p page false = true → exec (.pageDisable t p page) s = .next (s.done (u.gateRefused p page))) ∧
    (u.gates p page false = false → u.admits p page 0x08 →
      exec (.pageDisable t p page) s = .next (s.done ((disableAct page).go u))) ∧
    (u.admits p page 0x08 → exec (.pageEnable t p page) s = .next (s.done ((enableAct page).go u))) ∧
    (∀ k pg, u.portServed p = true → u.writeCode (portSecure p) page 0x08 15 = some (k, pg) → u.gates p page true = false →
      exec (.pageEnable t p page) s = .next (s.done (u.err pg k)))

/-- The end of a block's initialisation, a clear of event flags or of the error capture (an occurrence of the same cycle wins), and a
commit point (R61, R63, R70). -/
def Obligations.PageEvents : Prop :=
  ∀ t s u, Finds t s u →
    (∀ page, pageExists page = true → exec (.blockInitDone t page) s = .next (s.done (u.initDone page))) ∧
    (∀ p page mask, u.admits p page 0x14 → exec (.evtStatusClear t p page mask []) s =
      .next (s.done (u.wr (pageBase page + 0x10) (u.rd (pageBase page + 0x10) &&& ~~~mask)))) ∧
    (∀ p page mask b st x y f i, u.admits p page 0x14 → pageExists page = true → b < 32 →
      exec (.evtStatusClear t p page mask [⟨b, st, x, y, f, i⟩]) s = .next (s.done
        ((u.wr (pageBase page + 0x10) (u.rd (pageBase page + 0x10) &&& ~~~mask)).raise page b
          { status := st, d6 := x, d7 := y, frame := f, inst := i }))) ∧
    (∀ p page, u.admits p page 0x20 → exec (.errCaptureClear t p page none) s = .next (s.done (u.wr (pageBase page + 0x20) 0#32))) ∧
    (∀ p page k d, u.admits p page 0x20 → pageExists page = true → exec (.errCaptureClear t p page (some (k, d))) s =
      .next (s.done ((u.wr (pageBase page + 0x20) 0#32).errWith page k d))) ∧
    (∀ page, pageExists page = true → exec (.commitApply t page) s = .next (s.done (u.commitNow page))) ∧
    (∀ p off be v, u.portServed p = false ∨ u.wordWaits off = false →
      exec (.registerWrite t p off be v) s = .next (s.done (u.writeAt mbGoAct p off be v).2)) ∧
    (∀ p off be v, u.portServed p = true → u.wordWaits off = true →
      exec (.registerWrite t p off be v) s = .next (s.done (u.holdAcc (.write p off be v))))

/-! Command lists (chapter 03). -/

/-- A list is taken (R304), and the commands END, NOP, the waits, stamps and fences run at its position (R97 to R103, R112, R113,
R118): each on the state in which the command has been counted, and by the Conductor to which a substitution has moved it (R463). -/
def Obligations.ListCommands : Prop :=
  ∀ t s u q, Finds t s u →
    (∀ c slot ws, u.mayTake c q = true → exec (.listStart t c q slot ws) s = .next (s.done (u.listStart c q slot ws))) ∧
    (u.atOp q 0x00 → refusal (hdrChecks q ((u.cmdTaken q).lr q) (u.cmdWord q) (max 1 (hLen (u.cmdWord q))) []) = none →
      exec (.nop t q) s = .next (s.done ((u.cmdTaken q).cmdNow q OK 0))) ∧
    (u.atOp q 0x01 → refusal (hdrChecks q ((u.cmdTaken q).lr q) (u.cmdWord q) 1 []) = none → hNotify (u.cmdWord q) = false →
      exec (.endList t q) s = .next (s.done ((u.cmdTaken q).listEnd q OK ((u.cmdTaken q).lr q).pc))) ∧
    (u.atOp q 0x01 → refusal (hdrChecks q ((u.cmdTaken q).lr q) (u.cmdWord q) 1 []) = none → hNotify (u.cmdWord q) = true →
      exec (.endList t q) s = .next (s.done (((u.cmdTaken q).cmdNote q ((u.cmdTaken q).lr q).cnd ((u.cmdTaken q).lr q).pc OK 0).listEnd q OK
        ((u.cmdTaken q).lr q).pc))) ∧
    (u.atOp q 0x30 → exec (.waitFrame t q) s = .next (s.done (State.waitFrame q ((u.cmdTaken q).lr q) (u.cmdWord q) (u.cmdTaken q)))) ∧
    (u.atOp q 0x31 → exec (.waitTime t q) s = .next (s.done (State.waitTime q ((u.cmdTaken q).lr q) (u.cmdWord q) (u.cmdTaken q)))) ∧
    (u.atOp q 0x32 → exec (.writeStamp t q) s = .next (s.done (State.writeStamp q ((u.cmdTaken q).lr q) (u.cmdWord q) (u.cmdTaken q)))) ∧
    (u.atOp q 0x33 → exec (.fenceSignal t q) s = .next (s.done (State.fenceSignal q ((u.cmdTaken q).lr q) (u.cmdWord q) (u.cmdTaken q)))) ∧
    (u.atOp q 0x34 → exec (.fenceWait t q) s = .next (s.done (State.fenceWait q ((u.cmdTaken q).lr q) (u.cmdWord q) (u.cmdTaken q)))) ∧
    (∀ target, (u.lr q).wait = .time target → (u.lr q).st = .wait → target ≤ u.localTime 3 →
      exec (.waitTimeReached t q) s = .next (s.done (u.waitDone q OK 0))) ∧
    (∀ k x d, (u.lr q).wait = .fence k x → (u.lr q).st = .wait → (u.lr q).deadline = some d → d ≤ u.walltime →
      exec (.waitTimeout t q) s = .next (s.done (u.waitFail q TIMEOUT))) ∧
    (∀ k d, (u.lr q).wait = .gatehouse k → (u.lr q).st = .aside → (u.lr q).resume = none → (u.lr q).deadline = some d → d ≤ u.walltime →
      exec (.waitTimeout t q) s = .next (s.done (u.setLr q fun x => { x with resume := some TIMEOUT, result := 0 })))

/-- Commands on surfaces and planes, and the safety, console and secure commands, run at their list's position (R87 to R93, R106 to
R111, R114 to R119); a copy's chunk completes on a DMA
channel (R306, R307). -/
def Obligations.DataCommands : Prop :=
  ∀ t s u q, Finds t s u →
    (u.atOp q 0x10 → exec (.setSurface t q) s = .next (s.done (State.setSurface q ((u.cmdTaken q).lr q) (u.cmdWord q) (u.cmdTaken q)))) ∧
    (u.atOp q 0x11 → exec (.retireSurface t q) s = .next (s.done (State.retireSurface q ((u.cmdTaken q).lr q) (u.cmdWord q) (u.cmdTaken q)))) ∧
    (u.atOp q 0x20 → exec (.setPlane t q) s = .next (s.done (State.setPlaneCmd q ((u.cmdTaken q).lr q) (u.cmdWord q) (u.cmdTaken q)))) ∧
    (u.atOp q 0x21 → exec (.flip t q) s = .next (s.done (State.flip q ((u.cmdTaken q).lr q) (u.cmdWord q) (u.cmdTaken q)))) ∧
    (u.atOp q 0x22 → exec (.flipWall t q) s = .next (s.done (State.flipWall q ((u.cmdTaken q).lr q) (u.cmdWord q) (u.cmdTaken q)))) ∧
    (u.atOp q 0x40 → exec (.upload t q) s = .next (s.done (State.upload q ((u.cmdTaken q).lr q) (u.cmdWord q) (u.cmdTaken q)))) ∧
    (u.atOp q 0x41 → exec (.fill t q) s = .next (s.done (State.fill q ((u.cmdTaken q).lr q) (u.cmdWord q) (u.cmdTaken q)))) ∧
    (u.atOp q 0x42 → exec (.copyRect t q) s = .next (s.done (State.copyRect q ((u.cmdTaken q).lr q) (u.cmdWord q) (u.cmdTaken q)))) ∧
    (∀ i h, (u.surf i).state = sRETIRING → u.boundActive i = [] → u.boundShadow i = [] → (u.surf i).lastRead = [] →
      (u.surf i).retCmd = none → exec (.surfaceRetired t i h) s = .next (s.done (u.freeSurf i))) ∧
    (∀ ch id d, exec (.dmaChunkDone t ch (some id) d) s = .next (s.done (u.chunkDone ch id d))) ∧
    (∀ ch d, exec (.dmaChunkDone t ch none d) s = .next (s.done (u.migChunk ch d))) ∧
    (u.atOp q 0x50 → exec (.setRegionAge t q) s = .next (s.done (State.setRegionAge q ((u.cmdTaken q).lr q) (u.cmdWord q) (u.cmdTaken q)))) ∧
    (u.atOp q 0x51 → exec (.readSignature t q) s = .next (s.done (State.readSignature q ((u.cmdTaken q).lr q) (u.cmdWord q) (u.cmdTaken q)))) ∧
    (u.atOp q 0x60 → exec (.hapticPlay t q) s = .next (s.done (State.hapticPlay q ((u.cmdTaken q).lr q) (u.cmdWord q) (u.cmdTaken q)))) ∧
    (u.atOp q 0x61 → exec (.audioCue t q) s = .next (s.done (State.audioCue q ((u.cmdTaken q).lr q) (u.cmdWord q) (u.cmdTaken q)))) ∧
    (u.atOp q 0x70 → exec (.mcall t q) s = .next (s.done (State.mcall q ((u.cmdTaken q).lr q) (u.cmdWord q) (u.cmdTaken q))))

/-! The Gatehouse and host reads (chapters 09 and 10). -/

/-- Vendor services answer the list that waits for them; a reply, or its deadline, ends a customer call; a failed host read ends what
waited for it, and a good one changes nothing by itself (R293, R334, R335, R337). -/
def Obligations.GatehouseEvents : Prop :=
  ∀ t s u, Finds t s u →
    (∀ q, u.waitsGate q 0 = true → exec (.getVersion t q) s = .next (s.done (u.replyTo q OK (0xB0 + u.ghVersion % 65536 * 65536)))) ∧
    (∀ q, u.waitsGate q 1 = true → (u.wordAt (u.lr q).argAt).toNat < 65536 → blkOk (u.wordAt (u.lr q).argAt).toNat = true →
      exec (.queryBlock t q) s = .next (s.done (u.replyTo q OK (u.blockValue (u.wordAt (u.lr q).argAt).toNat)))) ∧
    (∀ q, u.waitsGate q 1 = true → blkOk (u.wordAt (u.lr q).argAt).toNat = false →
      exec (.queryBlock t q) s = .next (s.done (u.replyTo q BAD_ARG 0))) ∧
    (∀ q, u.waitsGate q 2 = true → exec (.queryDebug t q) s = .next (s.done (u.replyTo q OK
      ((if bit u.dbgEffective 3 then 1 else 0) + (if bit u.dbgEffective 2 then 2 else 0))))) ∧
    (∀ q, u.waitsGate q 3 = true → exec (.queryWatermarks t q) s = .next (s.done ((u.gatePut (u.lr q).argAt
      (leBytes 4 (u.gf PG_WMARK R.WM_DRAM_LEVEL) ++ leBytes 4 u.wmSdt ++
        leBytes 4 (u.gf PG_WMARK R.WM_SRAM_LEVEL) ++ leBytes 4 (u.gf PG_WMARK R.LOCK_LOCKED))).replyTo q OK 0))) ∧
    (∀ q, u.waitsGate q 0x10 = true → exec (.requestBlock t q) s = .next (s.done (u.askBlock q 0x10))) ∧
    (∀ q, u.waitsGate q 0x11 = true → exec (.offerBlock t q) s = .next (s.done (u.askBlock q 0x11))) ∧
    (∀ p v, Requests (.secReply t p v) s u p PG_SEC 0x64 (State.plainWrite (portSecure p) PG_SEC 0x64 v) replyAct) ∧
    (∀ id c, u.calls.find? (fun x => x.1 == id) = some (id, c) → fget {} u.calls id = c → fhas u.calls id = true → c.open_ = true →
      c.deadline ≤ u.localTime 2 → exec (.mcallTimeout t id) s = .next (s.done
        (((u.closeCall id).raise PG_SEC 3 { status := TIMEOUT, d6 := id, d7 := c.q / 4, inst := some (c.q / 4) }).replyTo c.q TIMEOUT 0))) ∧
    (∀ who a, exec (.hostReadDone t who a false) s = .next (s.done u)) ∧
    (∀ who a, exec (.hostReadDone t who a true) s = .next (s.done (u.hostReadFails who a NO_RIGHT))) ∧
    (∀ who a, exec (.hostReadTimeout t who a) s = .next (s.done (u.hostReadFails who a TIMEOUT)))

/-! Composition, scan-out and genlock (chapters 04 to 06). -/

/-- The events of a head's frame: a line job, a span, an output line, the vertical blank, a frame start; and reads of DRAM, a slice's
parity error (R124, R125, R130, R162, R388). -/
def Obligations.ScanEvents : Prop :=
  ∀ t s u h, Finds t s u → h < 8 →
    (∀ y, exec (.lineJobRelease t h y) s = .next (s.done (u.lineJob h y))) ∧
    (∀ y k n sram, n < 5 → exec (.spanCompose t h y k n sram) s = .next (s.done (u.spanDone h y k n sram))) ∧
    (∀ y d, exec (.outputLine t h y d) s = .next (s.done (u.outLine h y d))) ∧
    exec (.vblankStart t h) s = .next (s.done (u.vblank h)) ∧
    exec (.frameStart t h) s = .next (s.done (u.frameStarts h)) ∧
    (∀ req a errs, exec (.memReadDone t req a errs false) s = .next (s.done (u.readDone req a errs))) ∧
    (∀ req a errs, u.reqLive (blockOf a) req = true → blockOf a * 128 < u.capBytes →
      exec (.memReadDone t req a errs true) s = .next (s.done
        (({ u with validPg := forNat 64 (fun k l => nadd l (dpageOf (blockOf a * 128) / 64 * 64 + k)) u.validPg }.raise
          (pgMem (groupOf (blockOf a))) 12 { d6 := dpageOf (blockOf a * 128) / 64 * 64 }).readDone req a errs))) ∧
    (∀ req a errs x, u.memRetry.find? (fun r => r.req == req && r.blk == blockOf a) = some x → ({ u with memRetry := u.memRetry.erase x } : State).retryLive x = true →
      exec (.memReadRetryDone t req a errs) s = .next (s.done (if x.cancelled = true then
        ({ u with memRetry := u.memRetry.erase x }).readDeliver x.blk CANCELLED req
        else ({ u with memRetry := u.memRetry.erase x }).retryDone x errs))) ∧
    (∀ n, n < 5 → u.pstate (pgSlc n) = pRUN → exec (.sliceParityError t n none) s = .next (s.done
      (((u.bump (pgSlc n) R.SLC_PARITY_ERRORS 1).raise (pgSlc n) 0
        { status := MEM_ERROR, d6 := 0xFFFFFFFF, d7 := 0xFFFFFFFF }).faultPage (pgSlc n) MEM_ERROR).dispatch))

/-- The events of genlock: a lock that is late, a settled PLL, an edge, a source that is lost or has returned (R176 to R182). -/
def Obligations.SyncEvents : Prop :=
  ∀ t s u h, Finds t s u → h < 8 →
    (u.headSt h = hLOCKING → u.locked h = false → u.source h ≠ 2 → (u.head h).enterAt + 2000000000 ≤ u.walltime →
      exec (.lockTimeout t h) s = .next (s.done (u.lockLate h))) ∧
    ((u.headSt h = hLOCKING ∨ u.headSt h = hRELOCK) → u.source h = 2 →
      exec (.pllSettled t h) s = .next (s.done ((u.setHead h fun x => { x with settled := true }).lockDone h))) ∧
    (∀ r, exec (.genlockEdge t r) s = .next (s.done (u.genlockEdge r))) ∧
    (∀ c e, (u.sync h (if c = true then 1 else 0)).last = some e → u.tf (pgAve h) (presentFld (if c = true then 1 else 0)) = true →
      e + 3 * (u.sync h (if c = true then 1 else 0)).expect ≤ u.walltime →
      exec (.syncSourceLost t h c) s = .next (s.done (u.srcAbsent h (if c = true then 1 else 0) 0))) ∧
    (∀ k, u.headSt h ≠ hIDLE → u.gf (pgAve h) R.AVE_SYNC_SRC = 0 →
      (List.range (u.source h)).find? (fun k => u.usableSrc h k && decide ((u.sync h k).since + 1000000000 ≤ u.walltime)) = some k →
      exec (.sourceReturnTimer t h) s = .next (s.done (u.setSource h k 3)))

/-- The requests of scan-out and the memory set point: AGE_RELEASE, PLZ_SUBST, ARC_CTRL.FLUSH, MEM_FREQ.GO (R150, R161, R214, R371);
PLAY, STOP and CLEAR of a haptic channel, and the STOP of an audio stream (R433, R434, R435, R441); and, in the terms of the state alone,
where each is granted and what it then does. -/
def Obligations.BlockRequests : Prop :=
  ∀ t s u p, Finds t s u →
    (∀ h lo hi, h < 8 → Requests (.ageRelease t p h lo hi) s u p (pgAge h) 0x6C id (ageReleaseAct h lo hi)) ∧
    (∀ v, Requests (.plzSubstGo t p v) s u p PG_PLAZA 0x4C (State.plainWrite (portSecure p) PG_PLAZA 0x4C v) (plzSubstAct (bits v 0 3))) ∧
    (∀ heads, Requests (.arcFlush t p heads) s u p PG_ARCADE 0x40 id (arcFlushAct heads)) ∧
    (∀ v, Requests (.memFreqGo t p v) s u p 14 0x44 (State.plainWrite (portSecure p) 14 0x44 v) memFreqAct) ∧
    (∀ ch v, ch < 4 → Requests (.hapPlay t p ch v) s u p PG_HAP (0x8C + 0x20 * ch)
      (State.plainWrite (portSecure p) PG_HAP (0x8C + 0x20 * ch) v) (hapPlayAct ch)) ∧
    (∀ ch, ch < 4 → Requests (.hapStop t p ch) s u p PG_HAP (0x8C + 0x20 * ch) id (hapStopAct ch)) ∧
    (∀ ch, ch < 4 → Requests (.hapClear t p ch) s u p PG_HAP (0x8C + 0x20 * ch) id (hapClearAct ch)) ∧
    (∀ n, n < 16 → Requests (.audStrStop t p n) s u p PG_AUD (0x104 + 0x10 * n) id (strStopAct n)) ∧
    (∀ h lo hi, h < 8 → u.admits p (pgAge h) 0x6C → exec (.ageRelease t p h lo hi) s = .next (s.done (u.setHead h fun x =>
      { x with release := ((List.range 64).filter fun r => bit (pair64 lo hi) r && (u.region h r).sig = 3).foldl nadd x.release }))) ∧
    (∀ v w k, u.admits p PG_PLAZA 0x4C → w = u.plainWrite (portSecure p) PG_PLAZA 0x4C v → bits v 0 3 < 5 → w.slcRole (bits v 0 3) = 0 →
      w.tf PG_PLAZA R.PLZ_SUBST_PENDING = false → w.spareSlice = some k →
      exec (.plzSubstGo t p v) s = .next (s.done (w.substWait (bits v 0 3) true))) ∧
    (∀ heads, u.admits p PG_ARCADE 0x40 → exec (.arcFlush t p heads) s =
      .next (s.done (forNat 8 (fun h v => if bit heads h then v.setHead h fun x => { x with flush := true } else v) u))) ∧
    (∀ v w, u.admits p 14 0x44 → w = u.plainWrite (portSecure p) 14 0x44 v → w.memBusy = false → w.tf 14 R.MEM_FREQ_BUSY = false →
      w.freqHeld = false → w.gf 14 R.MEM_FREQ_TARGET ≠ w.gf 14 R.MEM_FREQ_CURRENT →
      bit (w.gf 14 R.MEM_FREQ_VALID) (w.gf 14 R.MEM_FREQ_TARGET) = true →
      exec (.memFreqGo t p v) s = .next (s.done (w.freqGo (w.gf 14 R.MEM_FREQ_TARGET)))) ∧
    (∀ ch v w, ch < 4 → u.admits p PG_HAP (0x8C + 0x20 * ch) → w = u.plainWrite (portSecure p) PG_HAP (0x8C + 0x20 * ch) v →
      w.playCode ch = none → w.trigCode ch = none →
      exec (.hapPlay t p ch v) s = .next (s.done (w.trigTake ch (w.gf PG_HAP (R.HAP_CH_CTRL_PLAY_SLOT ch)) none))) ∧
    (∀ ch, ch < 4 → u.admits p PG_HAP (0x8C + 0x20 * ch) → exec (.hapStop t p ch) s = .next (s.done (u.hapStopReg ch))) ∧
    (∀ ch, ch < 4 → u.admits p PG_HAP (0x8C + 0x20 * ch) → u.hapSt ch = cFAULTED →
      exec (.hapClear t p ch) s = .next (s.done ((u.hapTo ch cIDLE).sf PG_HAP (R.HAP_CH_STATUS_FAULT ch) 0))) ∧
    (∀ n, n < 16 → u.admits p PG_AUD (0x104 + 0x10 * n) → exec (.audStrStop t p n) s = .next (s.done (u.strStop n)))

/-! The Torfold Chain (chapter 07). -/

/-- The states of a chain port (R226): signal, training done, late or retried, a TRAIN message, a short, its end, loss of signal. -/
def Obligations.ChainPorts : Prop :=
  ∀ t s u b, Finds t s u →
    exec (.chainSignalDetect t b) s = .next (s.done ((u.setPort b fun x => { x with signal := true }).portWake b)) ∧
    (∀ inv d o, u.portSt b = cTRAINING → (u.port b).peerId.isSome = true →
      (((u.sf PG_CHN (pfld b R.CHN_PORT_STATUS_A_RX_INVERTED) (if inv then 1 else 0)).sf PG_CHN
        (pfld b R.CHN_DELAY_A_DELAY) (min d 0xFFFFF)).portGoesUp b).upPort ≠ some b →
      exec (.chainTrainDone t b inv d o) s = .next (s.done
        (((u.sf PG_CHN (pfld b R.CHN_PORT_STATUS_A_RX_INVERTED) (if inv then 1 else 0)).sf PG_CHN
          (pfld b R.CHN_DELAY_A_DELAY) (min d 0xFFFFF)).portGoesUp b))) ∧
    (u.portSt b = cTRAINING → (u.port b).since + 1000000 ≤ u.walltime → exec (.chainTrainTimeout t b) s = .next (s.done
      ((u.portTo b cDOWN 0).setPort b fun x => { x with retry := some ((u.portTo b cDOWN 0).walltime + 10000000) }))) ∧
    (u.portSt b = cTRAINING → u.walltime < (u.port b).since + 1000000 → exec (.chainTrainTimeout t b) s = .next (s.done u)) ∧
    (∀ d, (u.port b).retry = some d → u.walltime < d → exec (.chainTrainRetry t b) s = .next (s.done u)) ∧
    (u.portSt b = cDOWN → (u.port b).signal = true → u.portEn b = true → u.pstate PG_CHN = pRUN → u.portTested b = false →
      (u.port b).retry.all (fun d => decide (d ≤ u.walltime)) = true →
      exec (.chainTrainRetry t b) s = .next (s.done (u.portTo b cTRAINING 0))) ∧
    (∀ inv id m h d a, exec (.trainMessage t { portB := b, inverted := inv } id m h d a) s = .next (s.done (u.trainMsg b inv id m h d a))) ∧
    (∀ sup, exec (.chainShort t b sup) s = .next (s.done (u.portTo b cFAULT (if sup then 2 else 1)))) ∧
    (u.portSt b = cFAULT → (u.port b).since + 100000000 ≤ u.walltime → exec (.chainFaultClear t b) s =
      .next (s.done ((u.setPort b fun x => { x with signal := false }).portTo b cDOWN 0))) ∧
    (u.portSt b ≠ cFAULT ∨ u.walltime < (u.port b).since + 100000000 → exec (.chainFaultClear t b) s = .next (s.done u)) ∧
    exec (.chainLossOfSignal t b) s =
      .next (s.done ((u.setPort b fun x => { x with signal := false, retry := none }).portDrop b 3)) ∧
    (∀ p, Requests (.chainPortRetrain t p b) s u p PG_CHN 0x4C id (retrainAct b))

/-- R239 for every type of message that is answered: through a port that is not UP, or of another type, nothing; a damaged one is
answered with NAK and nothing more; a copy of the last good one is answered with ACK and nothing more.  ACK and NAK are not answered:
a good one settles the message it names, a damaged one is dropped. -/
def Obligations.ChainLinkRules : Prop :=
  ∀ t s u b m c ty, Finds t s u → (c, ty) ∈ chainMessages t b m →
    (u.portUp b = false ∨ mType m ≠ ty → exec c s = .next (s.done u)) ∧
    (u.portUp b = true → mType m = ty → msgGood m = false →
      exec c s = .next (s.done (u.chSend b (u.ctl 0x31 0 false 0 (leBytes 1 (mSeq m)))))) ∧
    (u.portUp b = true → msgGood m = true → mType m = ty → (u.port b).rxSeq = some (mSeq m) →
      exec c s = .next (s.done (u.chSend b (u.ctl 0x30 0 false 0 (leBytes 1 (mSeq m)))))) ∧
    (u.portUp b = true → mType m = 0x30 → msgGood m = true → exec (.ackMsg t b m) s = .next (s.done (u.ackSeq b (mb m 8)))) ∧
    (u.portUp b = true → mType m = 0x31 → msgGood m = true → exec (.nakMsg t b m) s = .next (s.done (u.noAck b (some (mb m 8))))) ∧
    (u.portUp b = false ∨ msgGood m = false ∨ mType m ≠ 0x30 → exec (.ackMsg t b m) s = .next (s.done u)) ∧
    (u.portUp b = false ∨ msgGood m = false ∨ mType m ≠ 0x31 → exec (.nakMsg t b m) s = .next (s.done u)) ∧
    exec (.chainAckTimeout t b) s = .next (s.done (u.noAck b none))


/-- The messages of addresses and topology, once heard (R231 to R236, R242, R245): a broadcast through the upstream port is passed on
and acted on, a message for this unit is acted on, one for another goes on. -/
def Obligations.ChainControl : Prop :=
  ∀ t s u b m v, Finds t s u → v = u.heard b m →
    (u.hears b 0x01 m → v.upPort = some b → exec (.markMsg t b m) s =
      .next (s.done ((v.forward b m).markArrives (mle m 8 8) (mle m 16 8) (bit (mb m 6) 1)))) ∧
    (u.hears b 0x02 m → v.upPort = some b → (v.forward b m).mayStep = true → exec (.stepMsg t b m) s =
      .next (s.done { v.forward b m with stepAt := some (mle m 8 8, mle m 16 8) })) ∧
    (u.hears b 0x02 m → v.upPort = some b → (v.forward b m).mayStep = false → exec (.stepMsg t b m) s =
      .next (s.done ((v.forward b m).stepRefused ((mle m 16 8 : Int) - mle m 8 8)))) ∧
    (u.hears b 0x08 m → exec (.enumMsg t b m) s = .next (s.done (v.enumArrives b m))) ∧
    (u.hears b 0x09 m → v.isMaster = true → exec (.addrReq t b m) s = .next (s.done (v.grantAddr b (mle m 8 8)))) ∧
    (∀ e, u.hears b 0x09 m → v.isMaster = false → v.enumPort = some e → e ≠ b →
      exec (.addrReq t b m) s = .next (s.done (v.chSend e (m.take (m.length - 4))))) ∧
    (u.hears b 0x09 m → v.isMaster = false → v.enumPort = none → exec (.addrReq t b m) s = .next (s.done (v.forward b m))) ∧
    (u.hears b 0x0A m → exec (.addrGrant t b m) s = .next (s.done (v.grantArrives b m))) ∧
    (∀ x : State, u.hears b 0x0B m → v.upPort = some b → x = { v.forward b m with
        topoUnits := mle m 10 2, topoBrk := (mle m 12 2, mle m 14 2) }.setTopo (mb m 8 % 4) →
      (mb m 8 % 4 = 2 → exec (.topo t b m) s = .next (s.done (x.ringRoutes x.topoUnits))) ∧
      (mb m 8 % 4 ≠ 2 → x.topoBrk = (0, 0) → exec (.topo t b m) s = .next (s.done { x with cutOff := [] })) ∧
      (mb m 8 % 4 ≠ 2 → x.topoBrk ≠ (0, 0) → exec (.topo t b m) s = .next (s.done (x.cutRoutes x.topoBrk.1 x.topoBrk.2)))) ∧
    (u.hears b 0x0C m → v.destined m → exec (.breakMsg t b m) s = .next (s.done (v.breakArrives b m))) ∧
    (u.hears b 0x0C m → ¬v.destined m → exec (.breakMsg t b m) s = .next (s.done (v.forward b m)))

/-- The wall's messages, once heard (R252, R255 to R261): those for the master are acted on by it, those for a member by the head they
name. -/
def Obligations.WallMessages : Prop :=
  ∀ t s u b m v, Finds t s u → v = u.heard b m →
    (u.hears b 0x10 m → v.destined m → v.isMaster = true → exec (.readyMsg t b m) s =
      .next (s.done (v.masterReady (wGroup m) (wMember m) (wTag m)))) ∧
    (u.hears b 0x11 m → v.upPort = some b → exec (.commitMsg t b m) s =
      .next (s.done ((v.forward b m).commitHere (wGroup m) (wTag m) (wRound m)))) ∧
    (u.hears b 0x12 m → v.upPort = some b → exec (.deferMsg t b m) s = .next (s.done (forNat 8 (fun h w =>
      if (w.wallOf h).ready.any (fun r => r.1 == wGroup m) then w.setHw h fun y => { y with silent := 0 } else w) (v.forward b m)))) ∧
    (u.hears b 0x13 m → v.destined m → v.namesHead m → exec (.excludeMsg t b m) s =
      .next (s.done (v.excludeHere (wMember m % 8) (wGroup m) 0 false))) ∧
    (u.hears b 0x14 m → v.destined m → v.namesHead m → exec (.readmitMsg t b m) s =
      .next (s.done (v.readmitHere (wMember m % 8) (wGroup m)))) ∧
    (u.hears b 0x15 m → v.destined m → v.isMaster = true → exec (.joinMsg t b m) s =
      .next (s.done (v.masterJoin (wGroup m) (wMember m)))) ∧
    (u.hears b 0x16 m → v.destined m → v.isMaster = true → exec (.withdrawMsg t b m) s =
      .next (s.done (v.masterWithdraw (wGroup m) (wMember m)))) ∧
    (u.hears b 0x17 m → v.destined m → v.namesHead m → (v.wallOf (wMember m % 8)).ready = some (wGroup m, wTag m) →
      exec (.lateCommit t b m) s = .next (s.done (v.lateCommit (wMember m % 8) (wGroup m) (wRound m)))) ∧
    (u.hears b 0x17 m → v.destined m → v.namesHead m → (v.wallOf (wMember m % 8)).ready ≠ some (wGroup m, wTag m) →
      exec (.lateCommit t b m) s = .next (s.done v)) ∧
    (u.hears b 0x18 m → v.destined m → v.isMaster = true → exec (.selfExcluded t b m) s =
      .next (s.done (v.masterSelfExcl (wGroup m) (wMember m))))

/-- Management messages (R238, R249, R250) and mailboxes (R249, R251): a request is served and answered; a secure one that does not
come from address 0 is refused; a response that answers no request is dropped; one that does completes it, and so does 10 ms. -/
def Obligations.Management : Prop :=
  ∀ t s u b m v, Finds t s u → v = u.heard b m →
    (u.hears b 0x40 m → v.destined m → exec (.mgmtRead t b m) s = .next (s.done (v.serveMsg m))) ∧
    (u.hears b 0x41 m → v.destined m → exec (.mgmtWrite t b m) s = .next (s.done (v.serveMsg m))) ∧
    (u.hears b 0x41 m → v.destined m → mTop m = true → mSrc m ≠ 0 → exec (.mgmtWrite t b m) s = .next (s.done
      ((v.err PG_CHN SECURE_DENIED).unicast (v.mgmtRsp m SECURE_DENIED 0 [])))) ∧
    (u.hears b 0x42 m → v.destined m → v.mbOf (mb m 6) (mTop m) = false → exec (.readRsp t b m) s = .next (s.done v)) ∧
    (u.hears b 0x42 m → v.destined m → v.mbOf (mb m 6) (mTop m) = true → exec (.readRsp t b m) s = .next (s.done
      ((v.mbStore (mTop m) (bytesWords (mb m 7 / 4) (m.drop 12))).mbDone (mTop m) (mb m 8) (mb m 9)))) ∧
    (u.hears b 0x43 m → v.destined m → v.mbOf (mb m 6) (mTop m) = true → exec (.writeRsp t b m) s =
      .next (s.done (v.mbDone (mTop m) (mb m 8) (mb m 9)))) ∧
    (∀ p sec w, Requests (.mbGo t p sec w) s u p PG_CHN (if sec then 0x180 else 0x100)
      (State.plainWrite (portSecure p) PG_CHN (if sec then 0x180 else 0x100) w) (mbGoAct sec)) ∧
    (∀ sec x, u.mbReq.find? (fun p => p.1 == (if sec then 1 else 0)) = some x → x.2.2 + 10000000 ≤ u.walltime →
      exec (.mbTimeout t sec) s = .next (s.done (u.mbDone sec TIMEOUT 0)))

/-- The chain's own timers (R231, R240 to R246, R255, R261): probes, marks, steps of time, the one-second marks; TIME_SET, TIME_PPS_IN and the readmission
request of the wall (R28, R243, R258). -/
def Obligations.ChainTimers : Prop :=
  ∀ t s u b, Finds t s u →
    (∀ t1, u.portUp b = true → u.portRole b = 1 ∨ u.portRole b = 3 → exec (.delayProbe t b t1) s = .next (s.done
      { u.setPort b fun x => { x with probe := some t1 } with probeOut := u.probeOut ++ [(pnum b, [t1])] })) ∧
    (∀ rx tx, u.portUp b = true ∨ u.portSt b = cTRAINING ∨ u.portSt b = cHELD → exec (.probeReceived t b rx tx) s =
      .next (s.done { u with probeOut := u.probeOut ++ [(pnum b, [rx, tx])] })) ∧
    (∀ t1 t2 t3 t4 avg freq, exec (.delayProbeReply t b t1 t2 t3 t4 avg freq) s =
      .next (s.done (u.probeReply b t1 t2 t3 t4 avg freq))) ∧
    (u.isMaster = true → (∀ d, u.walkAt = some d → d + 100000000 ≤ u.walltime) → exec (.enumWalk t false) s = .next (s.done
      ({ u with walkRing := false, walkDue := true, walkAt := some u.walltime }.sendEnum false u.unitCount 0))) ∧
    (u.isMaster = true → u.walkDue = true → u.walkRing = true →
      exec (.enumWalk t true) s = .next (s.done { u with walkDue := false })) ∧
    (u.isMaster = true → u.walkDue = true → u.walkRing = false →
      exec (.enumWalk t true) s = .next (s.done ({ u with walkDue := false }.sendEnum true u.unitCount 1))) ∧
    (u.isMaster = false → exec (.enumWalk t b) s = .next (s.done u)) ∧
    (∀ n, u.markNext = some n → u.markNs n ≤ u.walltime + 250000 →
      exec (.markSend t) s = .next (s.done { u.sendMark n (u.markNs n) with markNext := some (n + 1) })) ∧
    (∀ k, u.marks = [k] → k.time ≤ u.walltime → exec (.chainMarkFire t) s = .next (s.done (u.fireMark k))) ∧
    (∀ g n, g < 64 → u.isMaster = true → u.g64 PG_CHN R.CHN_MARK_SEQ_LO_SEQ R.CHN_MARK_SEQ_HI_SEQ = n →
      0 < u.g64 PG_CHN R.CHN_MARK_TIME_LO_TIME R.CHN_MARK_TIME_HI_TIME →
      u.g64 PG_CHN R.CHN_MARK_TIME_LO_TIME R.CHN_MARK_TIME_HI_TIME + u.gf PG_CHN R.CHN_WALL_CFG_VOTE_US * 1000 ≤ u.walltime →
      (u.group g).voted ≠ some n → exec (.wallVoteLine t g) s = .next (s.done (u.voteGroup g n))) ∧
    (∀ h g tag, h < 8 → (u.wallOf h).ready = some (g, tag) → u.hasPath = false → exec (.selfExclude t h) s =
      .next (s.done ((u.excludeHere h g 1 false).toMaster 0x18 h g 0 0))) ∧
    (∀ at_ new, u.stepAt = some (at_, new) → at_ ≤ u.walltime → u.mayStep = true → exec (.timeStepApply t) s =
      .next (s.done ({ u with stepAt := none }.stepTime (new + (u.walltime - at_))))) ∧
    (u.tf PG_TIME R.TIME_MARK_OUT_EN = true → u.markOutNext < u.walltime / 1000000000 * 1000000000 →
      exec (.timeMarkOutPulse t) s = .next (s.done { u with
        markOutNext := u.walltime / 1000000000 * 1000000000
        markHigh := some (u.gf PG_TIME R.TIME_MARK_OUT_PIN, u.walltime + 10000) })) ∧
    (∀ p, Requests (.timeSetGo t p) s u p PG_TIME 0x5C id timeSetAct) ∧
    (∀ p v, Requests (.wallReadmitCmd t p v) s u p PG_CHN 0xA0 (State.plainWrite (portSecure p) PG_CHN 0xA0 v) (readmitAct v)) ∧
    (u.isMaster = true → u.tf PG_TIME R.TIME_PPS_CTRL_EN = true → u.mayStep = false → exec (.ppsEdge t) s = .next (s.done
      { (u.sf PG_TIME R.TIME_PPS_ERR_ERR (ofInt 32 (secondErr ((u.walltime : Int) - (u.gf PG_TIME R.TIME_PPS_CTRL_DELAY_NS : Int))))).sf
        PG_TIME R.TIME_STATUS_PPS_PRESENT 1 with ppsLast := some u.walltime })) ∧
    (∀ l, u.ppsLast = some l → u.isMaster = true → u.tf PG_TIME R.TIME_PPS_CTRL_EN = true → l + 3000000000 ≤ u.walltime →
      exec (.ppsLost t) s = .next (s.done (({ u with ppsLast := none }.sf PG_TIME R.TIME_STATUS_PPS_PRESENT 0).raise PG_TIME 3 {})))


/-! DisplayPort (chapter 08). -/

/-- Hot plug, capabilities, training and their timers (R266 to R269, R278, R280, R284). -/
def Obligations.DpLink : Prop :=
  ∀ t s u h, Finds t s u → h < 8 →
    (∀ terms, u.hpdWatched h = true → u.linkSt h ≠ lNO_SINK → u.gf (pgDpl h) R.DPL_STATUS_HPD_STUCK ≠ 1 → exec (.hpdPlug t h terms) s =
      .next (s.done ((u.sf (pgDpl h) R.DPL_STATUS_HPD 1).setDp h fun x => { x with hpdLow := false, stuckSince := none }))) ∧
    (∀ terms, exec (.hpdPlug t h terms) s = .next (s.done (u.hpdPlug h terms))) ∧
    (∀ d, u.hpdWatched h = true → u.linkSt h = lTRAINING → exec (.hpdIrq t h d) s =
      .next (s.done (u.setDp h fun x => { x with irq := some d }))) ∧
    (∀ d, u.hpdWatched h = true → u.linkSt h = lUP → u.tf (pgDpl h) R.DPL_STATUS_AUX_FAULT = false →
      exec (.hpdIrq t h d) s = .next (s.done (u.irqService h d))) ∧
    exec (.hpdUnplug t h) s = .next (s.done (u.hpdGone h)) ∧
    (∀ terms, exec (.terminationSense t h terms) s = .next (s.done (u.termSense h terms))) ∧
    (∀ terms, u.linkSt h = lREAD_CAPS → exec (.capsReadDone t h terms none) s =
      .next (s.done ((u.setDp h fun x => { x with terms }).capsFail h))) ∧
    (∀ terms caps, exec (.capsReadDone t h terms caps) s = .next (s.done (u.capsDone h terms caps))) ∧
    (∀ cr1 cr2 eq, exec (.trainConfigDone t h cr1 cr2 eq) s = .next (s.done (u.trainConfig h cr1 cr2 eq))) ∧
    (u.linkSt h = lFAILED → (u.dp h).failAt + 1000000000 ≤ u.walltime → u.gf (pgDpl h) R.DPL_STATUS_FAIL_REASON ≠ NO_RESOURCE →
      u.gf (pgDpl h) R.DPL_STATUS_HPD_STUCK ≠ 2 → exec (.linkFailRetry t h) s = .next (s.done (u.readCaps h))) ∧
    (∀ p, Requests (.dplRetrain t p h) s u p (pgDpl h) 0x40 id (dplRetrainAct h)) ∧
    (∀ hpd, exec (.panelSeqTimer t { head := h, hpd }) s = .next (s.done (u.panelTimer h hpd)))

/-- AUX requests and their ends, and shorts on AUX and the lanes (R268, R275, R276, R281, R282). -/
def Obligations.DpAux : Prop :=
  ∀ t s u h, Finds t s u → h < 8 →
    (∀ p v, u.admits p (pgDpl h) 0x60 → exec (.auxGo t p h v) s = .next (s.done ((auxAct (portSecure p) h (putBits v 31 1 1)).run
      (u.plainWrite (portSecure p) (pgDpl h) 0x60 (putBits v 31 1 1))))) ∧
    (∀ p v, u.portServed p = true → u.writeCode (portSecure p) (pgDpl h) 0x60 15 = some (SECURE_DENIED, pgDpl h) →
      exec (.auxGo t p h v) s = .next (s.done ((u.err (pgDpl h) SECURE_DENIED).sf (pgDpl h) R.DPL_AUX_STATUS_STATUS SECURE_DENIED))) ∧
    (∀ a r y, u.tf (pgDpl h) R.DPL_STATUS_AUX_FAULT = false →
      exec (.auxTransactionDone t h true a r y) s = .next (s.done (u.swReply h a r y))) ∧
    (∀ a r y, u.tf (pgDpl h) R.DPL_STATUS_AUX_FAULT = false →
      exec (.auxTransactionDone t h false a r y) s = .next (s.done (u.llReply h a r y))) ∧
    (∀ sw a r y, u.tf (pgDpl h) R.DPL_STATUS_AUX_FAULT = true → exec (.auxTransactionDone t h sw a r y) s = .next (s.done u)) ∧
    (∀ sw a r, u.tf (pgDpl h) R.DPL_STATUS_AUX_FAULT = false →
      exec (.auxReplyTimeout t h sw a r) s = .next (s.done (u.auxError h sw a r))) ∧
    exec (.auxDeferRetry t h true) s = .next (s.done (u.setDp h fun x => { x with swWait := false })) ∧
    exec (.auxDeferRetry t h false) s = .next (s.done (u.setDp h fun x => { x with llWait := false })) ∧
    (∀ k, k = 1 ∨ k = 2 → u.pstate (pgDpl h) ≠ pOFF → exec (.auxShort t h k) s = .next (s.done (u.auxShorts h k))) ∧
    exec (.auxFaultClear t h) s = .next (s.done (u.auxClears h)) ∧
    (∀ l k, l < 4 → k = 1 ∨ k = 2 → u.pstate (pgDpl h) ≠ pOFF → bit (u.gf (pgDpl h) R.DPL_STATUS_LANE_SHORT) l = false →
      ∃ v, exec (.laneShortDetect t h l k) s = .next (s.done v) ∧ ((v = (u.sf (pgDpl h) R.DPL_STATUS_LANE_SHORT
        (setBit (u.gf (pgDpl h) R.DPL_STATUS_LANE_SHORT) l true)).dplRaise h 10 { d6 := l, d7 := k }) ∨
        v = ((u.sf (pgDpl h) R.DPL_STATUS_LANE_SHORT
          (setBit (u.gf (pgDpl h) R.DPL_STATUS_LANE_SHORT) l true)).dplRaise h 10 { d6 := l, d7 := k }).retrain h 1)) ∧
    (∀ l, l < 4 → bit (u.gf (pgDpl h) R.DPL_STATUS_LANE_SHORT) l = true → u.linkSt h ≠ lFAILED →
      exec (.laneShortClear t h l) s = .next (s.done (u.sf (pgDpl h) R.DPL_STATUS_LANE_SHORT
        (setBit (u.gf (pgDpl h) R.DPL_STATUS_LANE_SHORT) l false))))

/-! The host interface and instances (chapter 09). -/

/-- The link and the reset of the function (R294, R295): going down, coming up at a rate and width that R290 supports, PERST_N, FLR. -/
def Obligations.PcieEvents : Prop :=
  ∀ t s u, Finds t s u →
    (u.linkUp = true → exec (.pcieLinkDown t) s = .next (s.done u.linkDrop)) ∧
    (∀ g w, exec (.pcieLinkUp t g w) s = .next (s.done (u.linkRise g w))) ∧
    (u.perstLow = false → u.linkUp = true → exec (.perstNAssert t) s = .next (s.done { u.linkDrop.pciReset with perstLow := true })) ∧
    (u.perstLow = false → u.linkUp = false → exec (.perstNAssert t) s = .next (s.done { u.pciReset with perstLow := true })) ∧
    (u.perstLow = true → exec (.perstNRelease t) s = .next (s.done ({ u with perstLow := false }.raise PG_PCI 2 { d6 := 1 }))) ∧
    (u.linkUp = true → u.mode ≠ ENUMERATE → exec (.flr t) s = .next (s.done (u.pciReset.raise PG_PCI 2 {}))) ∧
    (∀ reg be v, u.linkUp = true → u.mode ≠ ENUMERATE → ∃ x, exec (.pcieConfigurationRequest t false reg be v) s =
      .next (s.done { u with reply := [x], freeCtr := u.freeCtr + 1 })) ∧
    (∀ w reg be v, u.linkUp = true → u.mode = ENUMERATE → exec (.pcieConfigurationRequest t w reg be v) s =
      .next (s.done { u with reply := [] }))

/-- Guest windows (R297, R298, R304, R305): the doorbell, the aperture base, the aperture, the ring index read back. -/
def Obligations.GuestWindows : Prop :=
  ∀ t s u i, Finds t s u → i < 256 → u.mode ≠ ENUMERATE →
    (∀ r v, r < 4 → u.mode ≠ FALLBACK → u.instState i = iACTIVE → bits v 0 14 < u.subSlots (4 * i + r) → u.subEn (4 * i + r) = true →
      exec (.doorbellWrite t i r v) s =
        .next (s.done ((u.setWin i (0x20 + 8 * r) (BitVec.ofNat 32 (bits v 0 14))).perf 0x0E 1 (some i) false))) ∧
    (∀ r v, r < 4 → u.mode ≠ FALLBACK → u.instState i = iACTIVE → u.subSlots (4 * i + r) ≤ bits v 0 14 →
      exec (.doorbellWrite t i r v) s =
        .next (s.done ((u.winError i BAD_ARG).raise PG_INST 7 { status := BAD_ARG, d6 := i, d7 := r, inst := some i }))) ∧
    (∀ v, exec (.winEvtRdWrite t i v) s = .next (s.done ((u.setWin i 0x14 (BitVec.ofNat 32 (bits v 0 16))).ringGap i))) ∧
    (∀ v, bits v 0 15 < u.ent i 2 16 15 * 2 → exec (.winApertureWrite t i v) s =
      .next (s.done (u.setWin i 0x04 (BitVec.ofNat 32 (bits v 0 15))))) ∧
    (∀ v, u.ent i 2 16 15 * 2 ≤ bits v 0 15 → exec (.winApertureWrite t i v) s =
      .next (s.done ((u.winError i BAD_ARG).err PG_INST BAD_ARG))) ∧
    (∀ off len, off + len ≤ 1048576 → u.instState i ≠ iACTIVE → exec (.apertureAccess t i off len none) s =
      .next (s.done { u with reply := List.replicate ((len + 3) / 4) 0#32 })) ∧
    (∀ off len bs, off + len ≤ 1048576 → u.instState i = iACTIVE →
      u.apertureAt i off + len ≤ (u.ent i 2 0 14 + u.ent i 2 16 15) * 2097152 → exec (.apertureAccess t i off len (some bs)) s =
      .next (s.done (u.memWrite { code := 1, inst := some i } (u.apertureAt i off) ((List.range len).map fun k => bs.getD k 0#8)))) ∧
    (∀ off len wd, exec (.apertureAccess t i off len wd) s = .next (s.done (u.aperture i off len wd)))

/-- INST_CMD, MIG_CMD, INST_C0_RES and the instance table are requests with R75's order of refusals (R300 to R302, R309, R322). -/
def Obligations.InstRequests : Prop :=
  ∀ t s u p i, Finds t s u →
    (∀ c op, (c, op) ∈ [(Instr.instOpen t p i, 0), (.instActivate t p i, 1), (.instReset t p i, 2), (.instClose t p i, 3),
        (.instSuspend t p i, 4), (.instResume t p i, 5), (.instExport t p i, 6), (.instImport t p i, 7)] →
      Requests c s u p PG_INST 0x40
        (State.plainWrite (portSecure p) PG_INST 0x40 (BitVec.ofNat 32 (i % 256 + op * 256))) instCmdAct) ∧
    (∀ c op, (c, op) ∈ [(Instr.migDramToHost t p i, 0), (.migHostToDram t p i, 1), (.migSnapshot t p i, 2)] →
      Requests c s u p PG_DMA 0x64
        (State.plainWrite (portSecure p) PG_DMA 0x64 (BitVec.ofNat 32 (op + i % 256 * 256))) migAct) ∧
    (∀ v, Requests (.instC0ResWrite t p v) s u p PG_INST 0x58 id (c0ResAct v)) ∧
    (∀ w v, u.portServed p = true → i < 256 → w < 64 → u.entryCode p i w v = none →
      exec (.instEntryWrite t p i w v) s = .next (s.done (u.entryPut i w v))) ∧
    (∀ w v k, u.portServed p = true → i < 256 → w < 64 → u.entryCode p i w v = some k →
      exec (.instEntryWrite t p i w v) s = .next (s.done (u.err PG_INST k)))

/-- The ends of an instance's operations (R311, R313, R317, R318, R319, R322): RESETTING ends once nothing of the instance remains; a
suspension once nothing of it is in progress. -/
def Obligations.InstEvents : Prop :=
  ∀ t s u i, Finds t s u →
    (u.instState i = iRESETTING → u.resetOver i = true → exec (.instResetDone t i) s = .next (s.done
      (((((forEach (u.inst i).heldRecs (fun r v => v.evtLost i (pair64 (nthW r 2) (nthW r 3))) u).clearGrant i).setInstState i iSETUP
        OK).setInst i fun x => { lostAt := x.lostAt }).raise PG_INST 0
        { d6 := i, d7 := (u.walltime - (u.inst i).resetAt) / 1000, inst := some i }))) ∧
    (u.instState i = iRESETTING → u.resetOver i = false → exec (.instResetDone t i) s = .next (s.done u)) ∧
    (u.instState i = iACTIVE → (u.inst i).suspending = true → (∀ x ∈ u.cmds, qInst x.2.q ≠ some i) →
      exec (.suspendDone t i) s = .next (s.done
        (((u.setInstState i iSUSPENDED OK).setInst i fun x => { x with suspending := false }).raise PG_INST 2 { d6 := i, inst := some i }))) ∧
    ((u.inst i).exporting = true → u.linkUp = true → u.busMaster = true → exec (.exportDone t i) s = .next (s.done
      ((u.hostPut none (u.inst i).ctxAt (u.ctxBytes i)).exportEnd i OK (u.ctxLen i)))) ∧
    ((u.inst i).exporting = true → u.linkUp = false → exec (.exportDone t i) s = .next (s.done (u.exportEnd i LINK_ERROR 0))) ∧
    (∀ bs c, (u.inst i).importing = true → u.linkUp = false →
      exec (.importDone t i { bytes := bs, ctx := c }) s = .next (s.done (u.importEnd i LINK_ERROR))) ∧
    (∀ bs c, (u.inst i).importing = true → u.linkUp = true → u.busMaster = true → u.ctxBad i bs c = true →
      exec (.importDone t i { bytes := bs, ctx := c }) s = .next (s.done ((u.hostGet none (u.inst i).ctxAt (u.ctxLen i)).importEnd i BAD_ARG))) ∧
    (∀ bs c, (u.inst i).importing = true → u.linkUp = true → u.busMaster = true → u.ctxBad i bs c = false → u.instState i = iSETUP →
      refusal (u.activateChecks i) = none → exec (.importDone t i { bytes := bs, ctx := c }) s = .next (s.done
        (((((u.hostGet none (u.inst i).ctxAt (u.ctxLen i)).importAll i c).setInstState i iSUSPENDED OK).setInst i fun x =>
          { x with holds := true }).showRes.refreshFit.importEnd i OK))) ∧
    exec (.resRestoreTimer t) s = .next (s.done u.restoreDue) ∧
    (u.tf PG_DMA R.MIG_STATUS_BUSY = false → exec (.migDone t none) s = .next (s.done u)) ∧
    (u.tf PG_DMA R.MIG_STATUS_BUSY = true → u.mig.len ≤ u.mig.moved → (u.wwait.any fun w => w.by_.mig) = false →
      exec (.migDone t none) s = .next (s.done (u.migEnd OK))) ∧
    (u.tf PG_DMA R.MIG_STATUS_BUSY = true → u.mig.moved < u.mig.len → u.linkUp = false →
      exec (.migDone t none) s = .next (s.done (u.migEnd LINK_ERROR))) ∧
    (∀ ch d, exec (.migDone t (some (ch, d))) s = .next (s.done (u.migChunk ch d).migDone))

/-! The secure world (chapter 10). -/

/-- The secure world's requests: hand-over, the secure rings, the service ring, watermarks, performance counters (R328 to R333, R339,
R350); and, in the terms of the state alone, where each is granted and what it then does. -/
def Obligations.SecureRequests : Prop :=
  ∀ t s u p v, Finds t s u →
    Requests (.handoverStart t p v) s u p PG_SEC 0x70 (State.plainWrite (portSecure p) PG_SEC 0x70 v) hoAct ∧
    (∀ r, r < 2 → Requests (.secSubEnable t p r v) s u p PG_SEC (0xA8 + 0x10 * r) id (subCtrlAct r v)) ∧
    (∀ r, r < 2 → Requests (.secDoorbell t p r v) s u p PG_SEC (0xAC + 0x10 * r) id (subTailAct r v)) ∧
    Requests (.svcEnable t p v) s u p PG_SEC 0x50 id (svcCtrlAct v) ∧
    Requests (.wmDramWrite t p v) s u p PG_WMARK 0x40 id (wmDramAct v) ∧
    Requests (.wmSdtWrite t p v) s u p PG_WMARK 0x44 id (wmSdtAct v) ∧
    Requests (.wmSramWrite t p v) s u p PG_WMARK 0x48 id (wmSramAct v) ∧
    Requests (.perfClear t p) s u p PG_PERF 0x40 id perfClearAct ∧
    (∀ w b, u.admits p PG_SEC 0x70 → w = u.plainWrite (portSecure p) PG_SEC 0x70 v → b = w.gf PG_SEC R.SEC_HO_CMD_BLOCK_ID →
      blkOk b = true → w.blkBusy b = false → fhas w.handovers b = false → w.blkSecure b = !w.tf PG_SEC R.SEC_HO_CMD_TO_WORLD →
      (w.tf PG_SEC R.SEC_HO_CMD_FORCE = true → w.tf PG_SEC R.SEC_HO_CMD_TO_WORLD = true) →
      (w.tf PG_SEC R.SEC_HO_CMD_TO_WORLD = true → w.tf PG_SEC R.SEC_HO_CMD_FORCE = true ∨ w.blkGrants b = []) →
      exec (.handoverStart t p v) s =
        .next (s.done ((w.sf PG_SEC R.SEC_HO_STATUS_BUSY 1).hoStart b (w.tf PG_SEC R.SEC_HO_CMD_TO_WORLD) true none))) ∧
    (∀ r b, r < 2 → u.admits p PG_SEC (0xA8 + 0x10 * r) → b = u.g64 PG_SEC (R.SEC_SUB_BASE_LO_BASE r) (R.SEC_SUB_BASE_HI_BASE r) →
      bits v 0 3 ≠ 7 → bits v 3 1 = 0 ∨ (b % 4096 = 0 ∧ b + 4096 * 2 ^ bits v 0 3 ≤ u.wmDram) → exec (.secSubEnable t p r v) s =
        .next (s.done ((u.sf PG_SEC (R.SEC_SUB_CTRL_SIZE r) (bits v 0 3)).sf PG_SEC (R.SEC_SUB_CTRL_EN r) (bits v 3 1)))) ∧
    (∀ r, r < 2 → u.admits p PG_SEC (0xAC + 0x10 * r) → bits v 0 14 < u.subSlots (1024 + r) → u.subEn (1024 + r) = true →
      exec (.secDoorbell t p r v) s = .next (s.done (u.sf PG_SEC (R.SEC_SUB_TAIL_TAIL r) (bits v 0 14)))) ∧
    (∀ n, u.admits p PG_SEC 0x50 → n = bits v 1 3 → n ≤ 4 → bits v 0 1 = 0 ∨ (u.svcBase % 4096 = 0 ∧ u.argArea 0 % 4096 = 0 ∧
        u.svcBase + 4096 * 2 ^ n ≤ u.wmDram ∧ u.argArea 0 + 262144 * 2 ^ n ≤ u.wmDram) →
      exec (.svcEnable t p v) s = .next (s.done (((u.sf PG_SEC R.SEC_SVC_CTRL_ENABLE (bits v 0 1)).sf PG_SEC R.SEC_SVC_CTRL_SIZE n).sf
        PG_SEC R.SEC_SVC_CTRL_LIMIT (bits v 16 16)))) ∧
    (u.tf PG_WMARK R.LOCK_LOCKED = false → u.mode = ENUMERATE ∨ u.mode = CONFIGURE ∨ u.mode = FALLBACK →
      (∀ n o, u.admits p PG_WMARK 0x40 → n = bits v 0 15 → o = u.gf PG_WMARK R.WM_DRAM_LEVEL → n ≤ u.wmDramMax →
        (o < n → u.belowDram (n * 2097152) = false) → (n < o → u.aboveDram (n * 2097152) = false) →
        exec (.wmDramWrite t p v) s = .next (s.done ((u.clearPages (512 * min n o) (512 * max n o)).wmSet 0 R.WM_DRAM_LEVEL n))) ∧
      (∀ n, u.admits p PG_WMARK 0x44 → n = bits v 0 13 → n ≤ 4096 →
        (∀ i ∈ u.openInsts, u.wmSdt < n → u.ent i 4 16 13 = 0 ∨ n ≤ u.ent i 4 0 12) →
        (∀ e ∈ u.sdt, n ≤ e.1 → e.1 < u.wmSdt → e.2.state = sFREE) →
        exec (.wmSdtWrite t p v) s = .next (s.done (u.wmSet 1 R.WM_SDT_LEVEL n))) ∧
      (∀ n o, u.admits p PG_WMARK 0x48 → n = bits v 0 7 → o = u.gf PG_WMARK R.WM_SRAM_LEVEL → n ≤ 96 →
        exec (.wmSramWrite t p v) s = .next (s.done ((u.dropSlots fun k =>
          decide (16 * min n o ≤ k) && decide (k < 16 * max n o)).wmSet 2 R.WM_SRAM_LEVEL n)))) ∧
    (u.admits p PG_PERF 0x40 → exec (.perfClear t p) s = .next (s.done
      (forNat 32 (fun k v => (v.sf PG_PERF (R.PERF_CNT_LO_COUNT k) 0).sf PG_PERF (R.PERF_CNT_HI_COUNT k) 0) u)))

/-- A block's release and scrub in a hand-over (R340, R341): the old owner's settings go as the scrub begins; the hand-over ends with
the scrub. -/
def Obligations.HandoverEvents : Prop :=
  ∀ t s u blk, Finds t s u →
    (fhas u.handovers blk = false → exec (.handoverRelease t blk) s = .next (s.done u)) ∧
    (∀ x, fhas u.handovers blk = true → fget ({} : Handover) u.handovers blk = x → x.scrubbing = false → blkKind blk = 1 →
      exec (.handoverRelease t blk) s = .next (s.done ((u.scrubGroup (blkIdx blk)).hoOwner blk x.toSecure))) ∧
    (∀ x, fhas u.handovers blk = true → fget ({} : Handover) u.handovers blk = x → x.scrubbing = false → blkKind blk = 2 →
      u.hapSt (blkIdx blk) ≠ cBRAKE →
      exec (.handoverRelease t blk) s = .next (s.done ((u.scrubHap (blkIdx blk)).hoOwner blk x.toSecure))) ∧
    (∀ x, fhas u.handovers blk = true → fget ({} : Handover) u.handovers blk = x → x.scrubbing = false → blkKind blk = 3 →
      exec (.handoverRelease t blk) s = .next (s.done ((u.scrubStr (blkIdx blk)).hoOwner blk x.toSecure))) ∧
    (fhas u.handovers blk = false → exec (.handoverScrubEnd t blk) s = .next (s.done u)) ∧
    (blkKind blk ≠ 0 → exec (.handoverScrubEnd t blk) s = .next (s.done (u.hoEnd blk))) ∧
    (blkKind blk = 0 → u.headSt (blkIdx blk) = hIDLE → exec (.handoverScrubEnd t blk) s = .next (s.done (u.hoEnd blk)))

/-- The debug port (R347, R349): without the right in force an attempt is only reported; with it a read answers the register, a write
is made as a write from that port, and a Conductor halts at once but for a normal halt inside a secure list, which waits. -/
def Obligations.DebugPort : Prop :=
  ∀ t s u, Finds t s u → u.tapReset = true →
    (∀ off, 0x100000 ≤ off → off < 0x200000 → bit u.dbgEffective 3 = false → exec (.dbgAccess t (.read false off)) s =
      .next (s.done ({ u with reply := [0#32] }.raise PG_DEBUG 1 { d6 := dbgPage off, d7 := 0 }))) ∧
    (∀ off v, 0x100000 ≤ off → off < 0x200000 → bit u.dbgEffective 2 = false → exec (.dbgAccess t (.write false off v)) s =
      .next (s.done (u.raise PG_DEBUG 1 { d6 := dbgPage off, d7 := 1 }))) ∧
    (∀ sec off v, 0x100000 ≤ off → off < 0x200000 → bit u.dbgEffective (if sec then 0 else 2) = true →
      u.wordWaits off = false → exec (.dbgAccess t (.write sec off v)) s = .next (s.done (u.writeAt mbGoAct (.jtag sec) off 15 v).2)) ∧
    (∀ sec off v, 0x100000 ≤ off → off < 0x200000 → bit u.dbgEffective (if sec then 0 else 2) = true → u.wordWaits off = true →
      exec (.dbgAccess t (.write sec off v)) s = .next (s.done { u.holdAcc (.debug (.write sec off v)) with reply := [] })) ∧
    (∀ sec off v, off < 0x100000 ∨ 0x200000 ≤ off → exec (.dbgAccess t (.write sec off v)) s = .next (s.done u)) ∧
    (∀ c, c ≤ 8 → bit u.dbgEffective 0 = true → exec (.dbgAccess t (.haltCnd true c)) s = .next (s.done (u.cndHalt c true))) ∧
    (∀ c, c ≤ 8 → bit u.dbgEffective 2 = true → u.inSecureList c = true → exec (.dbgAccess t (.haltCnd false c)) s =
      .next (s.done { u with haltReq := nadd u.haltReq c })) ∧
    (∀ c, c ≤ 8 → bit u.dbgEffective 2 = true → exec (.dbgAccess t (.runCnd false c)) s = .next (s.done (u.cndHalt c false))) ∧
    (bit u.dbgEffective 0 = true →
      exec (.dbgAccess t .haltGh) s = .next (s.done (u.sf PG_DEBUG R.DBG_STATUS_GH_HALTED 1)))

/-! Memory (chapter 11) and its errors (chapter 12). -/

/-- The memory controller's events (R360, R365 to R375, R391), each on a group whose devices it works; initialisation, set points and
the service action (R369, R371 to R373, R375): the set point in VALID is entered when the switch or the full training ends. -/
def Obligations.MemoryEvents : Prop :=
  (∀ t s u g, Finds t s u → g < 2 → u.memUp g = true →
    (u.wbOcc g ≠ 0 → u.tf (pgMem g) R.MEM_STATUS_DRAINING = false →
      exec (.idleDrainStart t g) s = .next (s.done (u.setMgrp g fun x => { x with idleDrain := true }))) ∧
    (∀ blk e r, groupOf blk = g → fhas u.wbuf blk = true → u.drains g = true → (u.writeBlock blk e r).wbOcc g ≠ 0 →
      exec (.writeBufferBlockWritten t g blk e r) s = .next (s.done (u.writeBlock blk e r))) ∧
    (∀ blk e r, groupOf blk ≠ g ∨ fhas u.wbuf blk = false ∨ u.drains g = false →
      exec (.writeBufferBlockWritten t g blk e r) s = .next (s.done u)) ∧
    (∀ urgent, exec (.refreshDue t g urgent) s = .next (s.done (u.refreshDue g urgent))) ∧
    (u.refreshMay g = true → exec (.refreshIssue t g) s = .next (s.done (u.refreshOut g))) ∧
    (u.refreshMay g = false → exec (.refreshIssue t g) s = .next (s.done u)) ∧
    ((u.mgrp g).owed = [] → (u.mgrp g).pulled.length < 8 → exec (.refreshPullIn t g) s = .next (s.done
      ((u.setMgrp g fun x => { x with pulled := x.pulled ++ [((u.mgrp g).nextPair + (u.mgrp g).pulled.length) % 8] }).owedShow g))) ∧
    ((u.mgrp g).owed ≠ [] → exec (.refreshPullIn t g) s = .next (s.done u)) ∧
    (∀ temps hot, exec (.mr4Poll t g temps hot) s = .next (s.done (u.mr4 g temps hot))) ∧
    (∀ v, v = u.setMgrp g (fun x => { x with stepLast := some u.walltime, stepAt := u.walltime }) → (u.mgrp g).stepRuns = false →
      (u.mgrp g).stepDue = false → u.stepNow g = true →
      exec (.retrainStepDue t g true) s = .next (s.done (v.setMgrp g fun x => { x with stepDue := true })) ∧
      exec (.retrainStepDue t g false) s = .next (s.done (v.stepBegins g))) ∧
    ((u.mgrp g).stepRuns = false → (u.mgrp g).stepDue = true →
      exec (.retrainStepDue t g true) s = .next (s.done (u.setMgrp g fun x => { x with stepDue := true })) ∧
      exec (.retrainStepDue t g false) s = .next (s.done (u.stepBegins g))) ∧
    (u.stepNow g = false → ∀ urgent, exec (.retrainStepDue t g urgent) s = .next (s.done u)) ∧
    ((u.mgrp g).stepDue = true → (u.mgrp g).stepAt + 10000000 ≤ u.walltime → exec (.retrainStepPostponeLimit t g) s =
      .next (s.done (u.setMgrp g fun x => { x with stepForced := true }))) ∧
    (∀ drift, exec (.retrainStepEnd t g drift) s = .next (s.done (u.stepEnds g drift))) ∧
    (∀ page, u.filling page = true → exec (.pageFillDone t page) s = .next (s.done
      ({ (u.bumpW 14 R.MEM_WR_BLOCKS_BLOCKS 16).bumpW 15 R.MEM_WR_BLOCKS_BLOCKS 16 with
        validPg := nadd u.validPg page, fills := u.fills.filter fun f => f.page != page } : State).pump))) ∧
  (∀ t s u, Finds t s u →
    (∀ d r, u.mode = ENUMERATE → u.capBytes = 0 → exec (.memInitDone t d r) s = .next (s.done (u.memInit d r))) ∧
    (∀ d r, u.mode ≠ ENUMERATE → exec (.memInitDone t d r) s = .next (s.done u)) ∧
    (u.tf 14 R.MEM_FREQ_BUSY = true → bit (u.gf 14 R.MEM_FREQ_VALID) (u.mgrp 0).reqSp = true →
      exec (.freqSwitchDone t) s = .next (s.done (u.freqEnd (u.mgrp 0).reqSp))) ∧
    (∀ c, u.tf 14 R.MEM_FREQ_BUSY = true → bit (u.gf 14 R.MEM_FREQ_VALID) (u.mgrp 0).reqSp = false →
      exec (.fullTrainingDone t (some c)) s = .next (s.done (((u.sfUnit R.MEM_STATUS_TRAINING 0).raise (pgMem (c / 5)) 4
        { d6 := (u.mgrp 0).reqSp, d7 := c }).freqFailed))) ∧
    (u.tf 14 R.MEM_FREQ_BUSY = true → bit (u.gf 14 R.MEM_FREQ_VALID) (u.mgrp 0).reqSp = true →
      ∀ f, exec (.fullTrainingDone t f) s = .next (s.done u)) ∧
    (∀ g a f, g < 2 → u.pstate (pgMem g) = pSERVICE → (u.mgrp g).svcRuns = some a → a ≠ 0 → exec (.memSvcActionDone t g f) s =
      .next (s.done ((u.setMgrp g fun x => { x with svcRuns := none }).sf (pgMem g) R.MEM_SVC_PROGRESS 100))))

/-- The Sweeper, the range pass, the error log and its repairs (R394 to R402), and the requests to them (R397, R398, R401). -/
def Obligations.SweepEvents : Prop :=
  ∀ t s u g, Finds t s u → g < 2 →
    (∀ e r, exec (.sweeperRead t g e r) s = .next (s.done (u.sweepRead g e r))) ∧
    (u.capBytes ≠ 0 → u.gf (pgSwp g) R.SWP_CTRL_LAP_WARN_MIN ≠ 0 → (u.sweepOf g).slow = false →
      (u.sweepOf g).lapAt + u.gf (pgSwp g) R.SWP_CTRL_LAP_WARN_MIN * 60000000000 ≤ u.localTime (5 + g) →
      exec (.lapSlow t g) s = .next (s.done ((u.setSweep g fun x => { x with slow := true }).raise (pgSwp g) 4
        { d6 := u.gf (pgSwp g) R.SWP_CTRL_LAP_WARN_MIN }))) ∧
    (u.rangeOver = true → exec (.rangeDone t) s = .next (s.done (u.rangeEnd OK))) ∧
    (u.rangeOver = false → exec (.rangeDone t) s = .next (s.done u)) ∧
    (∀ n e r, exec (.scrubRewrite t g n e r) s = .next (s.done (u.scrubRewrite g n e r))) ∧
    (∀ n, n < 64 → (u.logEnt g n).state = 1 → (u.logEnt g n).queued = true → (u.logEnt g n).queuedAt + 1000000 ≤ u.walltime →
      exec (.scrubRewritePromote t g n) s = .next (s.done (u.setLog g n { u.logEnt g n with urgent := true }))) ∧
    (∀ n, n < 64 → u.pstate (pgMem g) = pSERVICE → (u.mgrp g).svcRuns = some 1 → (u.logEnt g n).stays = true →
      (u.logEnt g n).marked = true → exec (.repairDone t g n OK) s = .next (s.done ((u.setLog g n {}).raise (pgSwp g) 7
        { status := OK, d6 := n, d7 := (u.logEnt g n).addr, secret := decide ((u.logEnt g n).addr < (u.setLog g n {}).wmDram) }))) ∧
    (∀ n k, n < 64 → u.pstate (pgMem g) = pSERVICE → (u.mgrp g).svcRuns = some 1 → (u.logEnt g n).stays = true →
      (u.logEnt g n).marked = true → k = NO_RESOURCE ∨ k = MEM_ERROR →
      ∃ v, exec (.repairDone t g n k) s = .next (s.done (v.err (pgSwp g) k)) ∧
        v = (u.setLog g n { u.logEnt g n with marked := false, repair := k }).raise (pgSwp g) 7
          { status := k, d6 := n, d7 := (u.logEnt g n).addr,
            secret := decide ((u.logEnt g n).addr < (u.setLog g n { u.logEnt g n with marked := false, repair := k }).wmDram) }) ∧
    (∀ p v, Requests (.rangeGo t p v) s u p 16 0x90 (State.plainWrite (portSecure p) 16 0x90 v) (rangeAct (portSecure p))) ∧
    (∀ p, Requests (.rangeAbort t p) s u p 16 0x90 id rangeAbortAct) ∧
    (∀ p e, e < 64 →
      Requests (.logMark t p g e) s u p (pgSwp g) 0x64 (fun x => x.sf (pgSwp g) R.SWP_LOG_SEL_INDEX e) (logMarkAct (portSecure p) g e) ∧
      Requests (.logUnmark t p g e) s u p (pgSwp g) 0x64 (fun x => x.sf (pgSwp g) R.SWP_LOG_SEL_INDEX e) (logUnmarkAct g e) ∧
      Requests (.logFree t p g e) s u p (pgSwp g) 0x64 (fun x => x.sf (pgSwp g) R.SWP_LOG_SEL_INDEX e) (logFreeAct (portSecure p) g e))


/-! The console (chapter 13). -/

/-- Touch and haptics (R408, R411, R433 to R437). -/
def Obligations.TouchHaptics : Prop :=
  ∀ t s u, Finds t s u →
    (u.scanOn = true → u.tf PG_TCH R.TCH_STATUS_SCANNING = true → u.tch.inCycle = false → u.tch.n = 0 →
      u.gf PG_TCH R.COMMIT_STATUS_STATE ≠ 2 → exec (.scanCycleStart t) s =
      .next (s.done { u with tch := { u.tch with inCycle := true, startAt := u.walltime } })) ∧
    (∀ a b n, u.scanOn = true → u.tch.inCycle = true → exec (.scanCycleEnd t a b n) s = .next (s.done (u.cycleEnd a b n))) ∧
    (∀ since ns, u.tch.idle = some since → idleStep (u.gf PG_TCH R.TCH_STATUS_RATE) = some ns → u.scanOn = true →
      u.tf PG_TCH R.TCH_CTRL_IDLE_EN = true → since + ns ≤ u.walltime →
      exec (.idleRateStep t) s = .next (s.done (u.rateTo (u.gf PG_TCH R.TCH_STATUS_RATE + 1)))) ∧
    (∀ ch, ch < 4 → u.hapLive = true → u.hapTested ch = false → u.tf PG_HAP (R.HAP_CH_CTRL_TRIG_EN ch) = true →
      u.gf PG_HAP (R.HAP_CH_CTRL_TRIG_SLOT ch) / 8 = ch → u.gf PG_HAP (R.HAP_CH_CTRL_TRIG_EDGE ch) = 0 →
      exec (.hapTrigEdge t ch true) s =
        .next (s.done (u.trigger ch (u.gf PG_HAP (R.HAP_CH_CTRL_TRIG_SLOT ch)) none fun _ x => x)) ∧
      exec (.hapTrigEdge t ch false) s = .next (s.done u)) ∧
    (∀ ch, ch < 4 → (u.hap ch).phaseAt + u.phaseMs (u.hapSlot ch) (u.hapSt ch) * 1000000 ≤ u.walltime →
      exec (.hapPhaseEnd t ch) s = .next (s.done (u.phaseEnd ch))) ∧
    (∀ ch, (u.hap ch).timed = none → exec (.hapTimedStart t ch) s = .next (s.done u)) ∧
    (∀ ch q, (u.hap ch).timed = some q → q.start ≤ u.localTime (islandOf PG_HAP) → u.hapLive = true →
      exec (.hapTimedStart t ch) s = .next (s.done (((u.setHap ch fun x => { x with timed := none }).sf PG_HAP
        (R.HAP_CH_STATUS_TIMED ch) 0).trigger ch q.slot q.cmd fun c x => x.hapCmd q.cmd c))) ∧
    (∀ ch, ch < 4 → u.hapSt ch = cKICK ∨ u.hapSt ch = cSUSTAIN → u.dutyOver ch = true → exec (.hapDutyReached t ch) s =
      .next (s.done ((u.blkRaise PG_HAP 1 (u.hapOwner ch) { d6 := ch, d7 := u.dutyNow ch }).toBrake ch))) ∧
    (∀ ch, u.hapOn ch = true → exec (.hapShortDetect t ch) s = .next (s.done (u.hapFault ch 2))) ∧
    (∀ ch a, u.hapOn ch = true → (u.hap ch).full = some a → a + 1000000 ≤ u.walltime →
      exec (.hapOpenDetect t ch) s = .next (s.done (u.hapFault ch 1))) ∧
    (∀ ch mv, u.hapOn ch = true → exec (.backEmfSample t ch mv) s = .next (s.done (u.backEmf ch mv))) ∧
    (∀ mv, u.pstate PG_HAP ≠ pOFF → exec (.vddHapMeasure t mv) s = .next (s.done (u.vddHap mv)))

/-- Audio (R439 to R444): the ports' clock, cues, generators and the duck. -/
def Obligations.AudioEvents : Prop :=
  ∀ t s u, Finds t s u →
    (∀ port, port < 2 → u.tf PG_AUD (R.AUD_PORT_CFG_TARGET port) = true →
      exec (.tdmClockLock t port) s = .next (s.done (u.clockLock port))) ∧
    (∀ port, port < 2 → exec (.tdmNoClock t port) s = .next (s.done (u.clockLost port))) ∧
    (∀ n, n < 16 → exec (.cueStart t n) s = .next (s.done (u.cueFrame n))) ∧
    (∀ n, n < 16 → u.tdmSt (u.strPort n) = tRUN → exec (.cueEnd t n) s = .next (s.done (u.cueEnds n))) ∧
    (∀ n, n < 16 → u.tdmSt (u.strPort n) ≠ tRUN → exec (.cueEnd t n) s = .next (s.done u)) ∧
    (∀ n z e, n < 16 → exec (.cueDataReadDone t n z e) s = .next (s.done (u.cueData n z e))) ∧
    (∀ g, fhas u.alarms g = true → (u.alarm g).on = true → u.gf PG_AUD (R.ALM_PATTERN_OFF_MS g) ≠ 0 →
      (u.alarm g).at_ + u.gf PG_AUD (R.ALM_PATTERN_ON_MS g) * 1000000 ≤ u.walltime → exec (.alarmPatternStep t g) s =
      .next (s.done { u with alarms := fmod {} u.alarms g fun _ => { on := false, at_ := u.walltime } }.duckAll)) ∧
    (∀ g, g < 4 → u.tf PG_AUD (R.ALM_CTRL_EN g) = true → u.alarmMode = true → fhas u.alarms g = false →
      u.tdmSt (u.gf PG_AUD (R.ALM_CTRL_PORT g)) = tRUN → exec (.generatorStart t g) s =
      .next (s.done { u with alarms := fset u.alarms g { on := true, at_ := u.walltime } }.duckAll)) ∧
    (∀ n d, n < 16 → (u.strm n).duckHold = some d → d ≤ u.walltime →
      exec (.duckHoldExpire t n) s = .next (s.done (u.duckTo n 0)))


/-! Self-test, updates, supplies, the secure management port (chapters 14 and 15). -/

/-- The requests of BIST, the traffic generator, the spare Conductor, updates and the flash (R449, R458, R463, R465, R477). -/
def Obligations.TestRequests : Prop :=
  ∀ t s u p v, Finds t s u →
    (∀ c k, (c, k) ∈ [(Instr.bistSramMarch t p v, 0), (.bistDramMarch t p v, 1), (.bistDpLoopback t p v, 2), (.bistPixelPll t p v, 3),
        (.bistChainLoopback t p v, 4), (.bistTouchRef t p v, 5), (.bistHapticBridge t p v, 6), (.bistTdmLoopback t p v, 7),
        (.bistTempSensors t p v, 8)] →
      Requests c s u p PG_BIST 0x40 (State.plainWrite (portSecure p) PG_BIST 0x40 (putBits v 16 4 k))
        (bistGoAct (portSecure p) (bits v 0 8) (bits v 8 8) k)) ∧
    Requests (.bistAbort t p) s u p PG_BIST 0x40 id bistAbortAct ∧
    Requests (.tgEnable t p v) s u p PG_BIST 0x70 (fun x => x.plainWrite (portSecure p) PG_BIST 0x70
      (putBits v 0 1 (x.gf PG_BIST R.BIST_TG_CTRL_EN))) (tgAct (portSecure p) true) ∧
    Requests (.tgDisable t p) s u p PG_BIST 0x70 id (tgAct (portSecure p) false) ∧
    Requests (.cndSubstGo t p v) s u p PG_BIST 0x94 (State.plainWrite (portSecure p) PG_BIST 0x94 v) (substCndAct (bits v 0 4)) ∧
    Requests (.updateGhPatch t p v) s u p PG_BIST 0xA4 (State.plainWrite (portSecure p) PG_BIST 0xA4 (putBits v 0 3 3))
      (updAct 3 (bits v 8 4)) ∧
    Requests (.updateCndUcode t p v) s u p PG_BIST 0xA4 (State.plainWrite (portSecure p) PG_BIST 0xA4 (putBits v 0 3 4))
      (updAct 4 (bits v 8 4)) ∧
    (∀ c k, (c, k) ∈ [(Instr.qspiRead t p v, 0), (.qspiProgram t p v, 1), (.qspiErase t p v, 2)] →
      Requests c s u p PG_QSPI 0x50 (State.plainWrite (portSecure p) PG_QSPI 0x50 (putBits v 0 2 k))
        (qspiAct (portSecure p) k (bits v 8 9)))

/-- The ends of tests, updates and flash operations, and the check of an image copy (R452 to R467, R471, R477). -/
def Obligations.TestEvents : Prop :=
  ∀ t s u, Finds t s u →
    (∀ p n pass code mask errors, u.bistRun = some (p, n, 4) → exec (.bistAttemptDone t (.check pass code mask errors)) s =
      .next (s.done (u.bistCheck p n 4 pass code mask errors))) ∧
    (∀ r, u.bistRun = none → exec (.bistAttemptDone t r) s = .next (s.done u)) ∧
    (∀ needs, exec (.sramSoftRepairDone t needs) s = .next (s.done (u.softRepair needs))) ∧
    (∀ needs, u.softDone = true → exec (.sramSoftRepairDone t needs) s = .next (s.done u)) ∧
    (∀ mbps, u.tf PG_BIST R.BIST_TG_CTRL_EN = true → u.tgFirst = true → exec (.tgWindow t mbps) s = .next (s.done
      { ((forNat 2 (fun g v => (v.readComes g).bumpW (pgMem g) R.MEM_RD_BLOCKS_BLOCKS (mbps * 100000 / 256)) u).sf PG_BIST
        R.BIST_TG_MBPS_MBPS (min mbps 262143)).sf PG_BIST R.BIST_TG_MIN_MBPS (min mbps 262143) with tgFirst := false })) ∧
    exec (.cndSubstDone t) s = .next (s.done u.substCndDone) ∧
    (∀ c, c < 9 → exec (.cndFault t c) s = .next (s.done (u.faultPage (pgCnd c) MEM_ERROR))) ∧
    (∀ c v, u.update = some (3, c, v) → exec (.updateApplyDone t) s = .next (s.done
      ((({ u with update := none, ghVersion := v } : State).sf PG_BIST R.BIST_UPD_CTRL_RESULT OK).raise PG_BIST 4 { d6 := 3, d7 := v }))) ∧
    (∀ a n data, u.qspiOp = some (2, a, n) → exec (.qspiOpComplete t data) s = .next (s.done
      ((({ u with qspiOp := none }.sf PG_QSPI R.QSPI_OP_STATUS_BUSY 0).sf PG_QSPI R.QSPI_OP_STATUS_RESULT OK).raise PG_QSPI 0
        { status := OK, d6 := 2, d7 := a }))) ∧
    (∀ op a n, u.qspiOp = some (op, a, n) → u.qspiAt + 2000000000 ≤ u.walltime → exec (.qspiOpTimeout t) s = .next (s.done
      (((({ u with qspiOp := none }.sf PG_QSPI R.QSPI_OP_STATUS_BUSY 0).sf PG_QSPI R.QSPI_OP_STATUS_RESULT TIMEOUT).raise PG_QSPI 0
        { status := TIMEOUT, d6 := op, d7 := a }).err PG_QSPI TIMEOUT))) ∧
    (∀ ok bs, u.mode = ENUMERATE → u.jtagHold = false → u.gf PG_QSPI R.QSPI_STATUS_CHECK_A = 0 → copyCode ok bs = 0 →
      exec (.copyCheckDone t false ok bs) s = .next (s.done ((u.sf PG_QSPI R.QSPI_STATUS_CHECK_A 0).applyImage false bs))) ∧
    (∀ ok bs, u.mode = ENUMERATE → u.jtagHold = false → u.gf PG_QSPI R.QSPI_STATUS_CHECK_A = 0 → copyCode ok bs ≠ 0 →
      exec (.copyCheckDone t false ok bs) s = .next (s.done (u.sf PG_QSPI R.QSPI_STATUS_CHECK_A (copyCode ok bs)))) ∧
    (∀ ok bs, u.mode = ENUMERATE → u.jtagHold = false → u.gf PG_QSPI R.QSPI_STATUS_CHECK_A ≠ 0 → copyCode ok bs ≠ 0 →
      exec (.copyCheckDone t true ok bs) s = .next (s.done (u.sf PG_QSPI R.QSPI_STATUS_CHECK_B (copyCode ok bs)).fallback))

/-- Supplies, temperatures and pins (R502 to R505). -/
def Obligations.MonitorEvents : Prop :=
  ∀ t s u, Finds t s u →
    (∀ mv temps, u.monRuns = true → exec (.monSample t mv temps) s = .next (s.done
      (forNat 6 (fun k v => v.tempSample k (temps.getD k 0)) (forNat 13 (fun r v => v.railSample r (mv.getD r 0)) u)).tjFollow)) ∧
    (∀ mv temps, u.monRuns = false → exec (.monSample t mv temps) s = .next (s.done u)) ∧
    (∀ c, u.hotSince = some c → u.monRuns = true → u.tf PG_MON R.MON_STATUS_ALERT = true → c + 1000000000 ≤ u.walltime →
      exec (.tempNormalTimer t) s = .next (s.done ((u.sf PG_MON R.MON_STATUS_ALERT 0).tempEvent 2))) ∧
    (∀ pin rising v, pin < 32 → v = u.sf PG_GPIO R.GPIO_IN_LEVEL (setBit (u.gf PG_GPIO R.GPIO_IN_LEVEL) pin rising) →
      v.pstate PG_GPIO = pRUN → bit (v.gf PG_GPIO (if rising then R.GPIO_EDGE_EN_RISE else R.GPIO_EDGE_EN_F_FALL)) pin = true →
      exec (.gpioEdge t pin rising) s =
        .next (s.done (v.blkRaise PG_GPIO 0 (v.gpioOwner (pin / 8)) { d6 := pin, d7 := if rising then 1 else 0 }))) ∧
    (∀ pin rising v, pin < 32 → v = u.sf PG_GPIO R.GPIO_IN_LEVEL (setBit (u.gf PG_GPIO R.GPIO_IN_LEVEL) pin rising) →
      bit (v.gf PG_GPIO (if rising then R.GPIO_EDGE_EN_RISE else R.GPIO_EDGE_EN_F_FALL)) pin = false →
      exec (.gpioEdge t pin rising) s = .next (s.done v))

/-- The secure management port (R498 to R501): SMP_IRQ_N is low exactly while a secure page shows an event and its bank drives (R484); a frame cut off before its
CRC performs nothing; a wrong CRC answers LINK_ERROR, then an unknown command BAD_OPCODE, then a misaligned address BAD_ARG, all of them
with nothing performed; a good request is performed from the secure world, all its words, or waits for the die-to-die link with 0x00 sent;
at the timeout, the words done by then. -/
def Obligations.SmpFrames : Prop :=
  ∀ t s u f, Finds t s u →
    (f.length < smpLen f → exec (.smpWrite t f) s = .next (s.done { u with smpOut := [] }) ∧
      exec (.smpRead t f) s = .next (s.done { u with smpOut := [] })) ∧
    exec (.smpCsEarlyRise t) s = .next (s.done { u with smpOut := [] }) ∧
    (u.smpIrqLow = true ↔ u.bankBad 0 = false ∧ ∃ p ∈ allPages, (secureOnlyPage p = true ∨ u.secureOwned p = true) ∧ u.evtStatus p ≠ 0) ∧
    (smpLen f ≤ f.length → crc8 (f.take (smpLen f - 1)) ≠ mb f (smpLen f - 1) →
      exec (.smpWrite t f) s = .next (s.done { u with smpOut := smpReply { code := LINK_ERROR } }) ∧
      exec (.smpRead t f) s = .next (s.done { u with smpOut := smpReply { code := LINK_ERROR } })) ∧
    (smpLen f ≤ f.length → crc8 (f.take (smpLen f - 1)) = mb f (smpLen f - 1) → mb f 0 ≠ 2 → mb f 0 ≠ 3 →
      exec (.smpRead t f) s = .next (s.done { u with smpOut := smpReply { code := BAD_OPCODE } })) ∧
    (smpLen f ≤ f.length → crc8 (f.take (smpLen f - 1)) = mb f (smpLen f - 1) → mb f 0 = 2 ∨ mb f 0 = 3 → smpAddr f % 4 ≠ 0 →
      exec (.smpRead t f) s = .next (s.done { u with smpOut := smpReply { code := BAD_ARG } })) ∧
    (smpLen f ≤ f.length → crc8 (f.take (smpLen f - 1)) = mb f (smpLen f - 1) → smpAddr f % 4 = 0 → mb f 5 ≤ 15 → mb f 0 = 2 →
      u.runWaits (smpAddr f) (mb f 5 + 1) = false →
      exec (.smpWrite t f) s = .next (s.done { (u.writeWords mbGoAct .smp (bytesWords (mb f 5 + 1) (f.drop 6)) (smpAddr f)).2 with
        smpOut := smpReply (u.writeWords mbGoAct .smp (bytesWords (mb f 5 + 1) (f.drop 6)) (smpAddr f)).1 })) ∧
    (smpLen f ≤ f.length → crc8 (f.take (smpLen f - 1)) = mb f (smpLen f - 1) → smpAddr f % 4 = 0 → mb f 5 ≤ 15 → mb f 0 = 3 →
      u.runWaits (smpAddr f) (mb f 5 + 1) = false →
      exec (.smpRead t f) s = .next (s.done { (u.readWords .smp (mb f 5 + 1) (smpAddr f)).2 with
        smpOut := smpReply (u.readWords .smp (mb f 5 + 1) (smpAddr f)).1 })) ∧
    (smpLen f ≤ f.length → crc8 (f.take (smpLen f - 1)) = mb f (smpLen f - 1) → smpAddr f % 4 = 0 → mb f 5 ≤ 15 → mb f 0 = 2 →
      u.runWaits (smpAddr f) (mb f 5 + 1) = true →
      exec (.smpWrite t f) s = .next (s.done { u.holdAcc (.smp f 16) with smpOut := [] })) ∧
    (∀ n, exec (.smpTimeout t f n) s = .next (s.done (State.smpServe f
      ((List.range n).takeWhile fun k => !u.wordWaits (smpAddr f + 4 * k)).length
      { u with d2dHeld := u.d2dHeld.filter fun a => a != HeldAcc.smp f 16 })))

/-! Rules of the shared operations. -/

/-- Access to registers (R33, R52, R53, R55, R60): in ENUMERATE BAR 0 is not served; a write with fewer than four bytes, one to a
reserved range or offset, and a normal-world one to a secure-only page change nothing but the error registers. -/
def Obligations.AccessRules : Prop :=
  ∀ t s u, Finds t s u →
    (∀ off be v, u.mode = ENUMERATE → exec (.registerWrite t .bar0 off be v) s = .next (s.done u)) ∧
    (∀ p pg o off be v, u.portServed p = true → u.wordWaits off = false → region51 p off = .page pg o → regExists pg o = true →
      (companionPage pg && !sysHeld o && !u.d2dOk) = false → be ≠ 15 →
      exec (.registerWrite t p off be v) s = .next (s.done (u.err pg BAD_ARG))) ∧
    (∀ p off be v, u.portServed p = true → region51 p off = .reserved →
      exec (.registerWrite t p off be v) s = .next (s.done (u.err PG_SYS BAD_ARG))) ∧
    (∀ p pg o off be v, u.portServed p = true → region51 p off = .page pg o → regExists pg o = false →
      companionPage pg = false → o ≠ 0x08 →
      exec (.registerWrite t p off be v) s = .next (s.done (u.err PG_SYS BAD_ARG))) ∧
    (∀ p pg o off v, u.portServed p = true → portSecure p = false → region51 p off = .page pg o → regExists pg o = true →
      secureOnlyPage pg = true → o ≠ 0x08 →
      exec (.registerWrite t p off 15 v) s = .next (s.done (u.err pg SECURE_DENIED)))

/-- An occurrence of an event (R67): EVT_RAW and LAST_EVT_TIME; EVT_MISS and no record where the bit was 1; a record where it was 0
and EVT_ENABLE holds 1 for it; nothing else changes. -/
def Obligations.EventRule : Prop :=
  ∀ (s : State) p b ev, b < 32 →
    (bit (s.gf p R.EVT_RAW_RAW) b = true → ∃ v : State, s.raise p b ev = v ∧ v = { s with regs := v.regs } ∧
      v.gf p R.EVT_RAW_RAW = s.gf p R.EVT_RAW_RAW ∧ v.gf p R.EVT_MISS_COUNT = min (s.gf p R.EVT_MISS_COUNT + 1) (2 ^ 24 - 1) ∧
      v.gf p R.EVT_MISS_LAST_BIT = b ∧
      v.g64 p R.LAST_EVT_TIME_LO_TIME R.LAST_EVT_TIME_HI_TIME = s.localTime (islandOf p) % 2 ^ 64 ∧
      ∀ k, k ≠ pageBase p + 0x1C → k ≠ pageBase p + 0x28 → k ≠ pageBase p + 0x2C → v.rd k = s.rd k) ∧
    (bit (s.gf p R.EVT_RAW_RAW) b = false → bit (s.gf p R.EVT_ENABLE_ENABLE) b = false →
      ∃ v : State, s.raise p b ev = v ∧ v = { s with regs := v.regs } ∧ v.gf p R.EVT_RAW_RAW = s.gf p R.EVT_RAW_RAW + 2 ^ b ∧
      v.g64 p R.LAST_EVT_TIME_LO_TIME R.LAST_EVT_TIME_HI_TIME = s.localTime (islandOf p) % 2 ^ 64 ∧
      ∀ k, k ≠ pageBase p + 0x10 → k ≠ pageBase p + 0x28 → k ≠ pageBase p + 0x2C → v.rd k = s.rd k) ∧
    (bit (s.gf p R.EVT_RAW_RAW) b = false → bit (s.gf p R.EVT_ENABLE_ENABLE) b = true →
      s.raise p b ev = (s.flagEvt p b).emit p (evCode p b) ev)

/-- An error of a page (R76): it is counted; while VALID is 1 nothing else happens; else it is captured, VALID goes to 1 and
ERROR_CAPTURED is raised. -/
def Obligations.ErrorRule : Prop :=
  ∀ (s : State) p c, pageExists p = true → c < 256 →
    (s.tf p R.ERR_CAPTURE_VALID = true → ∃ v : State, s.err p c = v ∧ v = { s with regs := v.regs } ∧
      (∀ k, k ≠ pageBase p + 0x24 → v.rd k = s.rd k)) ∧
    (s.err p c).gf p R.ERR_COUNT_ERRORS = min (s.gf p R.ERR_COUNT_ERRORS + 1) 65535 ∧
    (s.tf p R.ERR_CAPTURE_VALID = false →
      (s.err p c).gf p R.ERR_CAPTURE_CODE = c ∧ (s.err p c).tf p R.ERR_CAPTURE_VALID = true ∧
      ∃ d v, s.err p c = State.raise p 30 { d6 := c, d7 := d } v)

/-- A journal (R79, R80): disabled it takes no record; a record that finds the ring full is dropped and counted, and leaves DRAM, the
ring's index and every register of the other pages as they were; else the record is stored and the index moves to the next slot. -/
def Obligations.JournalRule : Prop :=
  ∀ (s : State) p rec,
    (s.tf p R.JRN_CTRL_ENABLE = false → s.jrnPut p rec = s) ∧
    (s.tf p R.JRN_CTRL_ENABLE = true → s.jrnFull p = true →
      (s.jrnPut p rec).dram = s.dram ∧ (s.jrnPut p rec).wbuf = s.wbuf ∧ (s.jrnPut p rec).wwait = s.wwait ∧
      (s.jrnPut p rec).insts = s.insts ∧ (s.jrnPut p rec).gf p R.JRN_WR_INDEX = s.gf p R.JRN_WR_INDEX ∧
      (s.gf p R.JRN_LOST_COUNT < (s.jrnPut p rec).gf p R.JRN_LOST_COUNT ∨ s.gf p R.JRN_LOST_COUNT = 2 ^ 32 - 1) ∧
      ∀ k, k < pageBase p ∨ pageBase p + 0x1000 ≤ k → (s.jrnPut p rec).rd k = s.rd k) ∧
    (s.jrnStore p rec).gf p R.JRN_WR_INDEX = (s.gf p R.JRN_WR_INDEX + 1) % s.jrnSlots p % 2 ^ 19

/-- A write to plain fields (R57): an RW field takes the value at once and nothing else changes; an RWL field is ignored once the page
is locked, with NO_RIGHT. -/
def Obligations.PlainFields : Prop :=
  ∀ (s : State) sec p off v r, findRow (pageRows p) off = some r → isPairLo p off = false → isPairLo p (off - 4) = false →
    s.openBits sec p off = 0xFFFFFFFF → s.badBits p off v = 0 → s.handingBits p off = 0 → r.rw < 2 ^ 32 →
    (r.w1c = 0 → r.rws = 0 → r.rwl = 0 →
      (∀ k, (s.plainPut sec p off v).rd k = if k = regKey p off then
        (s.rd k &&& ~~~BitVec.ofNat 32 r.rw) ||| (v &&& BitVec.ofNat 32 r.rw) else s.rd k) ∧
      s.plainPut sec p off v = { s with regs := (s.plainPut sec p off v).regs }) ∧
    (s.tf p R.LOCK_LOCKED = true → r.rw = 0 → r.w1c = 0 → r.rws = 0 → r.rwl ≠ 0 →
      ((p = PG_JRN_N ∨ p = PG_JRN_S ∨ p = PG_SEC) → off ≠ 0x40 ∧ off ≠ 0x44) → s.plainWrite sec p off v = s.err p NO_RIGHT)

/-- The effective debug enables (R347), which DBG_EFFECTIVE shows. -/
def Obligations.DebugEnables : Prop :=
  ∀ (s : State) (e : Nat → Bool),
    (∀ i, e i = (!Config.fuseDebugKill && (bit (s.rd (regKey PG_DEBUG 0x40)).toNat i || bit Config.fuseDebugEn i))) →
    s.dbgEffective < 16 ∧ bit s.dbgEffective 0 = e 0 ∧ bit s.dbgEffective 1 = (e 1 || e 0) ∧ bit s.dbgEffective 2 = (e 2 || e 0) ∧
    bit s.dbgEffective 3 = (e 3 || e 2 || e 1 || e 0) ∧
    ∀ sec, s.viewWord sec PG_DEBUG 0x48 = BitVec.ofNat 32 s.dbgEffective

/-- The DRAM watermark (R325): an access of the normal world that starts below it reads zeros and stores nothing, whatever the grants
say, and is reported; the secure world's is not checked against it. -/
def Obligations.WatermarkIsolation : Prop :=
  ∀ (s : State) (ag : Agent) a,
    (ag.secure = false → a < s.wmDram →
      (∀ n, s.memBytes ag a n = List.replicate n 0#8) ∧ (∀ bs, bs ≠ [] → s.memWrite ag a bs = s.wmViolation ag a)) ∧
    (ag.secure = true → ∀ n, s.memCode ag a n ≠ SECURE_DENIED)

/-- Writes of the watermarks (R328, R329): never by the normal world; refused in other modes than ENUMERATE, CONFIGURE and FALLBACK,
and after LOCK, with no effect but RESULT and the error registers. -/
def Obligations.WatermarkWrites : Prop :=
  (∀ (s : State) off, off = 0x40 ∨ off = 0x44 ∨ off = 0x48 → s.writeCode false PG_WMARK off 15 = some (SECURE_DENIED, PG_WMARK)) ∧
  (∀ (s : State) v, (wmSramAct v).code s = none ↔ bits v 0 7 ≤ 96 ∧ s.tf PG_WMARK R.LOCK_LOCKED = false ∧
    (s.mode = ENUMERATE ∨ s.mode = CONFIGURE ∨ s.mode = FALLBACK)) ∧
  (∀ (s : State) v (a : Act), a = wmDramAct v ∨ a = wmSdtAct v ∨ a = wmSramAct v →
    (a.code s = none → s.tf PG_WMARK R.LOCK_LOCKED = false ∧ (s.mode = ENUMERATE ∨ s.mode = CONFIGURE ∨ s.mode = FALLBACK)) ∧
    ∀ c, a.refused c s = (s.sf PG_WMARK R.WM_STATUS_RESULT c).err PG_WMARK c)

/-- When GO of a mailbox is taken (R249), and from which states an instance's operations are (R302), the page in RUN. -/
def Obligations.RequestCodes : Prop :=
  (∀ (s : State) sec, s.pstate PG_CHN = pRUN → s.addrValid = true → s.gf PG_CHN (mbFld sec R.MB_CMD_DST) = s.ownAddr →
    (s.mbCode sec = none ↔ s.tf PG_CHN (mbFld sec R.MB_STATUS_BUSY) = false ∧
      1 ≤ s.gf PG_CHN (mbFld sec R.MB_CMD_COUNT) ∧ s.gf PG_CHN (mbFld sec R.MB_CMD_COUNT) ≤ 16 ∧
      0x100000 ≤ s.gf PG_CHN (mbFld sec R.MB_OFFSET_OFFSET) ∧ s.gf PG_CHN (mbFld sec R.MB_OFFSET_OFFSET) < 0x200000 ∧
      s.gf PG_CHN (mbFld sec R.MB_OFFSET_OFFSET) % 4 = 0 ∧
      s.gf PG_CHN (mbFld sec R.MB_OFFSET_OFFSET) % 0x1000 + 4 * s.gf PG_CHN (mbFld sec R.MB_CMD_COUNT) ≤ 0x1000)) ∧
  (∀ (s : State) i op, s.pstate PG_INST = pRUN → s.gf PG_INST R.INST_CMD_INSTANCE = i → s.gf PG_INST R.INST_CMD_OP = op →
    (op = 0 → (instCmdAct.code s = none ↔ s.instState i = iUNASSIGNED)) ∧
    (op = 1 → instCmdAct.code s = none → s.instState i = iSETUP) ∧
    (op = 2 → (instCmdAct.code s = none ↔ s.instState i = iACTIVE ∨ s.instState i = iSUSPENDED ∨ s.instState i = iFAULTED)) ∧
    (op = 3 → (instCmdAct.code s = none ↔ s.instState i = iSETUP)) ∧
    (op = 4 → (instCmdAct.code s = none ↔ s.instState i = iACTIVE)) ∧
    (op = 5 → (instCmdAct.code s = none ↔ s.instState i = iSUSPENDED)) ∧
    (op = 6 → instCmdAct.code s = none → s.instState i = iSUSPENDED) ∧
    (op = 7 → instCmdAct.code s = none → s.instState i = iSETUP))

/-- Blending (R135): a plane's pixel is blended over the colour below it with the global alpha widened to 12 bits (R91); the rule for
every component in the three modes; and what follows from it: 12-bit results; full alpha replaces the colour below; a global alpha of 0
leaves it. -/
def Obligations.Blending : Prop :=
  (∀ (s : State) h x y p (m : Mix), (s.planePix h p x y).show_ = true → (s.planePix h p x y).bad = false →
    s.over h x y p m = (blend m.1 (s.planePix h p x y).alpha (s.planePix h p x y).col (widen (s.plane h p).act.galpha 8)
      (s.planePix h p x y).mode, m.2)) ∧
  (∀ v, v < 256 → widen v 8 = v * 16 + v / 16) ∧
  (∀ x y, mul12 x y = (x * y + 2047) / 4095) ∧
  ∀ (cd cs : Rgb) (a g : Nat), cd.1 ≤ 4095 → cd.2.1 ≤ 4095 → cd.2.2 ≤ 4095 → cs.1 ≤ 4095 → cs.2.1 ≤ 4095 → cs.2.2 ≤ 4095 →
    a ≤ 4095 → g ≤ 4095 →
    (∀ k : Rgb → Nat, k ∈ [fun c => c.1, fun c => c.2.1, fun c => c.2.2] →
      k (blend cd a cs g 0) = min 4095 (mul12 (k cs) (mul12 a g) + mul12 (k cd) (4095 - mul12 a g)) ∧
      k (blend cd a cs g 1) = min 4095 (mul12 (k cs) g + mul12 (k cd) (4095 - mul12 a g)) ∧
      k (blend cd a cs g 2) = min 4095 (mul12 (k cs) g + mul12 (k cd) (4095 - g))) ∧
    (∀ m, (blend cd a cs g m).1 ≤ 4095 ∧ (blend cd a cs g m).2.1 ≤ 4095 ∧ (blend cd a cs g m).2.2 ≤ 4095) ∧
    (∀ m, blend cd 4095 cs 4095 m = cs) ∧ (∀ m, blend cd a cs 0 m = cd) ∧ blend cd 0 cs g 0 = cd ∧
    (g = 4095 → blend cd a cs g 2 = cs)

/-- A slot sample (R442): it lies within the slot's width; a sum in range is exact at 32 bits; a sum out of range saturates and counts. -/
def Obligations.SlotSamples : Prop :=
  ∀ (parts : List Int) (w : Nat), w = 16 ∨ w = 24 ∨ w = 32 →
    (-(2 ^ (w - 1) : Int) ≤ (slotMix parts w).1 ∧ (slotMix parts w).1 ≤ 2 ^ (w - 1) - 1) ∧
    (w = 32 → -2147483648 ≤ parts.foldl (· + ·) 0 → parts.foldl (· + ·) 0 ≤ 2147483647 →
      slotMix parts w = (parts.foldl (· + ·) 0, false)) ∧
    (2147483647 < parts.foldl (· + ·) 0 → slotMix parts w = (2 ^ (w - 1) - 1, true)) ∧
    (parts.foldl (· + ·) 0 < -2147483648 → slotMix parts w = (-(2 ^ (w - 1)), true))

/-- What a port sends is good at the other end (R237, R238): the sealed message has its length and CRC right and keeps its type, its
sequence number in byte 1 and its other bytes. -/
def Obligations.ChainSeal : Prop :=
  ∀ (seq : Nat) (m : List Byte), 12 ≤ m.length →
    m.length = (if 0x40 ≤ mType m ∧ mType m ≤ 0x43 then 12 + mb m 7 else 24) →
    msgGood (sealMsg seq m) = true ∧ mType (sealMsg seq m) = mType m ∧ mSeq (sealMsg seq m) = seq % 256 ∧
    ((sealMsg seq m).take m.length).drop 2 = m.drop 2

/-- A write within one block of DRAM (R359): a reader sees the new bytes, and every other byte of memory as before; a write that must
wait changes no byte yet. -/
def Obligations.DramBytes : Prop :=
  ∀ (s : State) (blk off : Nat) (bs : List Byte) (w : Writer), off + bs.length ≤ 128 →
    (∀ sec a, a / 128 = blk → off ≤ a % 128 → a % 128 < off + bs.length →
      (s.wbMerge blk off bs sec).byteAt a = bs.getD (a % 128 - off) 0#8) ∧
    (∀ sec a, a / 128 ≠ blk ∨ a % 128 < off ∨ off + bs.length ≤ a % 128 → (s.wbMerge blk off bs sec).byteAt a = s.byteAt a) ∧
    (s.mustWait blk = true → ∀ a, (s.wbPut blk off bs w).byteAt a = s.byteAt a) ∧
    (s.mustWait blk = false → s.wbPut blk off bs w = s.wbMerge blk off bs w.sec)

/-- The check of a copy of the configuration image (R471): which check fails first, and what a copy that passes holds. -/
def Obligations.CopyCodes : Prop :=
  ∀ (bs : List Byte),
    copyCode false bs = 1 ∧ (∀ ok, copyCode ok bs ≤ 9) ∧
    (imgFld bs 0 4 ≠ 0x5452494D → copyCode true bs = 2) ∧
    (∀ ok, copyCode ok bs = 0 ↔ ok = true ∧ imgFld bs 0 4 = 0x5452494D ∧ imgFld bs 4 2 = 1 ∧ imgFld bs 6 2 = 64 ∧
      76 ≤ imgFld bs 8 4 ∧ imgFld bs 8 4 ≤ 16777216 ∧ imgFld bs 8 4 % 4 = 0 ∧ imgFld bs 16 2 = 0x8810 ∧ imgFld bs 18 2 ≤ 0x0B0 ∧
      (imgFld bs 24 8 = 0 ∨ imgFld bs 24 8 = Config.unitId) ∧ imgFld bs 8 4 ≤ bs.length ∧
      crc32 (bs.take (imgFld bs 8 4 - 4)) = imgFld bs (imgFld bs 8 4 - 4) 4 ∧
      ∃ l, imgParts bs = some l ∧ l.all sectionOk = true)

/-! Frames. -/

/-- What a write of EVT_ENABLE, LOCK, CLR_COUNTS, EVT_STATUS, ERR_CAPTURE, SEC_READY, of a journal's control, of a ring's tail, of an
aperture base, and a clear of the performance counters, a replay on the die-to-die link, a level of a pin and a short that is gone,
change: the registers named, to the values the rules give, and nothing else of the machine (R57, R64, R65, R67, R76, R79, R298, R333, R350). -/
def Obligations.RegisterFrames : Prop :=
  ∀ t s u p page, Finds t s u → s.deferred = [] →
    (u.admits p page 0x3C → ∃ v, exec (.lockSet t p page) s = .next v ∧ u.onlyWrites v [pageBase page + 0x3C] ∧
      v.tf page R.LOCK_LOCKED = true) ∧
    (∀ w, u.admits p page 0x18 → ∃ v, exec (.evtEnableWrite t p page w) s = .next v ∧ u.onlyWrites v [pageBase page + 0x18] ∧
      v.rd (pageBase page + 0x18) = w) ∧
    (u.admits p page 0x08 → ∃ v, exec (.clrCounts t p page) s = .next v ∧ u.onlyWrites v ((countRegs page).map fun x => pageBase page + x.1) ∧
      ∀ x ∈ countRegs page, v.rd (pageBase page + x.1) = u.rd (pageBase page + x.1) &&& x.2) ∧
    (∀ m, u.admits p page 0x14 → ∃ v, exec (.evtStatusClear t p page m []) s = .next v ∧ u.onlyWrites v [pageBase page + 0x10] ∧
      v.rd (pageBase page + 0x10) = u.rd (pageBase page + 0x10) &&& ~~~m) ∧
    (u.admits p page 0x20 → ∃ v, exec (.errCaptureClear t p page none) s = .next v ∧ u.onlyWrites v [pageBase page + 0x20] ∧
      v.rd (pageBase page + 0x20) = 0#32) ∧
    (∀ b, u.admits p PG_SYS 0x48 → ∃ v, exec (.secReadyWrite t p b) s = .next v ∧
      u.onlyWrites v ([pageBase PG_SYS + R.SYS_SEC_CTRL_SEC_READY.off, pageBase PG_SYS + R.SYS_STATE_SEC_READY.off] ++
        if b = true then [pageBase PG_WMARK + 0x3C] else []) ∧
      v.tf PG_SYS R.SYS_SEC_CTRL_SEC_READY = b ∧ v.tf PG_SYS R.SYS_STATE_SEC_READY = b ∧
      (b = true → v.tf PG_WMARK R.LOCK_LOCKED = true)) ∧
    (∀ w, page = PG_JRN_N ∨ page = PG_JRN_S → u.admits p page 0x48 → (jrnCtrlAct page w).code u = none →
      u.gf page R.JRN_LOST_COUNT = 0 ∨ u.tf page R.JRN_CTRL_ENABLE = true ∨ bit w.toNat 0 = false →
      ∃ v, exec (.jrnEnable t p page w) s = .next v ∧
        u.onlyWrites v [pageBase page + 0x48, pageBase page + 0x4C, pageBase page + 0x50] ∧
        v.tf page R.JRN_CTRL_ENABLE = bit w.toNat 0 ∧
        (u.tf page R.JRN_CTRL_ENABLE = false → bit w.toNat 0 = true → v.gf page R.JRN_WR_INDEX = 0 ∧ v.gf page R.JRN_RD_INDEX = 0)) ∧
    (∀ r w, r < 2 → u.admits p PG_SEC (0xAC + 0x10 * r) → (subTailAct r w).code u = none →
      ∃ v, exec (.secDoorbell t p r w) s = .next v ∧ u.onlyWrites v [pageBase PG_SEC + (R.SEC_SUB_TAIL_TAIL r).off] ∧
        v.gf PG_SEC (R.SEC_SUB_TAIL_TAIL r) = bits w 0 14) ∧
    (∀ i w, i < 256 → u.mode ≠ ENUMERATE → bits w 0 15 < u.ent i 2 16 15 * 2 →
      ∃ v, exec (.winApertureWrite t i w) s = .next v ∧ u.onlyWrites v [winKey i 4] ∧
        v.win i 4 = BitVec.ofNat 32 (bits w 0 15)) ∧
    (u.admits p PG_PERF 0x40 → ∃ v, exec (.perfClear t p) s = .next v ∧ v = { u with regs := v.regs } ∧
      (∀ k, k < 32 → v.g64 PG_PERF (R.PERF_CNT_LO_COUNT k) (R.PERF_CNT_HI_COUNT k) = 0) ∧
      ∀ k, k < pageBase PG_PERF + 0x100 ∨ pageBase PG_PERF + 0x200 ≤ k → v.rd k = u.rd k) ∧
    (∀ n, n < 8 → u.tf PG_SYS R.SYS_D2D_STATUS_LINK_UP = true → ∃ v, exec (.d2dTransferError t n) s = .next v ∧
      u.onlyWrites v [pageBase PG_SYS + R.SYS_D2D_STATUS_REPLAY_COUNT.off] ∧ v.tf PG_SYS R.SYS_D2D_STATUS_LINK_UP = true) ∧
    (∀ pin rising, pin < 32 → u.pstate PG_GPIO ≠ pRUN → ∃ v, exec (.gpioEdge t pin rising) s = .next v ∧
      u.onlyWrites v [pageBase PG_GPIO + R.GPIO_IN_LEVEL.off] ∧ bit (v.gf PG_GPIO R.GPIO_IN_LEVEL) pin = rising) ∧
    (∀ h l, h < 8 → l < 4 → bit (u.gf (pgDpl h) R.DPL_STATUS_LANE_SHORT) l = true → u.linkSt h ≠ lFAILED →
      ∃ v, exec (.laneShortClear t h l) s = .next v ∧ u.onlyWrites v [pageBase (pgDpl h) + R.DPL_STATUS_LANE_SHORT.off] ∧
        bit (v.gf (pgDpl h) R.DPL_STATUS_LANE_SHORT) l = false ∧ v.linkSt h = u.linkSt h)

/-- What a refused request or register write, a refused entry write, an attempt of the debug port without its right, a lost PPS, the rise
of PERST_N, a slow lap, the end of a service action and the ends of a flash erase leave as it was: device DRAM, the lists, the
commands, the heads and the planes, and every quiet register but those named (R53, R76, R300, R347, R375, R396, R477, R28, R294); put off
to the command's end is nothing but reports of records that the DRAM watermark or the capacity kept out of memory (R325, R355). -/
def Obligations.QuietFrames : Prop :=
  ∀ t s u k, Finds t s u → s.deferred = [] → Quiet k →
    (∀ c p page off pre a code pg, Requests c s u p page off pre a → u.portServed p = true → u.waitsD2d page off = false →
      u.writeCode (portSecure p) page off 15 = some (code, pg) → k ≠ pageBase pg + 0x20 → k ≠ pageBase pg + 0x24 →
      ∃ v, exec c s = .next (s.done v) ∧ Calm true k u v) ∧
    (∀ p off be w pg o code q, u.portServed p = true → u.wordWaits off = false → region51 p off = .page pg o → o ≠ 0x08 → pageType pg ≠ 0x0E →
      u.writeCode (portSecure p) pg o be = some (code, q) → k ≠ pageBase q + 0x20 → k ≠ pageBase q + 0x24 →
      ∃ v, exec (.registerWrite t p off be w) s = .next (s.done v) ∧ Calm true k u v) ∧
    (∀ p i w x code, u.portServed p = true → i < 256 → w < 64 → u.entryCode p i w x = some code → k ≠ pageBase PG_INST + 0x20 →
      k ≠ pageBase PG_INST + 0x24 → ∃ v, exec (.instEntryWrite t p i w x) s = .next (s.done v) ∧ Calm true k u v) ∧
    (∀ off, u.tapReset = true → 0x100000 ≤ off → off < 0x200000 → bit u.dbgEffective 3 = false →
      ∃ v, exec (.dbgAccess t (.read false off)) s = .next (s.done v) ∧ Calm true k u v) ∧
    (∀ off w, u.tapReset = true → 0x100000 ≤ off → off < 0x200000 → bit u.dbgEffective 2 = false →
      ∃ v, exec (.dbgAccess t (.write false off w)) s = .next (s.done v) ∧ Calm true k u v) ∧
    (∀ l, u.ppsLast = some l → u.isMaster = true → u.tf PG_TIME R.TIME_PPS_CTRL_EN = true → l + 3000000000 ≤ u.walltime →
      k ≠ pageBase PG_TIME + R.TIME_STATUS_PPS_PRESENT.off → ∃ v, exec (.ppsLost t) s = .next (s.done v) ∧ Calm true k u v) ∧
    (u.perstLow = true → ∃ v, exec (.perstNRelease t) s = .next (s.done v) ∧ Calm true k u v) ∧
    (∀ g, g < 2 → ∃ v, exec (.lapSlow t g) s = .next (s.done v) ∧ Calm true k u v) ∧
    (∀ g a f, g < 2 → u.pstate (pgMem g) = pSERVICE → (u.mgrp g).svcRuns = some a → a ≠ 0 →
      k ≠ pageBase (pgMem g) + R.MEM_SVC_PROGRESS.off → ∃ v, exec (.memSvcActionDone t g f) s = .next (s.done v) ∧ Calm true k u v) ∧
    (∀ a n data, u.qspiOp = some (2, a, n) → k ≠ pageBase PG_QSPI + R.QSPI_OP_STATUS_BUSY.off →
      ∃ v, exec (.qspiOpComplete t data) s = .next (s.done v) ∧ Calm true k u v) ∧
    (∀ x, u.qspiOp = some x → u.qspiAt + 2000000000 ≤ u.walltime → k ≠ pageBase PG_QSPI + R.QSPI_OP_STATUS_BUSY.off → k ≠ pageBase PG_QSPI + 0x20 →
      k ≠ pageBase PG_QSPI + 0x24 → ∃ v, exec (.qspiOpTimeout t) s = .next (s.done v) ∧ Calm true k u v)
end

