-- ==== Sys2Proof/Laws/Bytes.lean ====
section
/-! SUPPORT. Bytes and the CRC: the CRC-32 of bytes lies within 32 bits (R211), so its four bytes carry it. -/

namespace Sys2Proof.Machine

open Sys2Proof

theorem crcBit_lt {c : Nat} (h : c < 2 ^ 32) : crcBit c < 2 ^ 32 := by
  unfold crcBit
  split
  · exact Nat.xor_lt_two_pow (by omega) (by decide)
  · omega

theorem crcRun_lt (bs : List Byte) {c : Nat} (h : c < 2 ^ 32) : crcRun c bs < 2 ^ 32 := by
  induction bs generalizing c with
  | nil => exact h
  | cons b r ih =>
    refine ih ?_
    iterate 8 refine crcBit_lt ?_
    exact Nat.xor_lt_two_pow h (by omega)

theorem crc32_lt (bs : List Byte) : crc32 bs < 2 ^ 32 := Nat.xor_lt_two_pow (crcRun_lt bs (by decide)) (by decide)

theorem ofLe_crc32 (bs : List Byte) : ofLe (leBytes 4 (crc32 bs)) = crc32 bs := by
  have h := crc32_lt bs
  simp [leBytes, ofLe]
  omega

end Sys2Proof.Machine
end

