-- ==== Sys2Proof/Laws/Maps.lean ====
section
/-! SUPPORT. Laws of the finite maps and bit fields, and of the canonical form of memory. -/

namespace Sys2Proof.Laws

open Sys2Proof Sys2Proof.Machine

/-! Maps. -/

theorem fget_fset_same {α : Type} (d : α) (m : FMap α) (k : Nat) (v : α) : fget d (fset m k v) k = v := by
  induction m with
  | nil => simp [fset, fget]
  | cons p r ih =>
    obtain ⟨k', v'⟩ := p
    simp only [fset]
    split
    · simp [fget]
    · split
      · simp [fget]
      · simp [fget, *]

theorem fget_fset_other {α : Type} (d : α) (m : FMap α) {k j : Nat} (v : α) (h : j ≠ k) : fget d (fset m k v) j = fget d m j := by
  induction m with
  | nil => simp [fset, fget, h]
  | cons p r ih =>
    obtain ⟨k', v'⟩ := p
    simp only [fset]
    split
    · simp [fget, h]
    · split
      · subst_vars; simp [fget, h]
      · simp [fget, ih]

theorem fget_fset {α : Type} (d : α) (m : FMap α) (k j : Nat) (v : α) :
    fget d (fset m k v) j = if j = k then v else fget d m j := by
  split
  · subst_vars; exact fget_fset_same d m _ v
  · exact fget_fset_other d m v ‹_›

theorem fget_fdel {α : Type} (d : α) (m : FMap α) (k j : Nat) : fget d (fdel m k) j = if j = k then d else fget d m j := by
  induction m with
  | nil => simp [fdel, fget]
  | cons p r ih =>
    obtain ⟨k', v'⟩ := p
    simp only [fdel] at ih ⊢
    by_cases hk : k' = k
    · subst hk
      rw [List.filter_cons_of_neg (by simp)]
      rw [ih]; split <;> simp [fget, *]
    · rw [List.filter_cons_of_pos (by simpa using hk)]
      simp only [fget, ih]
      split
      · subst_vars; simp [hk]
      · rfl

theorem fhas_fset {α : Type} (m : FMap α) (k j : Nat) (v : α) : fhas (fset m k v) j = (decide (j = k) || fhas m j) := by
  induction m with
  | nil => simp [fset, fhas, eq_comm, Bool.beq_eq_decide_eq]
  | cons p r ih =>
    obtain ⟨k', v'⟩ := p
    simp only [fset]
    split
    · simp [fhas, eq_comm, Bool.beq_eq_decide_eq]
    · split
      · subst_vars
        by_cases h : k' = j <;> simp [fhas, h, eq_comm, Bool.beq_eq_decide_eq]
      · simp only [fhas, List.any_cons] at ih ⊢
        rw [ih]; cases decide (j = k) <;> simp

/-! Bit fields. -/

theorem bits_lt (w : Word) (lo len : Nat) : bits w lo len < 2 ^ len := by
  unfold bits; exact BitVec.isLt _

/-- A bit of a word after a field of it has been replaced. -/
theorem getLsbD_putBits (w : Word) (lo len v i : Nat) (hl : len ≤ 32) (hi : i < 32) :
    (putBits w lo len v).getLsbD i = if lo ≤ i ∧ i < lo + len then v.testBit (i - lo) else w.getLsbD i := by
  simp only [putBits, BitVec.getLsbD_or, BitVec.getLsbD_and, BitVec.getLsbD_not, BitVec.getLsbD_shiftLeft,
    BitVec.getLsbD_ushiftRight, BitVec.getLsbD_allOnes, BitVec.getLsbD_ofNat, hi, decide_true, Bool.true_and]
  by_cases h1 : i < lo
  · have h2 : ¬(lo ≤ i ∧ i < lo + len) := by omega
    simp [h1, h2]
  · by_cases h3 : i < lo + len
    · have h2 : lo ≤ i ∧ i < lo + len := by omega
      have h4 : 32 - len + (i - lo) < 32 := by omega
      have h5 : i - lo < 32 := by omega
      simp [h1, h2, h4, h5]
    · have h2 : ¬(lo ≤ i ∧ i < lo + len) := by omega
      have h4 : ¬32 - len + (i - lo) < 32 := by omega
      simp [h1, h2, h4]

/-- A field that has just been stored reads back. -/
theorem bits_putBits_same (w : Word) (lo len v : Nat) (h : lo + len ≤ 32) : bits (putBits w lo len v) lo len = v % 2 ^ len := by
  apply Nat.eq_of_testBit_eq
  intro i
  simp only [bits, BitVec.testBit_toNat, BitVec.getLsbD_extractLsb', Nat.testBit_mod_two_pow]
  by_cases hi : i < len
  · rw [getLsbD_putBits _ _ _ _ _ (by omega) (by omega)]
    simp [hi]
  · simp [hi]

/-- A field apart from the one stored is as before. -/
theorem bits_putBits_other (w : Word) (lo len v lo' len' : Nat) (h : lo + len ≤ 32) (h' : lo' + len' ≤ 32)
    (hd : lo' + len' ≤ lo ∨ lo + len ≤ lo') : bits (putBits w lo len v) lo' len' = bits w lo' len' := by
  apply Nat.eq_of_testBit_eq
  intro i
  simp only [bits, BitVec.testBit_toNat, BitVec.getLsbD_extractLsb']
  by_cases hi : i < len'
  · rw [getLsbD_putBits _ _ _ _ _ (by omega) (by omega)]
    have : ¬(lo ≤ lo' + i ∧ lo' + i < lo + len) := by omega
    simp [this]
  · simp [hi]

/-! The canonical form of memory. -/

/-- Every listed address is at least `a`. -/
def above (a : Nat) (m : List Host.Cell) : Prop := ∀ c ∈ m, a ≤ c.1

theorem wf_cons (a : Nat) (b : Byte) (m : List Host.Cell) :
    Memory.wf ((a, b) :: m) = true ↔ b ≠ 0#8 ∧ above (a + 1) m ∧ Memory.wf m = true := by
  induction m generalizing a b with
  | nil => simp [Memory.wf, above]
  | cons p r ih =>
    obtain ⟨a', b'⟩ := p
    simp only [Memory.wf, Bool.and_eq_true, bne_iff_ne, ne_eq, decide_eq_true_eq]
    constructor
    · rintro ⟨⟨hb, hlt⟩, hw⟩
      refine ⟨hb, ?_, hw⟩
      intro c hc
      rcases List.mem_cons.mp hc with h | h
      · subst h; exact hlt
      · have := ((ih a' b').mp hw).2.1 c h; omega
    · rintro ⟨hb, ha, hw⟩
      exact ⟨⟨hb, ha (a', b') (by simp)⟩, hw⟩

theorem above_fset {a k : Nat} {m : List Host.Cell} (v : Byte) (h : above a m) (hk : a ≤ k) : above a (fset m k v) := by
  induction m with
  | nil => intro c hc; simp [fset] at hc; subst hc; exact hk
  | cons p r ih =>
    obtain ⟨k', v'⟩ := p
    have hp : a ≤ k' := h (k', v') (by simp)
    have hr : above a r := fun c hc => h c (by simp [hc])
    simp only [fset]
    split
    · intro c hc
      rcases List.mem_cons.mp hc with e | e
      · subst e; exact hk
      · exact h c e
    · split
      · intro c hc
        rcases List.mem_cons.mp hc with e | e
        · subst e; exact hk
        · exact hr c e
      · intro c hc
        rcases List.mem_cons.mp hc with e | e
        · subst e; exact hp
        · exact ih hr c e

theorem wf_fset {m : List Host.Cell} (a : Nat) {b : Byte} (h : Memory.wf m = true) (hb : b ≠ 0#8) : Memory.wf (fset m a b) = true := by
  induction m with
  | nil => simp [fset, Memory.wf, hb]
  | cons p r ih =>
    obtain ⟨k', v'⟩ := p
    have hc := (wf_cons _ _ _).mp h
    simp only [fset]
    split
    · refine (wf_cons _ _ _).mpr ⟨hb, ?_, h⟩
      intro c hm
      rcases List.mem_cons.mp hm with e | e
      · subst e; assumption
      · have := hc.2.1 c e; omega
    · split
      · subst_vars; exact (wf_cons _ _ _).mpr ⟨hb, hc.2.1, hc.2.2⟩
      · exact (wf_cons _ _ _).mpr ⟨hc.1, above_fset b hc.2.1 (by omega), ih hc.2.2⟩

/-- Taking cells out of a store keeps its form. -/
theorem wf_filter {m : List Host.Cell} (p : Host.Cell → Bool) (h : Memory.wf m = true) : Memory.wf (m.filter p) = true := by
  induction m with
  | nil => exact h
  | cons c r ih =>
    obtain ⟨a, b⟩ := c
    have hc := (wf_cons _ _ _).mp h
    simp only [List.filter_cons]
    split
    · exact (wf_cons _ _ _).mpr ⟨hc.1, fun c hm => hc.2.1 c (List.mem_of_mem_filter hm), ih hc.2.2⟩
    · exact ih hc.2.2

/-- Writing a byte keeps the form of a store: a zero byte is not listed. -/
theorem wf_cellSet {m : List Host.Cell} (a : Nat) (b : Byte) (h : Memory.wf m = true) : Memory.wf (cellSet m a b) = true := by
  unfold cellSet
  split
  · exact wf_filter _ h
  · exact wf_fset a h ‹_›

/-- A byte reads back, and every other address as before. -/
theorem fget_cellSet (m : List Host.Cell) (a j : Nat) (b : Byte) :
    fget 0#8 (cellSet m a b) j = if j = a then b else fget 0#8 m j := by
  unfold cellSet
  split
  · rw [fget_fdel]; subst_vars; rfl
  · exact fget_fset _ _ _ _ _

end Sys2Proof.Laws
end

