-- ==== Sys2Proof/Laws/State.lean ====
section
/-! SUPPORT. Laws of State: what the register store and the clock leave as they were, and what a register reads after a write. -/

namespace Sys2Proof.Laws

open Sys2Proof Sys2Proof.Machine

variable (s : State) (k p v : Nat) (w : Word) (f : Fld)

/-! What a write of a register leaves as it was. -/
@[simp] theorem wr_pending : (s.wr k w).pending = s.pending := rfl
@[simp] theorem wr_walltime : (s.wr k w).walltime = s.walltime := rfl
@[simp] theorem wr_freeCtr : (s.wr k w).freeCtr = s.freeCtr := rfl
@[simp] theorem wr_shadow : (s.wr k w).shadow = s.shadow := rfl
@[simp] theorem wr_loHeld : (s.wr k w).loHeld = s.loHeld := rfl
@[simp] theorem wr_latch : (s.wr k w).latch = s.latch := rfl
@[simp] theorem wr_seqs : (s.wr k w).seqs = s.seqs := rfl
@[simp] theorem wr_skew : (s.wr k w).skew = s.skew := rfl
@[simp] theorem wr_jrnGap : (s.wr k w).jrnGap = s.jrnGap := rfl
@[simp] theorem wr_commitAt : (s.wr k w).commitAt = s.commitAt := rfl
@[simp] theorem wr_plzWait : (s.wr k w).plzWait = s.plzWait := rfl
@[simp] theorem wr_plzRes : (s.wr k w).plzRes = s.plzRes := rfl
@[simp] theorem wr_onlyR18 : (s.wr k w).onlyR18 = s.onlyR18 := rfl
@[simp] theorem wr_enterCtx : (s.wr k w).enterCtx = s.enterCtx := rfl
@[simp] theorem wr_quiescing : (s.wr k w).quiescing = s.quiescing := rfl
@[simp] theorem wr_d2dDownAt : (s.wr k w).d2dDownAt = s.d2dDownAt := rfl
@[simp] theorem wr_d2dTrying : (s.wr k w).d2dTrying = s.d2dTrying := rfl
@[simp] theorem wr_strapMaster : (s.wr k w).strapMaster = s.strapMaster := rfl
@[simp] theorem wr_hostOut : (s.wr k w).hostOut = s.hostOut := rfl
@[simp] theorem wr_reply : (s.wr k w).reply = s.reply := rfl
@[simp] theorem wr_dram : (s.wr k w).dram = s.dram := rfl
@[simp] theorem wr_poison : (s.wr k w).poison = s.poison := rfl
@[simp] theorem wr_validPg : (s.wr k w).validPg = s.validPg := rfl
@[simp] theorem wr_fills : (s.wr k w).fills = s.fills := rfl
@[simp] theorem wr_wbuf : (s.wr k w).wbuf = s.wbuf := rfl
@[simp] theorem wr_wwait : (s.wr k w).wwait = s.wwait := rfl
@[simp] theorem wr_memRetry : (s.wr k w).memRetry = s.memRetry := rfl
@[simp] theorem wr_mem : (s.wr k w).mem = s.mem := rfl
@[simp] theorem wr_logs : (s.wr k w).logs = s.logs := rfl
@[simp] theorem wr_sweep : (s.wr k w).sweep = s.sweep := rfl
@[simp] theorem wr_range : (s.wr k w).range = s.range := rfl
@[simp] theorem wr_sdt : (s.wr k w).sdt = s.sdt := rfl
@[simp] theorem wr_lists : (s.wr k w).lists = s.lists := rfl
@[simp] theorem wr_cmds : (s.wr k w).cmds = s.cmds := rfl
@[simp] theorem wr_nextCmd : (s.wr k w).nextCmd = s.nextCmd := rfl
@[simp] theorem wr_nextList : (s.wr k w).nextList = s.nextList := rfl
@[simp] theorem wr_fences : (s.wr k w).fences = s.fences := rfl
@[simp] theorem wr_calls : (s.wr k w).calls = s.calls := rfl
@[simp] theorem wr_nextReq : (s.wr k w).nextReq = s.nextReq := rfl
@[simp] theorem wr_insts : (s.wr k w).insts = s.insts := rfl
@[simp] theorem wr_vacate : (s.wr k w).vacate = s.vacate := rfl
@[simp] theorem wr_unvacate : (s.wr k w).unvacate = s.unvacate := rfl
@[simp] theorem wr_vacated : (s.wr k w).vacated = s.vacated := rfl
@[simp] theorem wr_handovers : (s.wr k w).handovers = s.handovers := rfl
@[simp] theorem wr_ghVersion : (s.wr k w).ghVersion = s.ghVersion := rfl
@[simp] theorem wr_tapReset : (s.wr k w).tapReset = s.tapReset := rfl
@[simp] theorem wr_jtagHold : (s.wr k w).jtagHold = s.jtagHold := rfl
@[simp] theorem wr_haltReq : (s.wr k w).haltReq = s.haltReq := rfl
@[simp] theorem wr_stepReq : (s.wr k w).stepReq = s.stepReq := rfl
@[simp] theorem wr_planes : (s.wr k w).planes = s.planes := rfl
@[simp] theorem wr_heads : (s.wr k w).heads = s.heads := rfl
@[simp] theorem wr_syncs : (s.wr k w).syncs = s.syncs := rfl
@[simp] theorem wr_glPin : (s.wr k w).glPin = s.glPin := rfl
@[simp] theorem wr_spans : (s.wr k w).spans = s.spans := rfl
@[simp] theorem wr_spanQ : (s.wr k w).spanQ = s.spanQ := rfl
@[simp] theorem wr_regions : (s.wr k w).regions = s.regions := rfl
@[simp] theorem wr_tiles : (s.wr k w).tiles = s.tiles := rfl
@[simp] theorem wr_lineOut : (s.wr k w).lineOut = s.lineOut := rfl
@[simp] theorem wr_badBlocks : (s.wr k w).badBlocks = s.badBlocks := rfl
@[simp] theorem wr_tileBad : (s.wr k w).tileBad = s.tileBad := rfl
@[simp] theorem wr_deferred : (s.wr k w).deferred = s.deferred := rfl
@[simp] theorem wr_qcancelAt : (s.wr k w).qcancelAt = s.qcancelAt := rfl
@[simp] theorem wr_img : (s.wr k w).img = s.img := rfl
@[simp] theorem wr_perstLow : (s.wr k w).perstLow = s.perstLow := rfl
@[simp] theorem wr_closedWins : (s.wr k w).closedWins = s.closedWins := rfl
@[simp] theorem wr_mig : (s.wr k w).mig = s.mig := rfl
@[simp] theorem wr_chPorts : (s.wr k w).chPorts = s.chPorts := rfl
@[simp] theorem wr_addrPort : (s.wr k w).addrPort = s.addrPort := rfl
@[simp] theorem wr_pendEnum : (s.wr k w).pendEnum = s.pendEnum := rfl
@[simp] theorem wr_grants : (s.wr k w).grants = s.grants := rfl
@[simp] theorem wr_walkRing : (s.wr k w).walkRing = s.walkRing := rfl
@[simp] theorem wr_topoUnits : (s.wr k w).topoUnits = s.topoUnits := rfl
@[simp] theorem wr_topoBrk : (s.wr k w).topoBrk = s.topoBrk := rfl
@[simp] theorem wr_chainOut : (s.wr k w).chainOut = s.chainOut := rfl
@[simp] theorem wr_marks : (s.wr k w).marks = s.marks := rfl
@[simp] theorem wr_markNext : (s.wr k w).markNext = s.markNext := rfl
@[simp] theorem wr_markSent : (s.wr k w).markSent = s.markSent := rfl
@[simp] theorem wr_markRestart : (s.wr k w).markRestart = s.markRestart := rfl
@[simp] theorem wr_markSeen : (s.wr k w).markSeen = s.markSeen := rfl
@[simp] theorem wr_groups : (s.wr k w).groups = s.groups := rfl
@[simp] theorem wr_hw : (s.wr k w).hw = s.hw := rfl
@[simp] theorem wr_mbReq : (s.wr k w).mbReq = s.mbReq := rfl
@[simp] theorem wr_mbNext : (s.wr k w).mbNext = s.mbNext := rfl
@[simp] theorem wr_stepAt : (s.wr k w).stepAt = s.stepAt := rfl
@[simp] theorem wr_lockSince : (s.wr k w).lockSince = s.lockSince := rfl
@[simp] theorem wr_lockTold : (s.wr k w).lockTold = s.lockTold := rfl
@[simp] theorem wr_ppsLast : (s.wr k w).ppsLast = s.ppsLast := rfl
@[simp] theorem wr_markOutNext : (s.wr k w).markOutNext = s.markOutNext := rfl
@[simp] theorem wr_probeOut : (s.wr k w).probeOut = s.probeOut := rfl
@[simp] theorem wr_ppsStepped : (s.wr k w).ppsStepped = s.ppsStepped := rfl
@[simp] theorem wr_dps : (s.wr k w).dps = s.dps := rfl
@[simp] theorem wr_tchBase : (s.wr k w).tchBase = s.tchBase := rfl
@[simp] theorem wr_tchStored : (s.wr k w).tchStored = s.tchStored := rfl
@[simp] theorem wr_tchElec : (s.wr k w).tchElec = s.tchElec := rfl
@[simp] theorem wr_tchObj : (s.wr k w).tchObj = s.tchObj := rfl
@[simp] theorem wr_tch : (s.wr k w).tch = s.tch := rfl
@[simp] theorem wr_compQ : (s.wr k w).compQ = s.compQ := rfl
@[simp] theorem wr_haps : (s.wr k w).haps = s.haps := rfl
@[simp] theorem wr_strs : (s.wr k w).strs = s.strs := rfl
@[simp] theorem wr_alarms : (s.wr k w).alarms = s.alarms := rfl
@[simp] theorem wr_macros : (s.wr k w).macros = s.macros := rfl
@[simp] theorem wr_softDone : (s.wr k w).softDone = s.softDone := rfl
@[simp] theorem wr_bistRun : (s.wr k w).bistRun = s.bistRun := rfl
@[simp] theorem wr_bistFails : (s.wr k w).bistFails = s.bistFails := rfl
@[simp] theorem wr_bistCount : (s.wr k w).bistCount = s.bistCount := rfl
@[simp] theorem wr_cndSubst : (s.wr k w).cndSubst = s.cndSubst := rfl
@[simp] theorem wr_cndVer : (s.wr k w).cndVer = s.cndVer := rfl
@[simp] theorem wr_update : (s.wr k w).update = s.update := rfl
@[simp] theorem wr_qspiOp : (s.wr k w).qspiOp = s.qspiOp := rfl
@[simp] theorem wr_rstHold : (s.wr k w).rstHold = s.rstHold := rfl
@[simp] theorem wr_bank33 : (s.wr k w).bank33 = s.bank33 := rfl
@[simp] theorem wr_hotSince : (s.wr k w).hotSince = s.hotSince := rfl
@[simp] theorem wr_smpOut : (s.wr k w).smpOut = s.smpOut := rfl
@[simp] theorem wr_slcSubst : (s.wr k w).slcSubst = s.slcSubst := rfl
@[simp] theorem wr_tgFirst : (s.wr k w).tgFirst = s.tgFirst := rfl
@[simp] theorem wr_flashOut : (s.wr k w).flashOut = s.flashOut := rfl
@[simp] theorem wr_localMin : (s.wr k w).localMin = s.localMin := rfl
@[simp] theorem wr_d2dFailed : (s.wr k w).d2dFailed = s.d2dFailed := rfl
@[simp] theorem wr_d2dTryAt : (s.wr k w).d2dTryAt = s.d2dTryAt := rfl
@[simp] theorem wr_d2dHeld : (s.wr k w).d2dHeld = s.d2dHeld := rfl
@[simp] theorem wr_vacRects : (s.wr k w).vacRects = s.vacRects := rfl
@[simp] theorem wr_tapIr : (s.wr k w).tapIr = s.tapIr := rfl
@[simp] theorem wr_flight : (s.wr k w).flight = s.flight := rfl
@[simp] theorem wr_slcLast : (s.wr k w).slcLast = s.slcLast := rfl
@[simp] theorem wr_msaOut : (s.wr k w).msaOut = s.msaOut := rfl
@[simp] theorem wr_linkOut : (s.wr k w).linkOut = s.linkOut := rfl
@[simp] theorem wr_tileLost : (s.wr k w).tileLost = s.tileLost := rfl
@[simp] theorem wr_hostIn : (s.wr k w).hostIn = s.hostIn := rfl
@[simp] theorem wr_rrNext : (s.wr k w).rrNext = s.rrNext := rfl
@[simp] theorem wr_walkDue : (s.wr k w).walkDue = s.walkDue := rfl
@[simp] theorem wr_walkAt : (s.wr k w).walkAt = s.walkAt := rfl
@[simp] theorem wr_enumPort : (s.wr k w).enumPort = s.enumPort := rfl
@[simp] theorem wr_cutOff : (s.wr k w).cutOff = s.cutOff := rfl
@[simp] theorem wr_lastUp : (s.wr k w).lastUp = s.lastUp := rfl
@[simp] theorem wr_trainOut : (s.wr k w).trainOut = s.trainOut := rfl
@[simp] theorem wr_markHigh : (s.wr k w).markHigh = s.markHigh := rfl
@[simp] theorem wr_tdmLost : (s.wr k w).tdmLost = s.tdmLost := rfl
@[simp] theorem wr_qspiAt : (s.wr k w).qspiAt = s.qspiAt := rfl

/-! What a write of a field leaves as it was. -/

@[simp] theorem sf_pending : (s.sf p f v).pending = s.pending := rfl
@[simp] theorem sf_walltime : (s.sf p f v).walltime = s.walltime := rfl
@[simp] theorem sf_freeCtr : (s.sf p f v).freeCtr = s.freeCtr := rfl
@[simp] theorem sf_shadow : (s.sf p f v).shadow = s.shadow := rfl
@[simp] theorem sf_loHeld : (s.sf p f v).loHeld = s.loHeld := rfl
@[simp] theorem sf_latch : (s.sf p f v).latch = s.latch := rfl
@[simp] theorem sf_seqs : (s.sf p f v).seqs = s.seqs := rfl
@[simp] theorem sf_skew : (s.sf p f v).skew = s.skew := rfl
@[simp] theorem sf_jrnGap : (s.sf p f v).jrnGap = s.jrnGap := rfl
@[simp] theorem sf_commitAt : (s.sf p f v).commitAt = s.commitAt := rfl
@[simp] theorem sf_plzWait : (s.sf p f v).plzWait = s.plzWait := rfl
@[simp] theorem sf_plzRes : (s.sf p f v).plzRes = s.plzRes := rfl
@[simp] theorem sf_onlyR18 : (s.sf p f v).onlyR18 = s.onlyR18 := rfl
@[simp] theorem sf_enterCtx : (s.sf p f v).enterCtx = s.enterCtx := rfl
@[simp] theorem sf_quiescing : (s.sf p f v).quiescing = s.quiescing := rfl
@[simp] theorem sf_d2dDownAt : (s.sf p f v).d2dDownAt = s.d2dDownAt := rfl
@[simp] theorem sf_d2dTrying : (s.sf p f v).d2dTrying = s.d2dTrying := rfl
@[simp] theorem sf_strapMaster : (s.sf p f v).strapMaster = s.strapMaster := rfl
@[simp] theorem sf_hostOut : (s.sf p f v).hostOut = s.hostOut := rfl
@[simp] theorem sf_reply : (s.sf p f v).reply = s.reply := rfl
@[simp] theorem sf_dram : (s.sf p f v).dram = s.dram := rfl
@[simp] theorem sf_poison : (s.sf p f v).poison = s.poison := rfl
@[simp] theorem sf_validPg : (s.sf p f v).validPg = s.validPg := rfl
@[simp] theorem sf_fills : (s.sf p f v).fills = s.fills := rfl
@[simp] theorem sf_wbuf : (s.sf p f v).wbuf = s.wbuf := rfl
@[simp] theorem sf_wwait : (s.sf p f v).wwait = s.wwait := rfl
@[simp] theorem sf_memRetry : (s.sf p f v).memRetry = s.memRetry := rfl
@[simp] theorem sf_mem : (s.sf p f v).mem = s.mem := rfl
@[simp] theorem sf_logs : (s.sf p f v).logs = s.logs := rfl
@[simp] theorem sf_sweep : (s.sf p f v).sweep = s.sweep := rfl
@[simp] theorem sf_range : (s.sf p f v).range = s.range := rfl
@[simp] theorem sf_sdt : (s.sf p f v).sdt = s.sdt := rfl
@[simp] theorem sf_lists : (s.sf p f v).lists = s.lists := rfl
@[simp] theorem sf_cmds : (s.sf p f v).cmds = s.cmds := rfl
@[simp] theorem sf_nextCmd : (s.sf p f v).nextCmd = s.nextCmd := rfl
@[simp] theorem sf_nextList : (s.sf p f v).nextList = s.nextList := rfl
@[simp] theorem sf_fences : (s.sf p f v).fences = s.fences := rfl
@[simp] theorem sf_calls : (s.sf p f v).calls = s.calls := rfl
@[simp] theorem sf_nextReq : (s.sf p f v).nextReq = s.nextReq := rfl
@[simp] theorem sf_insts : (s.sf p f v).insts = s.insts := rfl
@[simp] theorem sf_vacate : (s.sf p f v).vacate = s.vacate := rfl
@[simp] theorem sf_unvacate : (s.sf p f v).unvacate = s.unvacate := rfl
@[simp] theorem sf_vacated : (s.sf p f v).vacated = s.vacated := rfl
@[simp] theorem sf_handovers : (s.sf p f v).handovers = s.handovers := rfl
@[simp] theorem sf_ghVersion : (s.sf p f v).ghVersion = s.ghVersion := rfl
@[simp] theorem sf_tapReset : (s.sf p f v).tapReset = s.tapReset := rfl
@[simp] theorem sf_jtagHold : (s.sf p f v).jtagHold = s.jtagHold := rfl
@[simp] theorem sf_haltReq : (s.sf p f v).haltReq = s.haltReq := rfl
@[simp] theorem sf_stepReq : (s.sf p f v).stepReq = s.stepReq := rfl
@[simp] theorem sf_planes : (s.sf p f v).planes = s.planes := rfl
@[simp] theorem sf_heads : (s.sf p f v).heads = s.heads := rfl
@[simp] theorem sf_syncs : (s.sf p f v).syncs = s.syncs := rfl
@[simp] theorem sf_glPin : (s.sf p f v).glPin = s.glPin := rfl
@[simp] theorem sf_spans : (s.sf p f v).spans = s.spans := rfl
@[simp] theorem sf_spanQ : (s.sf p f v).spanQ = s.spanQ := rfl
@[simp] theorem sf_regions : (s.sf p f v).regions = s.regions := rfl
@[simp] theorem sf_tiles : (s.sf p f v).tiles = s.tiles := rfl
@[simp] theorem sf_lineOut : (s.sf p f v).lineOut = s.lineOut := rfl
@[simp] theorem sf_badBlocks : (s.sf p f v).badBlocks = s.badBlocks := rfl
@[simp] theorem sf_tileBad : (s.sf p f v).tileBad = s.tileBad := rfl
@[simp] theorem sf_deferred : (s.sf p f v).deferred = s.deferred := rfl
@[simp] theorem sf_qcancelAt : (s.sf p f v).qcancelAt = s.qcancelAt := rfl
@[simp] theorem sf_img : (s.sf p f v).img = s.img := rfl
@[simp] theorem sf_perstLow : (s.sf p f v).perstLow = s.perstLow := rfl
@[simp] theorem sf_closedWins : (s.sf p f v).closedWins = s.closedWins := rfl
@[simp] theorem sf_mig : (s.sf p f v).mig = s.mig := rfl
@[simp] theorem sf_chPorts : (s.sf p f v).chPorts = s.chPorts := rfl
@[simp] theorem sf_addrPort : (s.sf p f v).addrPort = s.addrPort := rfl
@[simp] theorem sf_pendEnum : (s.sf p f v).pendEnum = s.pendEnum := rfl
@[simp] theorem sf_grants : (s.sf p f v).grants = s.grants := rfl
@[simp] theorem sf_walkRing : (s.sf p f v).walkRing = s.walkRing := rfl
@[simp] theorem sf_topoUnits : (s.sf p f v).topoUnits = s.topoUnits := rfl
@[simp] theorem sf_topoBrk : (s.sf p f v).topoBrk = s.topoBrk := rfl
@[simp] theorem sf_chainOut : (s.sf p f v).chainOut = s.chainOut := rfl
@[simp] theorem sf_marks : (s.sf p f v).marks = s.marks := rfl
@[simp] theorem sf_markNext : (s.sf p f v).markNext = s.markNext := rfl
@[simp] theorem sf_markSent : (s.sf p f v).markSent = s.markSent := rfl
@[simp] theorem sf_markRestart : (s.sf p f v).markRestart = s.markRestart := rfl
@[simp] theorem sf_markSeen : (s.sf p f v).markSeen = s.markSeen := rfl
@[simp] theorem sf_groups : (s.sf p f v).groups = s.groups := rfl
@[simp] theorem sf_hw : (s.sf p f v).hw = s.hw := rfl
@[simp] theorem sf_mbReq : (s.sf p f v).mbReq = s.mbReq := rfl
@[simp] theorem sf_mbNext : (s.sf p f v).mbNext = s.mbNext := rfl
@[simp] theorem sf_stepAt : (s.sf p f v).stepAt = s.stepAt := rfl
@[simp] theorem sf_lockSince : (s.sf p f v).lockSince = s.lockSince := rfl
@[simp] theorem sf_lockTold : (s.sf p f v).lockTold = s.lockTold := rfl
@[simp] theorem sf_ppsLast : (s.sf p f v).ppsLast = s.ppsLast := rfl
@[simp] theorem sf_markOutNext : (s.sf p f v).markOutNext = s.markOutNext := rfl
@[simp] theorem sf_probeOut : (s.sf p f v).probeOut = s.probeOut := rfl
@[simp] theorem sf_ppsStepped : (s.sf p f v).ppsStepped = s.ppsStepped := rfl
@[simp] theorem sf_dps : (s.sf p f v).dps = s.dps := rfl
@[simp] theorem sf_tchBase : (s.sf p f v).tchBase = s.tchBase := rfl
@[simp] theorem sf_tchStored : (s.sf p f v).tchStored = s.tchStored := rfl
@[simp] theorem sf_tchElec : (s.sf p f v).tchElec = s.tchElec := rfl
@[simp] theorem sf_tchObj : (s.sf p f v).tchObj = s.tchObj := rfl
@[simp] theorem sf_tch : (s.sf p f v).tch = s.tch := rfl
@[simp] theorem sf_compQ : (s.sf p f v).compQ = s.compQ := rfl
@[simp] theorem sf_haps : (s.sf p f v).haps = s.haps := rfl
@[simp] theorem sf_strs : (s.sf p f v).strs = s.strs := rfl
@[simp] theorem sf_alarms : (s.sf p f v).alarms = s.alarms := rfl
@[simp] theorem sf_macros : (s.sf p f v).macros = s.macros := rfl
@[simp] theorem sf_softDone : (s.sf p f v).softDone = s.softDone := rfl
@[simp] theorem sf_bistRun : (s.sf p f v).bistRun = s.bistRun := rfl
@[simp] theorem sf_bistFails : (s.sf p f v).bistFails = s.bistFails := rfl
@[simp] theorem sf_bistCount : (s.sf p f v).bistCount = s.bistCount := rfl
@[simp] theorem sf_cndSubst : (s.sf p f v).cndSubst = s.cndSubst := rfl
@[simp] theorem sf_cndVer : (s.sf p f v).cndVer = s.cndVer := rfl
@[simp] theorem sf_update : (s.sf p f v).update = s.update := rfl
@[simp] theorem sf_qspiOp : (s.sf p f v).qspiOp = s.qspiOp := rfl
@[simp] theorem sf_rstHold : (s.sf p f v).rstHold = s.rstHold := rfl
@[simp] theorem sf_bank33 : (s.sf p f v).bank33 = s.bank33 := rfl
@[simp] theorem sf_hotSince : (s.sf p f v).hotSince = s.hotSince := rfl
@[simp] theorem sf_smpOut : (s.sf p f v).smpOut = s.smpOut := rfl
@[simp] theorem sf_slcSubst : (s.sf p f v).slcSubst = s.slcSubst := rfl
@[simp] theorem sf_tgFirst : (s.sf p f v).tgFirst = s.tgFirst := rfl
@[simp] theorem sf_flashOut : (s.sf p f v).flashOut = s.flashOut := rfl
@[simp] theorem sf_localMin : (s.sf p f v).localMin = s.localMin := rfl
@[simp] theorem sf_d2dFailed : (s.sf p f v).d2dFailed = s.d2dFailed := rfl
@[simp] theorem sf_d2dTryAt : (s.sf p f v).d2dTryAt = s.d2dTryAt := rfl
@[simp] theorem sf_d2dHeld : (s.sf p f v).d2dHeld = s.d2dHeld := rfl
@[simp] theorem sf_vacRects : (s.sf p f v).vacRects = s.vacRects := rfl
@[simp] theorem sf_tapIr : (s.sf p f v).tapIr = s.tapIr := rfl
@[simp] theorem sf_flight : (s.sf p f v).flight = s.flight := rfl
@[simp] theorem sf_slcLast : (s.sf p f v).slcLast = s.slcLast := rfl
@[simp] theorem sf_msaOut : (s.sf p f v).msaOut = s.msaOut := rfl
@[simp] theorem sf_linkOut : (s.sf p f v).linkOut = s.linkOut := rfl
@[simp] theorem sf_tileLost : (s.sf p f v).tileLost = s.tileLost := rfl
@[simp] theorem sf_hostIn : (s.sf p f v).hostIn = s.hostIn := rfl
@[simp] theorem sf_rrNext : (s.sf p f v).rrNext = s.rrNext := rfl
@[simp] theorem sf_walkDue : (s.sf p f v).walkDue = s.walkDue := rfl
@[simp] theorem sf_walkAt : (s.sf p f v).walkAt = s.walkAt := rfl
@[simp] theorem sf_enumPort : (s.sf p f v).enumPort = s.enumPort := rfl
@[simp] theorem sf_cutOff : (s.sf p f v).cutOff = s.cutOff := rfl
@[simp] theorem sf_lastUp : (s.sf p f v).lastUp = s.lastUp := rfl
@[simp] theorem sf_trainOut : (s.sf p f v).trainOut = s.trainOut := rfl
@[simp] theorem sf_markHigh : (s.sf p f v).markHigh = s.markHigh := rfl
@[simp] theorem sf_tdmLost : (s.sf p f v).tdmLost = s.tdmLost := rfl
@[simp] theorem sf_qspiAt : (s.sf p f v).qspiAt = s.qspiAt := rfl

/-! What the passing of time leaves as it was. -/

@[simp] theorem atTime_pending (t : Time) : (s.atTime t).pending = s.pending := rfl
@[simp] theorem atTime_freeCtr (t : Time) : (s.atTime t).freeCtr = s.freeCtr := rfl
@[simp] theorem atTime_regs (t : Time) : (s.atTime t).regs = s.regs := rfl
@[simp] theorem atTime_shadow (t : Time) : (s.atTime t).shadow = s.shadow := rfl
@[simp] theorem atTime_loHeld (t : Time) : (s.atTime t).loHeld = s.loHeld := rfl
@[simp] theorem atTime_latch (t : Time) : (s.atTime t).latch = s.latch := rfl
@[simp] theorem atTime_seqs (t : Time) : (s.atTime t).seqs = s.seqs := rfl
@[simp] theorem atTime_skew (t : Time) : (s.atTime t).skew = s.skew := rfl
@[simp] theorem atTime_jrnGap (t : Time) : (s.atTime t).jrnGap = s.jrnGap := rfl
@[simp] theorem atTime_commitAt (t : Time) : (s.atTime t).commitAt = s.commitAt := rfl
@[simp] theorem atTime_plzWait (t : Time) : (s.atTime t).plzWait = s.plzWait := rfl
@[simp] theorem atTime_plzRes (t : Time) : (s.atTime t).plzRes = s.plzRes := rfl
@[simp] theorem atTime_onlyR18 (t : Time) : (s.atTime t).onlyR18 = s.onlyR18 := rfl
@[simp] theorem atTime_enterCtx (t : Time) : (s.atTime t).enterCtx = s.enterCtx := rfl
@[simp] theorem atTime_quiescing (t : Time) : (s.atTime t).quiescing = s.quiescing := rfl
@[simp] theorem atTime_d2dDownAt (t : Time) : (s.atTime t).d2dDownAt = s.d2dDownAt := rfl
@[simp] theorem atTime_d2dTrying (t : Time) : (s.atTime t).d2dTrying = s.d2dTrying := rfl
@[simp] theorem atTime_strapMaster (t : Time) : (s.atTime t).strapMaster = s.strapMaster := rfl
@[simp] theorem atTime_hostOut (t : Time) : (s.atTime t).hostOut = s.hostOut := rfl
@[simp] theorem atTime_reply (t : Time) : (s.atTime t).reply = s.reply := rfl
@[simp] theorem atTime_dram (t : Time) : (s.atTime t).dram = s.dram := rfl
@[simp] theorem atTime_poison (t : Time) : (s.atTime t).poison = s.poison := rfl
@[simp] theorem atTime_validPg (t : Time) : (s.atTime t).validPg = s.validPg := rfl
@[simp] theorem atTime_fills (t : Time) : (s.atTime t).fills = s.fills := rfl
@[simp] theorem atTime_wbuf (t : Time) : (s.atTime t).wbuf = s.wbuf := rfl
@[simp] theorem atTime_wwait (t : Time) : (s.atTime t).wwait = s.wwait := rfl
@[simp] theorem atTime_memRetry (t : Time) : (s.atTime t).memRetry = s.memRetry := rfl
@[simp] theorem atTime_mem (t : Time) : (s.atTime t).mem = s.mem := rfl
@[simp] theorem atTime_logs (t : Time) : (s.atTime t).logs = s.logs := rfl
@[simp] theorem atTime_sweep (t : Time) : (s.atTime t).sweep = s.sweep := rfl
@[simp] theorem atTime_range (t : Time) : (s.atTime t).range = s.range := rfl
@[simp] theorem atTime_sdt (t : Time) : (s.atTime t).sdt = s.sdt := rfl
@[simp] theorem atTime_lists (t : Time) : (s.atTime t).lists = s.lists := rfl
@[simp] theorem atTime_cmds (t : Time) : (s.atTime t).cmds = s.cmds := rfl
@[simp] theorem atTime_nextCmd (t : Time) : (s.atTime t).nextCmd = s.nextCmd := rfl
@[simp] theorem atTime_nextList (t : Time) : (s.atTime t).nextList = s.nextList := rfl
@[simp] theorem atTime_fences (t : Time) : (s.atTime t).fences = s.fences := rfl
@[simp] theorem atTime_calls (t : Time) : (s.atTime t).calls = s.calls := rfl
@[simp] theorem atTime_nextReq (t : Time) : (s.atTime t).nextReq = s.nextReq := rfl
@[simp] theorem atTime_insts (t : Time) : (s.atTime t).insts = s.insts := rfl
@[simp] theorem atTime_vacate (t : Time) : (s.atTime t).vacate = s.vacate := rfl
@[simp] theorem atTime_unvacate (t : Time) : (s.atTime t).unvacate = s.unvacate := rfl
@[simp] theorem atTime_vacated (t : Time) : (s.atTime t).vacated = s.vacated := rfl
@[simp] theorem atTime_handovers (t : Time) : (s.atTime t).handovers = s.handovers := rfl
@[simp] theorem atTime_ghVersion (t : Time) : (s.atTime t).ghVersion = s.ghVersion := rfl
@[simp] theorem atTime_tapReset (t : Time) : (s.atTime t).tapReset = s.tapReset := rfl
@[simp] theorem atTime_jtagHold (t : Time) : (s.atTime t).jtagHold = s.jtagHold := rfl
@[simp] theorem atTime_haltReq (t : Time) : (s.atTime t).haltReq = s.haltReq := rfl
@[simp] theorem atTime_stepReq (t : Time) : (s.atTime t).stepReq = s.stepReq := rfl
@[simp] theorem atTime_planes (t : Time) : (s.atTime t).planes = s.planes := rfl
@[simp] theorem atTime_heads (t : Time) : (s.atTime t).heads = s.heads := rfl
@[simp] theorem atTime_syncs (t : Time) : (s.atTime t).syncs = s.syncs := rfl
@[simp] theorem atTime_glPin (t : Time) : (s.atTime t).glPin = s.glPin := rfl
@[simp] theorem atTime_spans (t : Time) : (s.atTime t).spans = s.spans := rfl
@[simp] theorem atTime_spanQ (t : Time) : (s.atTime t).spanQ = s.spanQ := rfl
@[simp] theorem atTime_regions (t : Time) : (s.atTime t).regions = s.regions := rfl
@[simp] theorem atTime_tiles (t : Time) : (s.atTime t).tiles = s.tiles := rfl
@[simp] theorem atTime_lineOut (t : Time) : (s.atTime t).lineOut = s.lineOut := rfl
@[simp] theorem atTime_badBlocks (t : Time) : (s.atTime t).badBlocks = s.badBlocks := rfl
@[simp] theorem atTime_tileBad (t : Time) : (s.atTime t).tileBad = s.tileBad := rfl
@[simp] theorem atTime_deferred (t : Time) : (s.atTime t).deferred = s.deferred := rfl
@[simp] theorem atTime_qcancelAt (t : Time) : (s.atTime t).qcancelAt = s.qcancelAt := rfl
@[simp] theorem atTime_img (t : Time) : (s.atTime t).img = s.img := rfl
@[simp] theorem atTime_perstLow (t : Time) : (s.atTime t).perstLow = s.perstLow := rfl
@[simp] theorem atTime_closedWins (t : Time) : (s.atTime t).closedWins = s.closedWins := rfl
@[simp] theorem atTime_mig (t : Time) : (s.atTime t).mig = s.mig := rfl
@[simp] theorem atTime_chPorts (t : Time) : (s.atTime t).chPorts = s.chPorts := rfl
@[simp] theorem atTime_addrPort (t : Time) : (s.atTime t).addrPort = s.addrPort := rfl
@[simp] theorem atTime_pendEnum (t : Time) : (s.atTime t).pendEnum = s.pendEnum := rfl
@[simp] theorem atTime_grants (t : Time) : (s.atTime t).grants = s.grants := rfl
@[simp] theorem atTime_walkRing (t : Time) : (s.atTime t).walkRing = s.walkRing := rfl
@[simp] theorem atTime_topoUnits (t : Time) : (s.atTime t).topoUnits = s.topoUnits := rfl
@[simp] theorem atTime_topoBrk (t : Time) : (s.atTime t).topoBrk = s.topoBrk := rfl
@[simp] theorem atTime_chainOut (t : Time) : (s.atTime t).chainOut = s.chainOut := rfl
@[simp] theorem atTime_marks (t : Time) : (s.atTime t).marks = s.marks := rfl
@[simp] theorem atTime_markNext (t : Time) : (s.atTime t).markNext = s.markNext := rfl
@[simp] theorem atTime_markSent (t : Time) : (s.atTime t).markSent = s.markSent := rfl
@[simp] theorem atTime_markRestart (t : Time) : (s.atTime t).markRestart = s.markRestart := rfl
@[simp] theorem atTime_markSeen (t : Time) : (s.atTime t).markSeen = s.markSeen := rfl
@[simp] theorem atTime_groups (t : Time) : (s.atTime t).groups = s.groups := rfl
@[simp] theorem atTime_hw (t : Time) : (s.atTime t).hw = s.hw := rfl
@[simp] theorem atTime_mbReq (t : Time) : (s.atTime t).mbReq = s.mbReq := rfl
@[simp] theorem atTime_mbNext (t : Time) : (s.atTime t).mbNext = s.mbNext := rfl
@[simp] theorem atTime_stepAt (t : Time) : (s.atTime t).stepAt = s.stepAt := rfl
@[simp] theorem atTime_lockSince (t : Time) : (s.atTime t).lockSince = s.lockSince := rfl
@[simp] theorem atTime_lockTold (t : Time) : (s.atTime t).lockTold = s.lockTold := rfl
@[simp] theorem atTime_ppsLast (t : Time) : (s.atTime t).ppsLast = s.ppsLast := rfl
@[simp] theorem atTime_markOutNext (t : Time) : (s.atTime t).markOutNext = s.markOutNext := rfl
@[simp] theorem atTime_probeOut (t : Time) : (s.atTime t).probeOut = s.probeOut := rfl
@[simp] theorem atTime_ppsStepped (t : Time) : (s.atTime t).ppsStepped = s.ppsStepped := rfl
@[simp] theorem atTime_dps (t : Time) : (s.atTime t).dps = s.dps := rfl
@[simp] theorem atTime_tchBase (t : Time) : (s.atTime t).tchBase = s.tchBase := rfl
@[simp] theorem atTime_tchStored (t : Time) : (s.atTime t).tchStored = s.tchStored := rfl
@[simp] theorem atTime_tchElec (t : Time) : (s.atTime t).tchElec = s.tchElec := rfl
@[simp] theorem atTime_tchObj (t : Time) : (s.atTime t).tchObj = s.tchObj := rfl
@[simp] theorem atTime_tch (t : Time) : (s.atTime t).tch = s.tch := rfl
@[simp] theorem atTime_compQ (t : Time) : (s.atTime t).compQ = s.compQ := rfl
@[simp] theorem atTime_haps (t : Time) : (s.atTime t).haps = s.haps := rfl
@[simp] theorem atTime_strs (t : Time) : (s.atTime t).strs = s.strs := rfl
@[simp] theorem atTime_alarms (t : Time) : (s.atTime t).alarms = s.alarms := rfl
@[simp] theorem atTime_macros (t : Time) : (s.atTime t).macros = s.macros := rfl
@[simp] theorem atTime_softDone (t : Time) : (s.atTime t).softDone = s.softDone := rfl
@[simp] theorem atTime_bistRun (t : Time) : (s.atTime t).bistRun = s.bistRun := rfl
@[simp] theorem atTime_bistFails (t : Time) : (s.atTime t).bistFails = s.bistFails := rfl
@[simp] theorem atTime_bistCount (t : Time) : (s.atTime t).bistCount = s.bistCount := rfl
@[simp] theorem atTime_cndSubst (t : Time) : (s.atTime t).cndSubst = s.cndSubst := rfl
@[simp] theorem atTime_cndVer (t : Time) : (s.atTime t).cndVer = s.cndVer := rfl
@[simp] theorem atTime_update (t : Time) : (s.atTime t).update = s.update := rfl
@[simp] theorem atTime_qspiOp (t : Time) : (s.atTime t).qspiOp = s.qspiOp := rfl
@[simp] theorem atTime_rstHold (t : Time) : (s.atTime t).rstHold = s.rstHold := rfl
@[simp] theorem atTime_bank33 (t : Time) : (s.atTime t).bank33 = s.bank33 := rfl
@[simp] theorem atTime_hotSince (t : Time) : (s.atTime t).hotSince = s.hotSince := rfl
@[simp] theorem atTime_smpOut (t : Time) : (s.atTime t).smpOut = s.smpOut := rfl
@[simp] theorem atTime_slcSubst (t : Time) : (s.atTime t).slcSubst = s.slcSubst := rfl
@[simp] theorem atTime_tgFirst (t : Time) : (s.atTime t).tgFirst = s.tgFirst := rfl
@[simp] theorem atTime_flashOut (t : Time) : (s.atTime t).flashOut = s.flashOut := rfl
@[simp] theorem atTime_localMin (t : Time) : (s.atTime t).localMin = s.localMin := rfl
@[simp] theorem atTime_d2dFailed (t : Time) : (s.atTime t).d2dFailed = s.d2dFailed := rfl
@[simp] theorem atTime_d2dTryAt (t : Time) : (s.atTime t).d2dTryAt = s.d2dTryAt := rfl
@[simp] theorem atTime_d2dHeld (t : Time) : (s.atTime t).d2dHeld = s.d2dHeld := rfl
@[simp] theorem atTime_vacRects (t : Time) : (s.atTime t).vacRects = s.vacRects := rfl
@[simp] theorem atTime_tapIr (t : Time) : (s.atTime t).tapIr = s.tapIr := rfl
@[simp] theorem atTime_flight (t : Time) : (s.atTime t).flight = s.flight := rfl
@[simp] theorem atTime_slcLast (t : Time) : (s.atTime t).slcLast = s.slcLast := rfl
@[simp] theorem atTime_msaOut (t : Time) : (s.atTime t).msaOut = s.msaOut := rfl
@[simp] theorem atTime_linkOut (t : Time) : (s.atTime t).linkOut = s.linkOut := rfl
@[simp] theorem atTime_tileLost (t : Time) : (s.atTime t).tileLost = s.tileLost := rfl
@[simp] theorem atTime_hostIn (t : Time) : (s.atTime t).hostIn = s.hostIn := rfl
@[simp] theorem atTime_rrNext (t : Time) : (s.atTime t).rrNext = s.rrNext := rfl
@[simp] theorem atTime_walkDue (t : Time) : (s.atTime t).walkDue = s.walkDue := rfl
@[simp] theorem atTime_walkAt (t : Time) : (s.atTime t).walkAt = s.walkAt := rfl
@[simp] theorem atTime_enumPort (t : Time) : (s.atTime t).enumPort = s.enumPort := rfl
@[simp] theorem atTime_cutOff (t : Time) : (s.atTime t).cutOff = s.cutOff := rfl
@[simp] theorem atTime_lastUp (t : Time) : (s.atTime t).lastUp = s.lastUp := rfl
@[simp] theorem atTime_trainOut (t : Time) : (s.atTime t).trainOut = s.trainOut := rfl
@[simp] theorem atTime_markHigh (t : Time) : (s.atTime t).markHigh = s.markHigh := rfl
@[simp] theorem atTime_tdmLost (t : Time) : (s.atTime t).tdmLost = s.tdmLost := rfl
@[simp] theorem atTime_qspiAt (t : Time) : (s.atTime t).qspiAt = s.qspiAt := rfl
@[simp] theorem atTime_rd (t : Time) : (s.atTime t).rd k = s.rd k := rfl
@[simp] theorem atTime_gf (t : Time) : (s.atTime t).gf p f = s.gf p f := rfl
@[simp] theorem atTime_tf (t : Time) : (s.atTime t).tf p f = s.tf p f := rfl
@[simp] theorem useFree_rd : s.useFree.rd k = s.rd k := rfl
@[simp] theorem useFree_gf : s.useFree.gf p f = s.gf p f := rfl

/-! Registers read back. -/

theorem rd_wr (k j : Nat) : (s.wr k w).rd j = if j = k then w else s.rd j := by
  simp only [State.rd, State.wr, fget_fset]

@[simp] theorem rd_wr_same : (s.wr k w).rd k = w := by simp [rd_wr]
theorem rd_wr_other {j : Nat} (h : j ≠ k) : (s.wr k w).rd j = s.rd j := by simp [rd_wr, h]

/-- A field's write changes one register. -/
theorem rd_sf (j : Nat) : (s.sf p f v).rd j =
    if j = pageBase p + f.off then putBits (s.rd j) f.lo f.len v else s.rd j := by
  rw [State.sf, rd_wr]; split
  · subst_vars; rfl
  · rfl

theorem rd_sf_other {j : Nat} (h : j ≠ pageBase p + f.off) : (s.sf p f v).rd j = s.rd j := by simp [rd_sf, h]

/-- A field reads back what has been stored, at its width. -/
theorem gf_sf_same (h : f.lo + f.len ≤ 32) : (s.sf p f v).gf p f = v % 2 ^ f.len := by
  rw [State.gf, rd_sf, if_pos rfl]; exact bits_putBits_same _ _ _ _ h

/-- Fields of one register that do not overlap are apart. -/
theorem gf_sf_apart (g : Fld) (h : f.lo + f.len ≤ 32) (h' : g.lo + g.len ≤ 32) (hd : g.lo + g.len ≤ f.lo ∨ f.lo + f.len ≤ g.lo) :
    (s.sf p f v).gf p g = s.gf p g := by
  simp only [State.gf, rd_sf]
  split
  · rw [bits_putBits_other _ _ _ _ _ _ h h' hd]
  · rfl

/-- Fields of different registers are apart. -/
theorem gf_sf_elsewhere (q : Nat) (g : Fld) (h : pageBase q + g.off ≠ pageBase p + f.off) : (s.sf p f v).gf q g = s.gf q g := by
  simp only [State.gf, rd_sf_other s p v f h]

theorem gf_lt : s.gf p f < 2 ^ f.len := bits_lt _ _ _

end Sys2Proof.Laws
end

