-- ==== Sys2Proof/Laws/Event.lean ====
section
/-! SUPPORT. What an occurrence of an event, a record and an error leave as they were: nearly every command can raise one, so every frame
goes through these. -/

namespace Sys2Proof.Machine

variable {d : Bool}

theorem State.onlyReports.same {s v : State} (h : v.deferred = s.deferred) : s.onlyReports v := ⟨[], by simpa using h, by simp⟩

theorem State.onlyReports.trans {s v w : State} (a : s.onlyReports v) (b : v.onlyReports w) : s.onlyReports w := by
  obtain ⟨l, h, hl⟩ := a
  obtain ⟨m, h', hm⟩ := b
  exact ⟨l ++ m, by rw [h', h, List.append_assoc], fun x hx => (List.mem_append.1 hx).elim (hl x) (hm x)⟩

theorem Calm.refl (k : Nat) (s : State) : Calm d k s s := ⟨rfl, rfl, rfl, rfl, rfl, rfl, rfl, rfl, rfl, fun _ => .same rfl⟩

theorem Calm.trans {k : Nat} {s v w : State} (a : Calm d k s v) (b : Calm d k v w) : Calm d k s w :=
  ⟨b.1.trans a.1, b.2.trans a.2, b.3.trans a.3, b.4.trans a.4, b.5.trans a.5, b.6.trans a.6, b.7.trans a.7, b.8.trans a.8,
    b.9.trans a.9, fun h => (a.10 h).trans (b.10 h)⟩

end Sys2Proof.Machine

namespace Sys2Proof.Laws

open Sys2Proof Sys2Proof.Machine

variable {d : Bool}

theorem calm_wr {k j : Nat} (s : State) (w : Word) (h : k ≠ j) : Calm d k s (s.wr j w) :=
  ⟨rd_wr_other s j w h, rfl, rfl, rfl, rfl, rfl, rfl, rfl, rfl, fun _ => .same rfl⟩

theorem calm_sf {k : Nat} (s : State) (p : Nat) (f : Fld) (v : Nat) (h : k ≠ pageBase p + f.off) : Calm d k s (s.sf p f v) := calm_wr s _ h

theorem calm_s64 {k : Nat} (s : State) (p : Nat) (f g : Fld) (v : Nat) (h : k ≠ pageBase p + f.off) (h' : k ≠ pageBase p + g.off) :
    Calm d k s (s.s64 p f g v) := (calm_sf s p f v h).trans (calm_sf _ p g _ h')

theorem calm_free (k : Nat) (s : State) : Calm d k s s.useFree := ⟨rfl, rfl, rfl, rfl, rfl, rfl, rfl, rfl, rfl, fun _ => .same rfl⟩

theorem calm_forEach {α : Type} {k : Nat} (l : List α) (f : α → State → State) (h : ∀ x s, Calm d k s (f x s)) (s : State) :
    Calm d k s (forEach l f s) := by
  induction l generalizing s with
  | nil => exact .refl k s
  | cons a l ih => exact (h a s).trans (ih (f a s))

theorem calm_forNat {k : Nat} (n : Nat) (f : Nat → State → State) (h : ∀ x s, Calm d k s (f x s)) (s : State) :
    Calm d k s (forNat n f s) := calm_forEach (List.range n) f h s

theorem pageBase_mod (p : Nat) {o : Nat} (h : o < 0x1000) : (pageBase p + o) % 0x1000 = o := by
  unfold pageBase; omega

theorem quiet_ne {k p o : Nat} (h : o < 0x1000) (hk : k % 0x1000 ≠ o) : k ≠ pageBase p + o := by
  rintro rfl; exact hk (pageBase_mod p h)

theorem quiet_ent {k : Nat} (h : Quiet k) (i w : Nat) : k ≠ entKey i w := by
  have := h.1; unfold entKey; omega

theorem quiet_win {k : Nat} (h : Quiet k) (i o : Nat) : k ≠ winKey i o := by
  have := h.1; unfold winKey; omega

theorem calm_wbShow {k : Nat} (h : Quiet k) (g : Nat) (s : State) : Calm d k s (s.wbShow g) := by
  have h1 := h.2.2.2.2.2.1
  have h2 := h.2.2.2.2.2.2.2.2
  have e := calm_sf (d := d) (k := k) s (pgMem g) R.MEM_STATUS_WBUF_OCC (s.wbOcc g) (quiet_ne (by decide) h1)
  unfold State.wbShow
  simp only
  split
  · exact e.trans ((calm_sf _ _ _ _ (quiet_ne (by decide) h1)).trans (calm_sf _ _ _ _ (quiet_ne (by decide) h2)))
  · exact e

theorem calm_startFill (k n : Nat) (s : State) : Calm d k s (s.startFill n) := by
  unfold State.startFill
  split <;> exact ⟨rfl, rfl, rfl, rfl, rfl, rfl, rfl, rfl, rfl, fun _ => .same rfl⟩

theorem calm_wbuf (k : Nat) (s : State) (l : List (Nat × WbEntry)) : Calm d k s { s with wbuf := l } :=
  ⟨rfl, rfl, rfl, rfl, rfl, rfl, rfl, rfl, rfl, fun _ => .same rfl⟩

/-- Everything an entry of the write buffer taking bytes can do, seen from a quiet register. -/
theorem calm_wbMerge {k : Nat} (h : Quiet k) (blk off : Nat) (bs : List Byte) (s : State) (sec : Bool) :
    Calm d k s (s.wbMerge blk off bs sec) := by
  unfold State.wbMerge
  exact Calm.trans ((calm_wbuf k s _).trans (calm_startFill k _ _)) (calm_wbShow h _ _)

/-- Everything a write into the write buffer can do, seen from a quiet register. -/
theorem calm_wbPut {k : Nat} (h : Quiet k) (blk off : Nat) (bs : List Byte) (s : State) (w : Writer) :
    Calm d k s (s.wbPut blk off bs w) := by
  have wait : ∀ (v : State) (l : List WWait), Calm d k v { v with wwait := l } := fun v l =>
    ⟨rfl, rfl, rfl, rfl, rfl, rfl, rfl, rfl, rfl, fun _ => .same rfl⟩
  unfold State.wbPut
  split
  · simp only
    split
    · exact (calm_sf s _ _ _ (quiet_ne (by decide) h.2.2.2.2.2.2.2.2)).trans (wait _ _)
    · exact wait _ _
  · exact calm_wbMerge h _ _ _ _ _

theorem calm_put {k : Nat} (h : Quiet k) (a : Nat) (bs : List Byte) (s : State) : Calm d k s (s.put a bs) := by
  unfold State.put
  refine calm_forEach _ _ (fun x v => ?_) s
  split
  · exact calm_wbPut h _ _ _ _ _
  · exact .refl k v

theorem calm_noteAccess (k : Nat) (agent : Option Nat) (sec : Bool) (i : Option Nat) (a n : Nat) (s : State) :
    Calm d k s (s.noteAccess agent sec i a n) := by
  have one : ∀ x : Deferred, x.isReport = true → Calm d k s { s with deferred := s.deferred ++ [x] } := fun x hx =>
    ⟨rfl, rfl, rfl, rfl, rfl, rfl, rfl, rfl, rfl, fun _ => ⟨[x], rfl, by simpa using hx⟩⟩
  unfold State.noteAccess
  split
  · exact one _ rfl
  · split
    · exact one _ rfl
    · exact .refl k s

theorem calm_markDirty {k : Nat} (h : Quiet k) (a n : Nat) (s : State) : Calm d k s (s.markDirty a n) := by
  unfold State.markDirty
  split
  · exact .refl k s
  · refine calm_forNat _ _ (fun x v => calm_forEach _ _ (fun i w => ?_) v) s
    refine (calm_noteAccess k none false (some i) (w.ent64 i 61 + ((a / 4096 + x) * 4096 - w.ent i 2 0 14 * 2097152) / 4096 / 8) 1 w).trans ?_
    simp only
    split
    · exact .refl k _
    · exact calm_put h _ _ _

theorem calm_wbData {k : Nat} (h : Quiet k) (blk off : Nat) (bs : List Byte) (w : Writer) (s : State) :
    Calm d k s (s.wbData blk off bs w) := by
  have tear : ∀ (v : State) a n, Calm d k v (v.tear a n) := fun v a n =>
    ⟨rfl, rfl, rfl, rfl, rfl, rfl, rfl, rfl, rfl, fun _ => .same rfl⟩
  unfold State.wbData
  simp only
  split
  · exact calm_wbPut h _ _ _ _ _
  · exact (calm_wbPut h _ _ _ _ _).trans ((tear _ _ _).trans (calm_markDirty h _ _ _))

/-- Everything a write of data into device memory can do, seen from a quiet register. -/
theorem calm_dput {k : Nat} (h : Quiet k) (a : Nat) (bs : List Byte) (s : State) (w : Writer) : Calm d k s (s.dput a bs w) := by
  unfold State.dput
  refine calm_forEach _ _ (fun x v => ?_) s
  split
  · exact calm_wbData h _ _ _ _ _
  · exact .refl k v

theorem calm_flagEvt {k : Nat} (h : Quiet k) (p b : Nat) (s : State) : Calm d k s (s.flagEvt p b) := by
  obtain ⟨_, h1, h2, h3, h4, _⟩ := h
  unfold State.flagEvt
  simp only
  refine Calm.trans (calm_s64 s p R.LAST_EVT_TIME_LO_TIME R.LAST_EVT_TIME_HI_TIME (s.localTime (islandOf p)) (quiet_ne (by decide) h3)
    (quiet_ne (by decide) h4)) ?_
  split
  · exact (calm_sf _ _ _ _ (quiet_ne (by decide) h2)).trans (calm_sf _ _ _ _ (quiet_ne (by decide) h2))
  · exact calm_sf _ _ _ _ (quiet_ne (by decide) h1)

theorem calm_jrnStore {k : Nat} (h : Quiet k) (p : Nat) (r : List Word) (s : State) : Calm d k s (s.jrnStore p r) := by
  unfold State.jrnStore
  refine (calm_noteAccess k (some 4) (decide (p = PG_JRN_S)) none
    (s.g64 p R.JRN_BASE_LO_BASE R.JRN_BASE_HI_BASE / 4096 * 4096 + 32 * s.gf p R.JRN_WR_INDEX) 32 s).trans (Calm.trans ?_ (calm_sf _ _ _ _ (quiet_ne (by decide) h.2.2.2.2.2.2.1)))
  split
  · exact .refl k _
  · exact calm_dput h _ _ _ _

theorem calm_gap (k : Nat) (s : State) (l : List (Nat × Nat)) : Calm d k s { s with jrnGap := l } :=
  ⟨rfl, rfl, rfl, rfl, rfl, rfl, rfl, rfl, rfl, fun _ => .same rfl⟩

theorem calm_inst (k i : Nat) (f : Inst → Inst) (s : State) : Calm d k s (s.setInst i f) := ⟨rfl, rfl, rfl, rfl, rfl, rfl, rfl, rfl, rfl, fun _ => .same rfl⟩

theorem calm_hostPut (k : Nat) (who : Option Nat) (a : Nat) (bs : List Byte) (s : State) : Calm d k s (s.hostPut who a bs) :=
  ⟨rfl, rfl, rfl, rfl, rfl, rfl, rfl, rfl, rfl, fun _ => .same rfl⟩

theorem calm_jrnDrop {k : Nat} (h : Quiet k) (p : Nat) (r : List Word) (s : State) : Calm d k s (s.jrnDrop p r) := by
  unfold State.jrnDrop
  simp only
  split
  · exact (calm_gap k s _).trans (calm_sf _ p R.JRN_LOST_COUNT _ (quiet_ne (by decide) h.2.2.2.2.2.2.2.1))
  · exact calm_sf _ _ _ _ (quiet_ne (by decide) h.2.2.2.2.2.2.2.1)

theorem calm_stampSeq (k p : Nat) (s : State) : Calm d k s (s.stampSeq p) := ⟨rfl, rfl, rfl, rfl, rfl, rfl, rfl, rfl, rfl, fun _ => .same rfl⟩

theorem calm_jrnOwn {k : Nat} (h : Quiet k) (p b : Nat) (ev : Ev) (s : State) : Calm d k s (s.jrnOwn p b ev) := by
  unfold State.jrnOwn
  simp only
  refine Calm.trans (calm_flagEvt h p b s) ?_
  split
  · exact .refl k _
  · refine Calm.trans (calm_stampSeq k p _) ?_
    split
    · exact (calm_jrnDrop h _ _ _).trans (calm_flagEvt h _ _ _)
    · exact calm_jrnStore h _ _ _

/-- Everything a record to a journal can do, seen from a quiet register. -/
theorem calm_jrnPut {k : Nat} (h : Quiet k) (p : Nat) (r : List Word) (s : State) : Calm d k s (s.jrnPut p r) := by
  unfold State.jrnPut
  split
  · exact .refl k s
  · split
    · exact (calm_jrnDrop h _ _ _).trans (calm_jrnOwn h _ _ _ _)
    · simp only
      split
      · exact (calm_jrnStore h _ _ _).trans (calm_jrnOwn h _ _ _ _)
      · exact calm_jrnStore h _ _ _

theorem calm_evtLost {k : Nat} (h : Quiet k) (i t : Nat) (s : State) : Calm d k s (s.evtLost i t) := by
  unfold State.evtLost State.setWin
  simp only
  split
  · exact (calm_inst k i _ s).trans (calm_wr _ _ (quiet_win h _ _))
  · exact calm_wr _ _ (quiet_win h _ _)

theorem calm_hostLog {k : Nat} (h : Quiet k) (i a : Nat) (s : State) : Calm false k s (s.hostLog i a) := by
  unfold State.hostLog State.setEnt
  split
  · exact .refl k s
  · split
    · exact ⟨rfl, rfl, rfl, rfl, rfl, rfl, rfl, rfl, rfl, nofun⟩
    · simp only
      split
      · split
        · exact .refl k s
        · exact (calm_wr s _ (quiet_ent h _ _)).trans ⟨rfl, rfl, rfl, rfl, rfl, rfl, rfl, rfl, rfl, nofun⟩
      · exact (calm_hostPut k none _ _ s).trans (calm_wr _ _ (quiet_ent h _ _))

theorem calm_hostLogs {k : Nat} (h : Quiet k) (i a n : Nat) (s : State) : Calm false k s (s.hostLogs i a n) :=
  calm_forNat _ _ (fun _ v => calm_hostLog h i _ v) s

/-- Everything a record to an instance's event ring can do, seen from a quiet register. -/
theorem calm_toRing {k : Nat} (h : Quiet k) (i : Nat) (r : List Word) (s : State) : Calm false k s (s.toRing i r) := by
  unfold State.toRing
  split
  · unfold State.ringPut
    simp only
    split
    · split
      · exact (calm_evtLost h _ _ _).trans ⟨rfl, rfl, rfl, rfl, rfl, rfl, rfl, rfl, rfl, nofun⟩
      · exact ⟨rfl, rfl, rfl, rfl, rfl, rfl, rfl, rfl, rfl, nofun⟩
    · split
      · exact calm_evtLost h _ _ _
      · split
        · exact (calm_hostLogs h i _ 32 s).trans ⟨rfl, rfl, rfl, rfl, rfl, rfl, rfl, rfl, rfl, nofun⟩
        · unfold State.instWrite State.setWin
          exact (calm_hostLogs h i _ _ s).trans ((calm_hostPut k (some i) _ _ _).trans (calm_wr _ _ (quiet_win h _ _)))
  · exact .refl k s

theorem calm_jrnIf {k : Nat} (h : Quiet k) (c : Bool) (p : Nat) (r : List Word) (s : State) :
    Calm d k s (if c = true then s.jrnPut p r else s) := by
  split
  · exact calm_jrnPut h p r s
  · exact .refl k s

theorem calm_ringIf {k : Nat} (h : Quiet k) (c : Bool) (i : Nat) (r : List Word) (s : State) :
    Calm false k s (if c = true then s.toRing i r else s) := by
  split
  · exact calm_toRing h i r s
  · exact .refl k s

/-- Everything a record can do, seen from a quiet register. -/
theorem calm_emit {k : Nat} (h : Quiet k) (p c : Nat) (ev : Ev) (hd : d = true → ev.inst = none) (s : State) :
    Calm d k s (s.emit p c ev) := by
  unfold State.emit
  simp only
  refine (calm_stampSeq k p _).trans ?_
  split
  · exact calm_jrnPut h _ _ _
  · split
    · cases d
      · exact (calm_jrnIf h _ _ _ _).trans ((calm_jrnIf h _ _ _ _).trans (calm_ringIf h _ _ _ _))
      · simp [hd rfl] at *
    · exact (calm_jrnIf h _ _ _ _).trans (calm_jrnIf h _ _ _ _)

/-- Everything an occurrence of an event can do, seen from a quiet register. -/
theorem calm_raise {k : Nat} (h : Quiet k) (p b : Nat) (ev : Ev) (hd : d = true → ev.inst = none) (s : State) :
    Calm d k s (s.raise p b ev) := by
  unfold State.raise
  simp only
  refine (calm_flagEvt h p b s).trans ?_
  split
  · exact calm_emit h p _ ev hd _
  · exact .refl k _

/-- Everything an error of a page can do, seen from a quiet register other than its own. -/
theorem calm_err {k : Nat} (h : Quiet k) (p c : Nat) (h0 : k ≠ pageBase p + 0x20) (h4 : k ≠ pageBase p + 0x24) (s : State) :
    Calm d k s (s.err p c) := by
  unfold State.err
  simp only
  have e := calm_sf (d := d) s p R.ERR_COUNT_ERRORS (satAdd R.ERR_COUNT_ERRORS.len (s.gf p R.ERR_COUNT_ERRORS) 1) h4
  split
  · exact e
  · refine (e.trans (calm_free k _)).trans ?_
    refine Calm.trans ?_ (calm_raise h _ _ _ (fun _ => rfl) _)
    exact (calm_sf _ p R.ERR_CAPTURE_CODE c h0).trans ((calm_sf _ p R.ERR_CAPTURE_DETAIL _ h0).trans
      (calm_sf _ p R.ERR_CAPTURE_VALID 1 h0))

/-- The error registers of a page are quiet. -/
theorem quiet_err {p o : Nat} (hp : p < 128) (ho : o = 0x20 ∨ o = 0x24) : Quiet (pageBase p + o) := by
  unfold Quiet
  rw [pageBase_mod p (by omega)]
  refine ⟨?_, by omega, by omega, by omega, by omega, by omega, by omega, by omega, by omega⟩
  unfold pageBase; omega

end Sys2Proof.Laws
end

