-- ==== Sys2Proof/Laws/Memory.lean ====
section
/-! SUPPORT. Device DRAM: every operation that changes it keeps its canonical form, and what it holds after each. -/

namespace Sys2Proof.Laws

open Sys2Proof Sys2Proof.Machine

theorem wf_reset : Memory.wf State.reset.dram = true := rfl

theorem wf_foldl {l : List Nat} (f : List Host.Cell → Nat → List Host.Cell) (hf : ∀ m i, Memory.wf m = true → Memory.wf (f m i) = true)
    {m : List Host.Cell} (h : Memory.wf m = true) : Memory.wf (l.foldl f m) = true := by
  induction l generalizing m with
  | nil => exact h
  | cons a l ih => exact ih (hf m a h)

theorem wf_storeWord {s : State} (blk k : Nat) (h : Memory.wf s.dram = true) : Memory.wf (s.storeWord blk k).dram = true := by
  refine wf_foldl _ (fun m i hm => ?_) h
  split
  · exact wf_cellSet _ _ hm
  · exact hm

theorem wf_storeRaw {s : State} (a raw : Nat) (h : Memory.wf s.dram = true) : Memory.wf (s.storeRaw a raw).dram = true :=
  wf_foldl _ (fun _ _ hm => wf_cellSet _ _ hm) h

theorem wf_clearPages {s : State} (p0 p1 : Nat) (h : Memory.wf s.dram = true) : Memory.wf (s.clearPages p0 p1).dram = true :=
  wf_filter _ h

theorem wf_dropUnretained {s : State} (h : Memory.wf s.dram = true) : Memory.wf s.dropUnretained.dram = true := wf_filter _ h

theorem wf_clearAllPages (s : State) : Memory.wf s.clearAllPages.dram = true := rfl

/-- A byte of DRAM after a fold of writes at distinct places `a + i`. -/
theorem fget_foldl (f : Nat → Byte) (p : Nat → Bool) (a n j : Nat) (m : List Host.Cell) :
    fget 0#8 ((List.range n).foldl (fun m i => if p i = true then cellSet m (a + i) (f i) else m) m) j =
      if a ≤ j ∧ j < a + n ∧ p (j - a) = true then f (j - a) else fget 0#8 m j := by
  induction n with
  | zero => simp; omega
  | succ n ih =>
    rw [List.range_succ, List.foldl_append, List.foldl_cons, List.foldl_nil]
    by_cases hj : j = a + n
    · subst hj
      cases hp : p n with
      | true => simp [fget_cellSet, hp]
      | false => simp [hp, ih]
    · have e : (a ≤ j ∧ j < a + (n + 1) ∧ p (j - a) = true) ↔ (a ≤ j ∧ j < a + n ∧ p (j - a) = true) := by
        constructor <;> rintro ⟨h1, h2, h3⟩ <;> exact ⟨h1, by omega, h3⟩
      simp only [e]
      split
      · rw [fget_cellSet, if_neg hj, ih]
      · exact ih

/-- A word of a write-buffer entry goes to DRAM: the bytes the entry holds, and every other byte as it was. -/
theorem fget_storeWord (s : State) (blk k j : Nat) :
    fget 0#8 (s.storeWord blk k).dram j =
      if blk * 128 + 8 * k ≤ j ∧ j < blk * 128 + 8 * k + 8 ∧
          fhas (fget ({} : WbEntry) s.wbuf blk).bytes (8 * k + (j - (blk * 128 + 8 * k))) = true then
        fget 0#8 (fget ({} : WbEntry) s.wbuf blk).bytes (8 * k + (j - (blk * 128 + 8 * k))) else fget 0#8 s.dram j :=
  fget_foldl (fun i => fget 0#8 (fget ({} : WbEntry) s.wbuf blk).bytes (8 * k + i))
    (fun i => fhas (fget ({} : WbEntry) s.wbuf blk).bytes (8 * k + i)) (blk * 128 + 8 * k) 8 j s.dram

/-! A whole block goes to DRAM. -/

theorem forNat_dram {n : Nat} {f : Nat → State → State} (h : ∀ i s, (f i s).dram = s.dram) (s : State) : (forNat n f s).dram = s.dram := by
  unfold forNat
  induction List.range n generalizing s with
  | nil => rfl
  | cons a l ih => rw [List.foldl_cons, ih, h]

theorem forEach_dram {α : Type} {l : List α} {f : α → State → State} (h : ∀ i s, (f i s).dram = s.dram) (s : State) :
    (forEach l f s).dram = s.dram := by
  unfold forEach
  induction l generalizing s with
  | nil => rfl
  | cons a l ih => rw [List.foldl_cons, ih, h]

theorem quiet_zero : Quiet 0 := by unfold Quiet; decide

@[simp] theorem raise_dram (s : State) (p b : Nat) (ev : Ev) : (s.raise p b ev).dram = s.dram :=
  (calm_raise (d := false) quiet_zero p b ev nofun s).dram

@[simp] theorem err_dram (s : State) (p c : Nat) : (s.err p c).dram = s.dram :=
  (calm_err (d := false) quiet_zero p c (by unfold pageBase; omega) (by unfold pageBase; omega) s).dram

@[simp] theorem bump_dram (s : State) (p n : Nat) (f : Fld) : (s.bump p f n).dram = s.dram := rfl

@[simp] theorem setLog_dram (s : State) (g e : Nat) (x : LogEnt) : (s.setLog g e x).dram = s.dram := rfl

@[simp] theorem wbPut_dram (s : State) (b o : Nat) (bs : List Byte) (w : Writer) : (s.wbPut b o bs w).dram = s.dram :=
  (calm_wbPut (d := false) quiet_zero b o bs s w).dram

@[simp] theorem wbData_dram (s : State) (b o : Nat) (bs : List Byte) (w : Writer) : (s.wbData b o bs w).dram = s.dram :=
  (calm_wbData (d := false) quiet_zero b o bs w s).dram

@[simp] theorem wbShow_dram (s : State) (g : Nat) : (s.wbShow g).dram = s.dram := (calm_wbShow (d := false) quiet_zero g s).dram

@[simp] theorem startFill_dram (s : State) (n : Nat) : (s.startFill n).dram = s.dram := (calm_startFill (d := false) 0 n s).dram

@[simp] theorem logWritten_dram (s : State) (g a : Nat) : (s.logWritten g a).dram = s.dram := by
  unfold State.logWritten
  split
  · split <;> rfl
  · rfl

@[simp] theorem logCorrect_dram (s : State) (g a c p : Nat) : (s.logCorrect g a c p).dram = s.dram := by
  unfold State.logCorrect
  simp only
  split
  · split
    · rfl
    · split
      · simp
      · split <;> rfl
  · split
    · rfl
    · simp

@[simp] theorem perf_dram (s : State) (e n : Nat) (i : Option Nat) (sec : Bool) : (s.perf e n i sec).dram = s.dram := by
  unfold State.perf
  split
  · rfl
  · refine forNat_dram (fun k v => ?_) s
    split
    · rfl
    · split
      · rfl
      · simp only
        split
        · simp
        · rfl

@[simp] theorem corrected_dram (s : State) (b k : Nat) (js : List Nat) (i : Option Nat) (sec : Bool) :
    (s.corrected b k js i sec).dram = s.dram := by simp [State.corrected]

@[simp] theorem emit_dram (s : State) (p c : Nat) (ev : Ev) : (s.emit p c ev).dram = s.dram :=
  (calm_emit (d := false) quiet_zero p c ev nofun s).dram

@[simp] theorem readTransient_dram (s : State) (a : Nat) : (s.readTransient a).dram = s.dram := by
  simp [State.readTransient, State.transient]

@[simp] theorem logUncorr_dram (s : State) (g a : Nat) : (s.logUncorr g a).dram = s.dram := by
  unfold State.logUncorr
  simp only
  split
  · split <;> rfl
  · split <;> rfl

@[simp] theorem readFault_dram (s : State) (b k : Nat) (i : Option Nat) : (s.readFault b k i).dram = s.dram := by
  unfold State.readFault
  simp

@[simp] theorem pump_dram (s : State) : s.pump.dram = s.dram := by
  unfold State.pump
  exact forEach_dram (fun _ _ => wbData_dram _ _ _ _ _) _

@[simp] theorem drainEnd_dram (s : State) (g : Nat) : (s.drainEnd g).dram = s.dram := by
  unfold State.drainEnd
  split <;> rfl

theorem wf_writePoison {s : State} (blk k raw : Nat) (h : Memory.wf s.dram = true) : Memory.wf (s.writePoison blk k raw).dram = true := by
  simp only [State.writePoison, err_dram, raise_dram, bump_dram]
  exact wf_storeWord blk k (wf_storeRaw _ raw h)

theorem wf_writeWord {s : State} (blk k : Nat) (errs : List (Nat × Nat)) (h : Memory.wf s.dram = true) :
    Memory.wf (s.writeWord blk errs k).dram = true := by
  unfold State.writeWord
  simp only
  split
  · exact h
  · split
    · simp only [logWritten_dram]; exact wf_storeWord _ _ h
    · split
      · exact wf_storeWord _ _ h
      · split
        · exact wf_writePoison _ _ _ h
        · exact wf_writePoison _ _ _ h
        · simp only [logWritten_dram]; exact wf_storeWord _ _ (wf_storeRaw _ _ (by simpa using h))
        · simp only [logWritten_dram]; exact wf_storeWord _ _ h

@[simp] theorem bumpW_dram (s : State) (p n : Nat) (f : Fld) : (s.bumpW p f n).dram = s.dram := rfl

@[simp] theorem countRead_dram (s : State) (b : Nat) (i : Option Nat) (sec : Bool) : (s.countRead b i sec).dram = s.dram := by
  simp [State.countRead]

@[simp] theorem lastingRead_dram (s : State) (b : Nat) (ks : List Nat) (i : Option Nat) : (s.lastingRead b ks i).dram = s.dram := by
  unfold State.lastingRead
  split
  · rfl
  · rw [forEach_dram fun _ _ => logUncorr_dram _ _ _, readFault_dram]

/-- The read that a block with a partial write makes leaves DRAM's bytes as they are. -/
@[simp] theorem partRead_dram (s : State) (b : Nat) (errs retry : List (Nat × Nat)) (l : List Nat) :
    (s.partRead b errs retry l).dram = s.dram := by
  unfold State.partRead
  simp only
  split
  · simp
  · split <;> simp

/-- A block written from the write buffer leaves DRAM in its canonical form. -/
theorem wf_writeBlock {s : State} (blk : Nat) (errs retry : List (Nat × Nat)) (h : Memory.wf s.dram = true) :
    Memory.wf (s.writeBlock blk errs retry).dram = true := by
  have hn : ∀ (final : List (Nat × Nat)) (l : List Nat) (v : State), Memory.wf v.dram = true →
      Memory.wf (l.foldl (fun a i => a.writeWord blk final i) v).dram = true := by
    intro final l
    induction l with
    | nil => exact fun _ hv => hv
    | cons a l ih => exact fun v hv => ih _ (wf_writeWord blk a final hv)
  unfold State.writeBlock
  simp only [pump_dram, drainEnd_dram, wbShow_dram, perf_dram, bumpW_dram, forNat]
  apply hn
  split <;> split <;> simpa using h

/-- Everything a write into device memory can do to DRAM's stored bytes: nothing yet, they wait in the write buffer. -/
@[simp] theorem dput_dram (s : State) (a : Nat) (bs : List Byte) (w : Writer) : (s.dput a bs w).dram = s.dram :=
  (calm_dput (d := false) quiet_zero a bs s w).dram

end Sys2Proof.Laws
end

