-- ==== Sys2Proof/Laws/Step.lean ====
section
/-! SUPPORT. Laws of the step and of the shared operations: what a command's end, a register write, a list command and a received
message can do. -/

namespace Sys2Proof.Laws

open Sys2Proof Sys2Proof.Machine

/-! The end of a command. -/

/-- With nothing deferred the settling does nothing. -/
theorem settle_idle {s : State} (h : s.deferred = []) : s.settle = s := by
  obtain ⟨rest⟩ := s
  subst h; rfl

@[simp] theorem settle_deferred (s : State) : s.settle.deferred = [] := rfl
@[simp] theorem ends_pending (s0 s : State) : (s0.ends s).pending = s0.pending := rfl
@[simp] theorem ends_deferred (s0 s : State) : (s0.ends s).deferred = [] := rfl
@[simp] theorem ends_rstHold (s0 s : State) : (s0.ends s).rstHold = s.settle.rstHold := rfl
@[simp] theorem done_pending (s0 s : State) : (s0.done s).pending = s0.pending := rfl
@[simp] theorem done_deferred (s0 s : State) : (s0.done s).deferred = [] := rfl
@[simp] theorem done_rstHold (s0 s : State) : (s0.done s).rstHold = [] := rfl

/-- The end of a command that deferred nothing. -/
theorem done_idle {s v : State} (h : v.deferred = []) : s.done v = { v with pending := s.pending, rstHold := [] } := by
  unfold State.done State.ends; rw [settle_idle h]

/-! The two forms of a next state. -/

theorem nxt_free {s : State} (t : Time) (f : State → State) (h : s.rstHold = []) : nxt t f s = .next (s.done (f (s.atTime t))) := by
  simp [nxt, h]

theorem nxt_held {s : State} (t : Time) (f : State → State) (h : s.rstHold ≠ []) :
    nxt t f s = .next { s with walltime := max s.walltime t } := by
  have : s.rstHold.isEmpty = false := by cases hs : s.rstHold with
    | nil => exact absurd hs h
    | cons a r => rfl
  simp [nxt, this, State.atTime]

/-- Everything `nxt` can do. -/
theorem nxt_cases (t : Time) (f : State → State) (s : State) :
    (s.rstHold = [] ∧ nxt t f s = .next (s.done (f (s.atTime t)))) ∨
    (s.rstHold ≠ [] ∧ nxt t f s = .next { s with walltime := max s.walltime t }) := by
  by_cases h : s.rstHold = []
  · exact .inl ⟨h, nxt_free t f h⟩
  · exact .inr ⟨h, nxt_held t f h⟩

/-- What a command that the state finds brings about. -/
theorem nxt_finds {t : Time} {s u : State} (h : Finds t s u) (f : State → State) : nxt t f s = .next (s.done (f u)) := by
  obtain ⟨h, rfl⟩ := h; exact nxt_free t f h

/-! Register writes and requests. -/

/-- Everything a write of a register can do once it does not wait. -/
theorem guarded_cases (p : Port) (page off : Nat) (go : State → State) (u : State) :
    (u.portServed p = false ∧ u.guarded p page off go = u) ∨
    (u.portServed p = true ∧ u.writeCode (portSecure p) page off 15 = none ∧ u.guarded p page off go = go u) ∨
    (∃ k pg, u.portServed p = true ∧ u.writeCode (portSecure p) page off 15 = some (k, pg) ∧ u.guarded p page off go = u.err pg k) := by
  cases hp : u.portServed p with
  | false => exact .inl ⟨rfl, by simp [State.guarded, hp]⟩
  | true =>
    cases hw : u.writeCode (portSecure p) page off 15 with
    | none => exact .inr (.inl ⟨rfl, rfl, by simp [State.guarded, hp, hw]⟩)
    | some x => exact .inr (.inr ⟨x.1, x.2, rfl, rfl, by simp [State.guarded, hp, hw]⟩)

theorem guarded_admits {u : State} {p : Port} {page off : Nat} (go : State → State) (h : u.admits p page off) :
    u.guarded p page off go = go u := by
  simp [State.guarded, h.1, h.2.1]

/-- A write to a register that may wait for the die-to-die link: it waits, or is decided at once. -/
theorem guardedW_cases (p : Port) (page off : Nat) (v : Word) (go : State → State) (u : State) :
    (u.portServed p = true ∧ u.waitsD2d page off = true ∧
      u.guardedW p page off v go = u.holdAcc (.write p (pageBase page + off) 15 v)) ∨
    ((u.portServed p = false ∨ u.waitsD2d page off = false) ∧ u.guardedW p page off v go = u.guarded p page off go) := by
  unfold State.guardedW
  cases hp : u.portServed p with
  | false => exact .inr ⟨.inl rfl, by simp⟩
  | true =>
    cases hw : u.waitsD2d page off with
    | false => exact .inr ⟨.inr rfl, by simp⟩
    | true => exact .inl ⟨rfl, rfl, by simp⟩

theorem guardedW_admits {u : State} {p : Port} {page off : Nat} (v : Word) (go : State → State) (h : u.admits p page off) :
    u.guardedW p page off v go = go u := by
  rw [State.guardedW, h.2.2]
  simpa using guarded_admits go h

/-- A register of the controller tile, and the ones that keep the companion's header, never wait (R17). -/
theorem waitsD2d_never {u : State} {page off : Nat} (h : companionPage page = false ∨ sysHeld off = true) :
    u.waitsD2d page off = false := by
  rcases h with h | h <;> simp [State.waitsD2d, h]

/-- Everything a request can do. -/
theorem run_cases (a : Act) (u : State) :
    (a.code u = none ∧ a.run u = a.go u) ∨ (∃ k, a.code u = some k ∧ a.run u = a.refused k u) := by
  unfold Act.run
  cases h : a.code u with
  | none => exact .inl ⟨rfl, rfl⟩
  | some k => exact .inr ⟨k, rfl, rfl⟩

/-- A command that is a request of a register that may wait has the ends of `Requests`. -/
theorem requests_ofW {t : Time} {c : Instr} {s u : State} {p : Port} {page off : Nat} {v : Word} {pre : State → State} {a : Act}
    (hf : Finds t s u) (hc : exec c s = nxt t (fun x => x.guardedW p page off v fun y => a.run (pre y)) s) :
    Requests c s u p page off pre a := by
  have e : exec c s = .next (s.done (u.guardedW p page off v fun y => a.run (pre y))) := by rw [hc]; exact nxt_finds hf _
  refine ⟨?_, ?_, ?_, ?_, ?_⟩
  · intro h hn; rw [e, guardedW_admits _ _ h]; simp [Act.run, hn]
  · intro k h hk; rw [e, guardedW_admits _ _ h]; simp [Act.run, hk]
  · intro k pg hp hd hw; rw [e]; simp [State.guardedW, State.guarded, hp, hd, hw]
  · intro hp; rw [e]; simp [State.guardedW, State.guarded, hp]
  · intro hp hd; exact ⟨v, by rw [e]; simp [State.guardedW, hp, hd]⟩

/-- The same for a register that never waits. -/
theorem requests_of {t : Time} {c : Instr} {s u : State} {p : Port} {page off : Nat} {pre : State → State} {a : Act}
    (hn : companionPage page = false ∨ sysHeld off = true)
    (hf : Finds t s u) (hc : exec c s = nxt t (fun x => x.guarded p page off fun y => a.run (pre y)) s) :
    Requests c s u p page off pre a := by
  refine requests_ofW (v := 0#32) hf (hc.trans ?_)
  have : (fun x : State => x.guarded p page off fun y => a.run (pre y)) = fun x => x.guardedW p page off 0#32 fun y => a.run (pre y) := by
    funext x
    rw [State.guardedW, waitsD2d_never hn]; simp
  rw [this]

/-- The same for a request whose write stores nothing of its own first. -/
theorem requests_id {t : Time} {c : Instr} {s u : State} {p : Port} {page off : Nat} {a : Act}
    (hn : companionPage page = false ∨ sysHeld off = true)
    (hf : Finds t s u) (hc : exec c s = nxt t (fun x => x.guarded p page off a.run) s) : Requests c s u p page off id a :=
  requests_of hn hf hc

/-! List commands. -/

/-- Everything a list's command can do. -/
theorem runCmd_cases (q op : Nat) (body : ListRun → Word → State → State) (u : State) :
    (u.mayRun q = false ∧ u.runCmd q op body = u) ∨
    (u.mayRun q = true ∧ definedOp (hOp (u.cmdWord q)) = false ∧
      u.runCmd q op body = ({ u with stepReq := ndel u.stepReq (u.lr q).cnd } : State).refuse q BAD_OPCODE) ∨
    (u.mayRun q = true ∧ definedOp (hOp (u.cmdWord q)) = true ∧ hOp (u.cmdWord q) ≠ op ∧ u.runCmd q op body = u) ∨
    (u.atOp q op ∧ u.runCmd q op body = body ((u.cmdTaken q).lr q) (u.cmdWord q) (u.cmdTaken q)) := by
  cases h1 : u.mayRun q with
  | false => exact .inl ⟨rfl, by simp only [State.runCmd, h1, Bool.not_false, if_true]⟩
  | true =>
    cases h2 : definedOp (hOp (u.cmdWord q)) with
    | false => exact .inr (.inl ⟨rfl, rfl, by simp only [State.runCmd, h1, h2, Bool.not_false, Bool.not_true, if_true, Bool.false_eq_true, if_false]⟩)
    | true =>
      by_cases h3 : hOp (u.cmdWord q) = op
      · have h4 : (hOp (u.cmdWord q) != op) = false := by simp [h3]
        exact .inr (.inr (.inr ⟨⟨h1, h2, h3⟩, by
          simp only [State.runCmd, h1, h2, h4, Bool.not_true, Bool.false_eq_true, if_false]⟩))
      · exact .inr (.inr (.inl ⟨rfl, rfl, h3, by
          simp only [State.runCmd, h1, h2, bne_iff_ne.mpr h3, Bool.not_true, Bool.false_eq_true, if_false, if_true]⟩))

theorem runCmd_atOp {u : State} {q op : Nat} (body : ListRun → Word → State → State) (h : u.atOp q op) :
    u.runCmd q op body = body ((u.cmdTaken q).lr q) (u.cmdWord q) (u.cmdTaken q) := by
  obtain ⟨h1, h2, h3⟩ := h
  have h4 : (hOp (u.cmdWord q) != op) = false := by simp [h3]
  simp only [State.runCmd, h1, h2, h4, Bool.not_true, Bool.false_eq_true, if_false]

/-! Messages of the chain. -/

/-- A good message that is not a copy is acknowledged and acted on (R239). -/
theorem recvMsg_hears {u : State} {b : Bool} {ty : Nat} {m : List Byte} (go : State → State) (h : u.hears b ty m)
    (hn : ty ≠ 0x30 ∧ ty ≠ 0x31) : u.recvMsg b ty m go = go (u.heard b m) := by
  obtain ⟨h1, h2, h3, h4⟩ := h
  have h5 : ((u.port b).rxSeq == some (mSeq m)) = false := by simpa using h4
  simp only [State.recvMsg, h1, h2, h3, hn.1, hn.2, h5, State.heard]
  simp

theorem unicastMsg_destined {u : State} {b : Bool} {ty : Nat} {m : List Byte} (go : State → State) (h : u.hears b ty m)
    (hn : ty ≠ 0x30 ∧ ty ≠ 0x31) (hd : (u.heard b m).destined m) : u.unicastMsg b ty m go = go (u.heard b m) := by
  rw [State.unicastMsg, recvMsg_hears _ h hn]; simp [hd.1, hd.2]

theorem bcastMsg_heard {u : State} {b : Bool} {ty : Nat} {m : List Byte} (go : State → State) (h : u.hears b ty m)
    (hn : ty ≠ 0x30 ∧ ty ≠ 0x31) (hd : (u.heard b m).upPort = some b) :
    u.bcastMsg b ty m go = go ((u.heard b m).forward b m) := by
  rw [State.bcastMsg, recvMsg_hears _ h hn]; simp [hd]

end Sys2Proof.Laws
end

