-- ==== Sys2Proof/WellFormed.lean ====
section
/-! DEFINITION. Well-formed commands: operands within the ranges that the manual gives them.  `exec` answers for every command; a
statement never assumes a command well-formed. -/

namespace Sys2Proof

/-- A page of the index list of R54. -/
def okPage (p : Nat) : Bool := p ≤ 17 || (32 ≤ p && p ≤ 38) || (40 ≤ p && p ≤ 64) || (72 ≤ p && p ≤ 79) || (96 ≤ p && p ≤ 100)
/-- A submit ring: four of each instance (R297), and the two secure rings (R330). -/
def okRing (q : Nat) : Bool := decide (q < 1026)
/-- A word of the management space (R51, R55). -/
def okOffset (off : Nat) : Bool := off % 4 = 0 && decide (off < 0x1000000)
/-- A short: to ground or to the supply (R281, R282). -/
def okShort (kind : Nat) : Bool := kind = 1 || kind = 2
/-- A management message: header, whole words, CRC (R238). -/
def okMgmt (m : List Byte) : Bool := 16 ≤ m.length && m.length ≤ 80 && m.length % 4 = 0
/-- A memory channel, if any (R352). -/
def okChannel : Option Nat → Bool
  | some c => decide (c < 10)
  | none => true
/-- A frame of the secure management port: at least its shortest request (R498). -/
def okFrame (f : List Byte) : Bool := decide (7 ≤ f.length)
/-- What a DBG_ACCESS may name (R349). -/
def okDbg : DbgOp → Bool
  | .read _ off => okOffset off
  | .write _ off _ => okOffset off
  | .haltCnd _ c => decide (c < 9)
  | .runCnd _ c => decide (c < 9)
  | .stepCnd _ c => decide (c < 9)
  | .haltGh => true
  | .runGh => true

/-- Whether a command's operands lie in their ranges. -/
def Instr.wf : Instr → Bool
  | .resetNRelease _ _ banks => banks.length == 5
  | .resetNAssert _ _ => true
  | .deviceReset _ _ => true
  | .copyCheckDone _ _ _ bytes => decide (bytes.length ≤ 16777216)
  | .modeReqRun _ _ => true
  | .modeReqQuiesce _ _ => true
  | .modeReqConfigure _ _ => true
  | .quiesceListCancel _ => true
  | .writeBufferDrained _ => true
  | .secReadyWrite _ _ _ => true
  | .d2dTransferError _ _ => true
  | .d2dLinkUp _ => true
  | .d2dLinkDown _ => true
  | .d2dRetrainTimer _ => true
  | .timeSetGo _ _ => true
  | .pageEnable _ _ page => okPage page
  | .pageDisable _ _ page => okPage page
  | .serviceReqSet _ _ req => okPage req.page
  | .serviceReqClear _ _ page => okPage page
  | .testReqSet _ _ req => okPage req.page
  | .testReqClear _ _ page => okPage page
  | .softReset _ _ page => okPage page
  | .clrCounts _ _ page => okPage page
  | .blockInitDone _ page => okPage page
  | .evtStatusClear _ _ page _ race => okPage page && (race.all fun o => decide (o.bit < 32))
  | .evtEnableWrite _ _ page _ => okPage page
  | .errCaptureClear _ _ page _ => okPage page
  | .lockSet _ _ page => okPage page
  | .commitGo _ _ page => okPage page
  | .commitAbort _ _ page => okPage page
  | .commitApply _ page => okPage page
  | .registerWrite _ _ off be _ => okOffset off && decide (be < 16)
  | .jrnEnable _ _ page _ => okPage page
  | .jrnRdWrite _ _ page _ => okPage page
  | .listStart _ c q _ _ => decide (c < 9) && okRing q
  | .nop _ q => okRing q
  | .endList _ q => okRing q
  | .setSurface _ q => okRing q
  | .retireSurface _ q => okRing q
  | .surfaceRetired _ idx head => decide (idx < 4096) && decide (head < 8)
  | .setPlane _ q => okRing q
  | .flip _ q => okRing q
  | .flipWall _ q => okRing q
  | .waitFrame _ q => okRing q
  | .waitTime _ q => okRing q
  | .waitTimeReached _ q => okRing q
  | .waitTimeout _ q => okRing q
  | .writeStamp _ q => okRing q
  | .fenceSignal _ q => okRing q
  | .fenceWait _ q => okRing q
  | .upload _ q => okRing q
  | .fill _ q => okRing q
  | .copyRect _ q => okRing q
  | .dmaChunkDone _ chan _ data => decide (chan < 4) && decide (data.length ≤ 4096)
  | .setRegionAge _ q => okRing q
  | .readSignature _ q => okRing q
  | .hapticPlay _ q => okRing q
  | .audioCue _ q => okRing q
  | .mcall _ q => okRing q
  | .getVersion _ q => okRing q
  | .queryBlock _ q => okRing q
  | .queryDebug _ q => okRing q
  | .queryWatermarks _ q => okRing q
  | .requestBlock _ q => okRing q
  | .offerBlock _ q => okRing q
  | .secReply _ _ _ => true
  | .mcallTimeout _ _ => true
  | .hostReadDone _ _ _ _ => true
  | .hostReadTimeout _ _ _ => true
  | .lineJobRelease _ h _ => decide (h < 8)
  | .spanCompose _ h _ _ slice _ => decide (h < 8) && decide (slice < 5)
  | .outputLine _ h _ _ => decide (h < 8)
  | .vblankStart _ h => decide (h < 8)
  | .frameStart _ h => decide (h < 8)
  | .lockTimeout _ h => decide (h < 8)
  | .pllSettled _ h => decide (h < 8)
  | .genlockEdge _ _ => true
  | .syncSourceLost _ h _ => decide (h < 8)
  | .sourceReturnTimer _ h => decide (h < 8)
  | .ageRelease _ _ h _ _ => decide (h < 8)
  | .memReadDone _ _ _ _ _ => true
  | .memReadRetryDone _ _ _ _ => true
  | .sliceParityError _ slice _ => decide (slice < 5)
  | .plzSubstGo _ _ _ => true
  | .arcFlush _ _ heads => decide (heads < 256)
  | .chainSignalDetect _ _ => true
  | .chainTrainDone _ _ _ _ _ => true
  | .chainTrainTimeout _ _ => true
  | .chainTrainRetry _ _ => true
  | .trainMessage _ _ _ _ _ _ _ => true
  | .chainShort _ _ _ => true
  | .chainFaultClear _ _ => true
  | .chainLossOfSignal _ _ => true
  | .chainPortRetrain _ _ _ => true
  | .markMsg _ _ m => m.length == 28
  | .stepMsg _ _ m => m.length == 28
  | .timeStepApply _ => true
  | .enumMsg _ _ m => m.length == 28
  | .addrReq _ _ m => m.length == 28
  | .addrGrant _ _ m => m.length == 28
  | .topo _ _ m => m.length == 28
  | .breakMsg _ _ m => m.length == 28
  | .readyMsg _ _ m => m.length == 28
  | .commitMsg _ _ m => m.length == 28
  | .deferMsg _ _ m => m.length == 28
  | .excludeMsg _ _ m => m.length == 28
  | .readmitMsg _ _ m => m.length == 28
  | .joinMsg _ _ m => m.length == 28
  | .withdrawMsg _ _ m => m.length == 28
  | .lateCommit _ _ m => m.length == 28
  | .selfExcluded _ _ m => m.length == 28
  | .ackMsg _ _ m => m.length == 28
  | .nakMsg _ _ m => m.length == 28
  | .chainAckTimeout _ _ => true
  | .mgmtRead _ _ m => okMgmt m
  | .mgmtWrite _ _ m => okMgmt m
  | .readRsp _ _ m => okMgmt m
  | .writeRsp _ _ m => okMgmt m
  | .mbGo _ _ _ _ => true
  | .mbTimeout _ _ => true
  | .delayProbe _ _ _ => true
  | .delayProbeReply _ _ _ _ _ _ _ _ => true
  | .enumWalk _ _ => true
  | .markSend _ => true
  | .chainMarkFire _ => true
  | .wallVoteLine _ group => decide (group < 64)
  | .selfExclude _ h => decide (h < 8)
  | .wallReadmitCmd _ _ _ => true
  | .ppsEdge _ => true
  | .ppsLost _ => true
  | .timeMarkOutPulse _ => true
  | .hpdPlug _ h terms => decide (h < 8) && decide (terms < 16)
  | .hpdIrq _ h _ => decide (h < 8)
  | .hpdUnplug _ h => decide (h < 8)
  | .capsReadDone _ h terms _ => decide (h < 8) && decide (terms < 16)
  | .trainConfigDone _ h cr1 cr2 eq => decide (h < 8) && ([cr1, cr2, eq].all fun l => l.all fun d => decide (d.length = 6))
  | .linkFailRetry _ h => decide (h < 8)
  | .dplRetrain _ _ h => decide (h < 8)
  | .auxGo _ _ h _ => decide (h < 8)
  | .auxTransactionDone _ h _ addr _ _ => decide (h < 8) && decide (addr < 1048576)
  | .auxReplyTimeout _ h _ addr _ => decide (h < 8) && decide (addr < 1048576)
  | .auxDeferRetry _ h _ => decide (h < 8)
  | .auxShort _ h kind => decide (h < 8) && okShort kind
  | .auxFaultClear _ h => decide (h < 8)
  | .laneShortDetect _ h lane kind => decide (h < 8) && decide (lane < 4) && okShort kind
  | .laneShortClear _ h lane => decide (h < 8) && decide (lane < 4)
  | .terminationSense _ h terms => decide (h < 8) && decide (terms < 16)
  | .panelSeqTimer _ panel => decide (panel.head < 8)
  | .perstNAssert _ => true
  | .flr _ => true
  | .pcieLinkDown _ => true
  | .pcieLinkUp _ speed width => decide (1 ≤ speed ∧ speed ≤ 5) && decide (1 ≤ width ∧ width ≤ 16)
  | .doorbellWrite _ i r _ => decide (i < 256) && decide (r < 4)
  | .winEvtRdWrite _ i _ => decide (i < 256)
  | .winApertureWrite _ i _ => decide (i < 256)
  | .apertureAccess _ i _ _ _ => decide (i < 256)
  | .instEntryWrite _ _ i _ _ => decide (i < 256)
  | .instOpen _ _ i => decide (i < 256)
  | .instActivate _ _ i => decide (i < 256)
  | .instReset _ _ i => decide (i < 256)
  | .instClose _ _ i => decide (i < 256)
  | .instSuspend _ _ i => decide (i < 256)
  | .instResume _ _ i => decide (i < 256)
  | .instExport _ _ i => decide (i < 256)
  | .instImport _ _ i => decide (i < 256)
  | .instResetDone _ i => decide (i < 256)
  | .suspendDone _ i => decide (i < 256)
  | .exportDone _ i => decide (i < 256)
  | .importDone _ i _ => decide (i < 256)
  | .resRestoreTimer _ => true
  | .migDramToHost _ _ i => decide (i < 256)
  | .migHostToDram _ _ i => decide (i < 256)
  | .migSnapshot _ _ i => decide (i < 256)
  | .migDone _ last => last.all fun x => decide (x.1 < 4)
  | .instC0ResWrite _ _ _ => true
  | .handoverStart _ _ _ => true
  | .handoverRelease _ blk => decide (blk < 65536)
  | .handoverScrubEnd _ blk => decide (blk < 65536)
  | .secSubEnable _ _ r _ => decide (r < 2)
  | .secDoorbell _ _ r _ => decide (r < 2)
  | .svcEnable _ _ _ => true
  | .wmDramWrite _ _ _ => true
  | .wmSdtWrite _ _ _ => true
  | .wmSramWrite _ _ _ => true
  | .jtagExtestEntry entry => decide (entry.ir = .extest ∨ entry.ir = .clamp ∨ entry.ir = .highz)
  | .jtagTestLogicReset _ => true
  | .dbgAccess _ op => okDbg op
  | .perfClear _ _ => true
  | .memInitDone _ densities trained => densities.length == 10 && trained.length == 4
  | .idleDrainStart _ g => decide (g < 2)
  | .refreshDue _ g _ => decide (g < 2)
  | .refreshIssue _ g => decide (g < 2)
  | .refreshPullIn _ g => decide (g < 2)
  | .mr4Poll _ g temps _ => decide (g < 2) && temps.length == 5
  | .retrainStepDue _ g _ => decide (g < 2)
  | .memFreqGo _ _ _ => true
  | .freqSwitchDone _ => true
  | .fullTrainingDone _ fail => okChannel fail
  | .memSvcActionDone _ g fail => decide (g < 2) && okChannel fail
  | .pageFillDone _ page => decide (page < 8388608)
  | .sweeperRead _ g _ _ => decide (g < 2)
  | .lapSlow _ g => decide (g < 2)
  | .rangeGo _ _ _ => true
  | .rangeAbort _ _ => true
  | .rangeDone _ => true
  | .scrubRewrite _ g e _ _ => decide (g < 2) && decide (e < 64)
  | .scrubRewritePromote _ g e => decide (g < 2) && decide (e < 64)
  | .logMark _ _ g e => decide (g < 2) && decide (e < 64)
  | .logUnmark _ _ g e => decide (g < 2) && decide (e < 64)
  | .logFree _ _ g e => decide (g < 2) && decide (e < 64)
  | .repairDone _ g e code => decide (g < 2) && decide (e < 64) && decide (code < 16)
  | .scanCycleStart _ => true
  | .scanCycleEnd _ _ _ _ => true
  | .idleRateStep _ => true
  | .hapTrigEdge _ ch _ => decide (ch < 4)
  | .hapPlay _ _ ch _ => decide (ch < 4)
  | .hapStop _ _ ch => decide (ch < 4)
  | .hapClear _ _ ch => decide (ch < 4)
  | .hapPhaseEnd _ ch => decide (ch < 4)
  | .hapTimedStart _ ch => decide (ch < 4)
  | .hapDutyReached _ ch => decide (ch < 4)
  | .hapShortDetect _ ch => decide (ch < 4)
  | .hapOpenDetect _ ch => decide (ch < 4)
  | .backEmfSample _ ch _ => decide (ch < 4)
  | .vddHapMeasure _ _ => true
  | .tdmClockLock _ port => decide (port < 2)
  | .tdmNoClock _ port => decide (port < 2)
  | .cueStart _ str => decide (str < 16)
  | .cueEnd _ str => decide (str < 16)
  | .cueDataReadDone _ str _ _ => decide (str < 16)
  | .audStrStop _ _ str => decide (str < 16)
  | .alarmPatternStep _ g => decide (g < 4)
  | .duckHoldExpire _ str => decide (str < 16)
  | .bistSramMarch _ _ _ => true
  | .bistDramMarch _ _ _ => true
  | .bistDpLoopback _ _ _ => true
  | .bistPixelPll _ _ _ => true
  | .bistChainLoopback _ _ _ => true
  | .bistTouchRef _ _ _ => true
  | .bistHapticBridge _ _ _ => true
  | .bistTdmLoopback _ _ _ => true
  | .bistTempSensors _ _ _ => true
  | .bistAbort _ _ => true
  | .bistAttemptDone _ _ => true
  | .sramSoftRepairDone _ _ => true
  | .tgEnable _ _ _ => true
  | .tgDisable _ _ => true
  | .tgWindow _ _ => true
  | .cndSubstGo _ _ _ => true
  | .cndSubstDone _ => true
  | .cndFault _ c => decide (c < 9)
  | .updateGhPatch _ _ _ => true
  | .updateCndUcode _ _ _ => true
  | .updateApplyDone _ => true
  | .qspiRead _ _ _ => true
  | .qspiProgram _ _ _ => true
  | .qspiErase _ _ _ => true
  | .qspiOpComplete _ _ => true
  | .qspiOpTimeout _ => true
  | .supplyUndervolt _ rail => decide (rail < 13)
  | .supplyResetRelease _ => true
  | .thermalTrip _ => true
  | .thermalTripEnd _ => true
  | .monSample _ mv temps => mv.length == 13 && temps.length == 6
  | .tempNormalTimer _ => true
  | .smpRead _ frame => okFrame frame
  | .smpWrite _ frame => okFrame frame
  | .smpCsEarlyRise _ => true
  | .smpTimeout _ frame words => okFrame frame && decide (words < 16)
  | .gpioEdge _ pin _ => decide (pin < 32)
  | .perstNRelease _ => true
  | .pcieConfigurationRequest _ _ reg be _ => decide (reg < 1024) && decide (be < 16)
  | .writeBufferBlockWritten _ g _ _ _ => decide (g < 2)
  | .retrainStepPostponeLimit _ g => decide (g < 2)
  | .retrainStepEnd _ g _ => decide (g < 2)
  | .probeReceived _ _ _ _ => true
  | .generatorStart _ g => decide (g < 4)

end Sys2Proof
end

