-- ==== Sys2Proof/Tests/Slice0.lean ====
section
/-! SUPPORT. Tests: an ill-formed command for each check of `Instr.wf`; worked values of the spec; and for each statement with
hypotheses a state and operands that meet them (`wit_…`), each clause its own. -/

namespace Sys2Proof.Tests

open Sys2Proof Sys2Proof.Machine

set_option maxRecDepth 100000
set_option Elab.async false

/-! States that meet the statements' hypotheses. -/

/-- Some state, found by a command at WALLTIME 0 and not held in reset, is as `p` says. -/
def Meets (p : State → Prop) : Prop := ∃ u, Finds 0 u u ∧ p u

theorem meets (u : State) {p : State → Prop} (h : u.rstHold = []) (hp : p u) : Meets p := by
  refine ⟨u, ⟨h, ?_⟩, hp⟩
  simp [State.atTime]

/-- A write of the register reaches it and its request `a` has its effect. -/
def Served (u : State) (p : Port) (page off : Nat) (a : Act) (pre : State → State := id) : Prop :=
  u.admits p page off ∧ a.code (pre u) = none

/-- A write of the register reaches it and its request `a` is refused with `k`. -/
def Turned (u : State) (p : Port) (page off : Nat) (a : Act) (k : Nat) (pre : State → State := id) : Prop :=
  u.admits p page off ∧ a.code (pre u) = some k

/-- A write of the register does not reach it: the rules of access stop it with `k`, shown on the page `pg`. -/
def Barred (u : State) (p : Port) (page off k pg : Nat) : Prop :=
  u.portServed p = true ∧ u.waitsD2d page off = false ∧ u.writeCode (portSecure p) page off 15 = some (k, pg)

/-- Every page in RUN, the device in RUN, the die-to-die link up. -/
def running : State :=
  ((((allPages.foldl (fun s p => s.sf p R.PAGE_STATE_STATE pRUN) State.reset).sf PG_SYS R.SYS_STATE_MODE RUNMODE).sf PG_SYS
    R.SYS_STATE_TRANSITION 0).sf PG_SYS R.SYS_STATE_D2D_UP 1).sf PG_SYS R.SYS_D2D_STATUS_LINK_UP 1

theorem test_running : running.mode = RUNMODE ∧ running.rstHold = [] ∧ running.pstate 14 = pRUN := by decide

/-- `running` in another device mode. -/
def inMode (m : Nat) : State := running.sf PG_SYS R.SYS_STATE_MODE m

/-- `running` while the die-to-die link retrains for the first time. -/
def retraining : State := { running.sf PG_SYS R.SYS_D2D_STATUS_LINK_UP 0 with d2dTrying := true }

theorem wit_HeldInert : ∃ s : State, s.rstHold ≠ [] := ⟨{ State.reset with rstHold := [0] }, by decide⟩

theorem wit_SettledKept : ∃ s s' : State, s.settled ∧ step s = .next s' :=
  ⟨State.reset, State.reset, by simp [State.settled, State.reset], rfl⟩

theorem wit_ModeRequests :
    Meets (fun u => Served u .smp PG_SYS 0x48 deviceResetAct ∧ Served u .smp PG_SYS 0x44 (modeAct true QUIESCE) ∧
      Turned u .bar0 PG_SYS 0x44 (modeAct false RUNMODE) WRONG_STATE ∧ Turned u .bar0 PG_SYS 0x44 (modeAct false CONFIGURE) WRONG_STATE ∧
      Served u .smp PG_SYS 0x48 (secReadyAct true)) ∧
    Meets (fun u => Served u .bar0 PG_SYS 0x44 (modeAct false RUNMODE) ∧ Served u .smp PG_SYS 0x44 (modeAct true RUNMODE)) ∧
    Meets (fun u => Served u .bar0 PG_SYS 0x44 (modeAct false CONFIGURE)) ∧
    Meets (fun u => Turned u .bar0 PG_SYS 0x44 (modeAct false QUIESCE) SECURE_DENIED ∧ Barred u .bar0 PG_SYS 0x48 SECURE_DENIED PG_SYS) ∧
    Meets (fun u => u.portServed .bar0 = false) ∧
    Meets (fun u => u.admits .smp PG_SYS 0x44 ∧ portSecure .smp = true ∧ u.tf PG_SYS R.SYS_STATE_TRANSITION = false ∧ u.mode = SERVICEMODE) ∧
    Meets (fun u => u.admits .bar0 PG_SYS 0x44 ∧ u.tf PG_SYS R.SYS_SEC_CTRL_NW_QUIESCE_OK = true ∧
      u.tf PG_SYS R.SYS_STATE_TRANSITION = false ∧ u.mode = CONFIGURE) :=
  ⟨meets running rfl (by unfold Served Turned State.admits; decide),
   meets ((inMode CONFIGURE).sf PG_SYS R.SYS_SEC_CTRL_SEC_READY 1) rfl (by unfold Served State.admits; decide),
   meets (inMode QUIESCE) rfl (by unfold Served State.admits; decide),
   meets running rfl (by unfold Turned Barred State.admits; decide),
   meets State.reset rfl (by decide), meets (inMode SERVICEMODE) rfl (by unfold State.admits; decide),
   meets ((inMode CONFIGURE).sf PG_SYS R.SYS_SEC_CTRL_NW_QUIESCE_OK 1) rfl (by unfold State.admits; decide)⟩
/-! Worked values of the spec. -/

/-- The check value of R211's engine: the nine ASCII digits. -/
theorem test_crc32 : crc32 [0x31, 0x32, 0x33, 0x34, 0x35, 0x36, 0x37, 0x38, 0x39] = 0xCBF43926 := by decide +kernel

/-- The blending example after R137: the widened operands, the composed pixel, and what a 10-bit and an 8-bit head send. -/
theorem test_blend : colour12 0x100 = (0, 0, 1025) ∧ unpackPix 5 0x80FF4000 false = (2056, 4095, 1028, 0) ∧ widen 0xFF 8 = 4095 ∧
    blend (0, 0, 1025) 2056 (4095, 1028, 0) 4095 0 = (2056, 516, 510) ∧
    [2056, 516, 510].map (outComp 10) = [514, 129, 128] ∧ [2056, 516, 510].map (outComp 8) = [129, 32, 32] := by decide +kernel

/-- The pixel words of the table at R212. -/
theorem test_pixel_words : outWord 10 (2056, 516, 510) = 0x20220480 ∧ outWord 8 (2056, 516, 510) = 0x20420080 := by decide +kernel

/-- The encode worked through after R383: its terms, its check bits, and the parity. -/
theorem test_ecc_encode : bchCheck 0xA5 false = 0x2466 ∧ checkField 0xA5 false = 0x2466 ∧ synd1 (eccEncode 0xA5 false) = 0 ∧
    synd3 (eccEncode 0xA5 false) = 0 := by decide +kernel

/-- Its three decodes: one bit corrected, two corrected, three uncorrectable. -/
theorem test_ecc_decode :
    eccFlips (eccFlip (eccEncode 0xA5 false) [19]) = some [19] ∧ eccFlips (eccFlip (eccEncode 0xA5 false) [16, 54]) = some [16, 54] ∧
    eccFlips (eccFlip (eccEncode 0xA5 false) [16, 54, 20]) = none ∧ eccData (eccFlip (eccEncode 0xA5 false) [16, 54]) = 0x100000000A1 ∧
    gfPow 19 = 0x23 ∧ gfPow 74 = 0x35 ∧ gfPow 25 = 0x73 := by decide +kernel

/-- A step takes the command at the front of the queue: LOCK of a page that is still OFF (R57, R60). -/
theorem test_first_step :
    (match step { State.reset with pending := [.lockSet 6 .smp 32, .jtagTestLogicReset 7] } with
    | .next s => s.pending == [.jtagTestLogicReset 7] && s.tf 32 R.LOCK_LOCKED && s.mode == ENUMERATE && s.walltime == 6
    | _ => false) = true := by decide +kernel

/-- No row of the table gives a command bits. -/
theorem test_decode_none : decodeTableWord 32 0 = none ∧ decodeTableWord 0 7 = none := ⟨rfl, rfl⟩

/-! Well-formedness: each check of each command refuses an operand just beyond its range. -/

/-- A context with nothing in it. -/
def ctx : Context := ⟨[], [], (0, 0), [], [], [], []⟩

theorem test_wf_refuses_1 : ((
    [.resetNRelease 0 false [0, 0, 0, 0], .pageEnable 0 .smp 18, .pageDisable 0 .smp 18, .serviceReqSet 0 .smp { page := 18 },
      .serviceReqClear 0 .smp 18, .testReqSet 0 .smp { page := 18 }, .testReqClear 0 .smp 18, .softReset 0 .smp 18,
      .clrCounts 0 .smp 18, .blockInitDone 0 18, .evtStatusClear 0 .smp 18 0 [],
      .evtStatusClear 0 .smp 0 0 [⟨32, 0, 0, 0, none, none⟩], .evtEnableWrite 0 .smp 18 0, .errCaptureClear 0 .smp 18 none,
      .lockSet 0 .smp 18, .commitGo 0 .smp 18, .commitAbort 0 .smp 18, .commitApply 0 18, .registerWrite 0 .smp 2 0 0,
      .registerWrite 0 .smp 16777216 0 0, .registerWrite 0 .smp 0 16 0, .jrnEnable 0 .smp 18 0, .jrnRdWrite 0 .smp 18 0,
      .listStart 0 9 0 [] [], .listStart 0 0 1026 [] [], .nop 0 1026, .endList 0 1026, .setSurface 0 1026,
      .retireSurface 0 1026, .surfaceRetired 0 4096 0, .surfaceRetired 0 0 8, .setPlane 0 1026, .flip 0 1026, .flipWall 0 1026,
      .waitFrame 0 1026, .waitTime 0 1026, .waitTimeReached 0 1026, .waitTimeout 0 1026, .writeStamp 0 1026,
      .fenceSignal 0 1026, .fenceWait 0 1026, .upload 0 1026, .fill 0 1026, .copyRect 0 1026, .dmaChunkDone 0 4 none [],
      .dmaChunkDone 0 0 none (List.replicate 4097 0), .setRegionAge 0 1026, .readSignature 0 1026, .hapticPlay 0 1026,
      .audioCue 0 1026, .mcall 0 1026, .getVersion 0 1026, .queryBlock 0 1026, .queryDebug 0 1026, .queryWatermarks 0 1026,
      .requestBlock 0 1026, .offerBlock 0 1026, .lineJobRelease 0 8 0, .spanCompose 0 8 0 0 0 [], .spanCompose 0 0 0 0 5 []] : List Instr).all fun i => !i.wf) = true := by decide +kernel

theorem test_wf_refuses_2 : ((
    [.outputLine 0 8 0 0, .vblankStart 0 8, .frameStart 0 8, .lockTimeout 0 8, .pllSettled 0 8, .syncSourceLost 0 8 false,
      .sourceReturnTimer 0 8, .ageRelease 0 .smp 8 0 0, .sliceParityError 0 5 none, .arcFlush 0 .smp 256,
      .markMsg 0 false (List.replicate 27 0), .stepMsg 0 false (List.replicate 27 0), .enumMsg 0 false (List.replicate 27 0),
      .addrReq 0 false (List.replicate 27 0), .addrGrant 0 false (List.replicate 27 0), .topo 0 false (List.replicate 27 0),
      .breakMsg 0 false (List.replicate 27 0), .readyMsg 0 false (List.replicate 27 0),
      .commitMsg 0 false (List.replicate 27 0), .deferMsg 0 false (List.replicate 27 0),
      .excludeMsg 0 false (List.replicate 27 0), .readmitMsg 0 false (List.replicate 27 0),
      .joinMsg 0 false (List.replicate 27 0), .withdrawMsg 0 false (List.replicate 27 0),
      .lateCommit 0 false (List.replicate 27 0), .selfExcluded 0 false (List.replicate 27 0),
      .ackMsg 0 false (List.replicate 27 0), .nakMsg 0 false (List.replicate 27 0), .mgmtRead 0 false (List.replicate 12 0),
      .mgmtRead 0 false (List.replicate 84 0), .mgmtRead 0 false (List.replicate 18 0),
      .mgmtWrite 0 false (List.replicate 12 0), .mgmtWrite 0 false (List.replicate 84 0),
      .mgmtWrite 0 false (List.replicate 18 0), .readRsp 0 false (List.replicate 12 0), .readRsp 0 false (List.replicate 84 0),
      .readRsp 0 false (List.replicate 18 0), .writeRsp 0 false (List.replicate 12 0), .writeRsp 0 false (List.replicate 84 0),
      .writeRsp 0 false (List.replicate 18 0), .wallVoteLine 0 64, .selfExclude 0 8, .hpdPlug 0 8 0, .hpdPlug 0 0 16,
      .hpdIrq 0 8 [], .hpdUnplug 0 8, .capsReadDone 0 8 0 none, .capsReadDone 0 0 16 none, .trainConfigDone 0 8 [] [] [],
      .trainConfigDone 0 0 [[]] [] [], .trainConfigDone 0 0 [] [[]] [], .trainConfigDone 0 0 [] [] [[]], .linkFailRetry 0 8,
      .dplRetrain 0 .smp 8, .auxGo 0 .smp 8 0, .auxTransactionDone 0 8 false 0 0 .defer,
      .auxTransactionDone 0 0 false 1048576 0 .defer, .auxReplyTimeout 0 8 false 0 0, .auxReplyTimeout 0 0 false 1048576 0,
      .auxDeferRetry 0 8 false] : List Instr).all fun i => !i.wf) = true := by decide +kernel

theorem test_wf_refuses_3 : ((
    [.auxShort 0 8 1, .auxShort 0 0 0, .auxShort 0 0 3, .auxFaultClear 0 8, .laneShortDetect 0 8 0 1, .laneShortDetect 0 0 4 1,
      .laneShortDetect 0 0 0 0, .laneShortDetect 0 0 0 3, .laneShortClear 0 8 0, .laneShortClear 0 0 4,
      .terminationSense 0 8 0, .terminationSense 0 0 16, .panelSeqTimer 0 { head := 8 }, .pcieLinkUp 0 0 1, .pcieLinkUp 0 6 1,
      .pcieLinkUp 0 1 0, .pcieLinkUp 0 1 17, .doorbellWrite 0 256 0 0, .doorbellWrite 0 0 4 0, .winEvtRdWrite 0 256 0,
      .winApertureWrite 0 256 0, .apertureAccess 0 256 0 0 none, .instEntryWrite 0 .smp 256 0 0, .instOpen 0 .smp 256,
      .instActivate 0 .smp 256, .instReset 0 .smp 256, .instClose 0 .smp 256, .instSuspend 0 .smp 256, .instResume 0 .smp 256,
      .instExport 0 .smp 256, .instImport 0 .smp 256, .instResetDone 0 256, .suspendDone 0 256, .exportDone 0 256,
      .importDone 0 256 { bytes := [], ctx }, .migDramToHost 0 .smp 256, .migHostToDram 0 .smp 256, .migSnapshot 0 .smp 256,
      .handoverRelease 0 65536, .handoverScrubEnd 0 65536, .secSubEnable 0 .smp 2 0, .secDoorbell 0 .smp 2 0,
      .jtagExtestEntry { time := 0, ir := .idcode }, .jtagExtestEntry { time := 0, ir := .bypass }, .dbgAccess 0 (.read false 3),
      .dbgAccess 0 (.write true 16777216 0), .dbgAccess 0 (.haltCnd true 9), .dbgAccess 0 (.runCnd true 9),
      .dbgAccess 0 (.stepCnd true 9), .memInitDone 0 (List.replicate 9 0) (List.replicate 4 none),
      .memInitDone 0 (List.replicate 10 0) (List.replicate 3 none), .idleDrainStart 0 2, .refreshDue 0 2 false,
      .refreshIssue 0 2, .refreshPullIn 0 2, .mr4Poll 0 2 (List.replicate 5 0) [], .mr4Poll 0 0 (List.replicate 4 0) [],
      .retrainStepDue 0 2 false, .fullTrainingDone 0 (some 10), .memSvcActionDone 0 2 none] : List Instr).all fun i => !i.wf) = true := by decide +kernel

theorem test_wf_refuses_4 : ((
    [.memSvcActionDone 0 0 (some 10), .pageFillDone 0 8388608, .sweeperRead 0 2 [] [], .lapSlow 0 2, .scrubRewrite 0 2 0 [] [],
      .scrubRewrite 0 0 64 [] [], .scrubRewritePromote 0 2 0, .scrubRewritePromote 0 0 64, .logMark 0 .smp 2 0,
      .logMark 0 .smp 0 64, .logUnmark 0 .smp 2 0, .logUnmark 0 .smp 0 64, .logFree 0 .smp 2 0, .logFree 0 .smp 0 64,
      .repairDone 0 2 0 0, .repairDone 0 0 64 0, .repairDone 0 0 0 16, .hapTrigEdge 0 4 false, .hapPlay 0 .smp 4 0,
      .hapStop 0 .smp 4, .hapClear 0 .smp 4, .hapPhaseEnd 0 4, .hapTimedStart 0 4, .hapDutyReached 0 4, .hapShortDetect 0 4,
      .hapOpenDetect 0 4, .backEmfSample 0 4 0, .tdmClockLock 0 2, .tdmNoClock 0 2, .cueStart 0 16, .cueEnd 0 16,
      .cueDataReadDone 0 16 0 false, .audStrStop 0 .smp 16, .alarmPatternStep 0 4, .duckHoldExpire 0 16, .cndFault 0 9,
      .supplyUndervolt 0 13, .monSample 0 (List.replicate 12 0) (List.replicate 6 0),
      .monSample 0 (List.replicate 13 0) (List.replicate 7 0), .smpRead 0 (List.replicate 6 0),
      .smpWrite 0 (List.replicate 6 0), .smpTimeout 0 (List.replicate 6 0) 0, .smpTimeout 0 (List.replicate 7 0) 16,
      .gpioEdge 0 32 false, .pcieConfigurationRequest 0 false 1024 0 0, .pcieConfigurationRequest 0 false 0 16 0,
      .writeBufferBlockWritten 0 2 0 [] [], .retrainStepPostponeLimit 0 2, .retrainStepEnd 0 2 none, .generatorStart 0 4] : List Instr).all fun i => !i.wf) = true := by decide +kernel

theorem test_wf_accepts_1 : ((
    [.resetNRelease 0 false [0, 0, 0, 0, 0], .pageEnable 0 .smp 0, .pageDisable 0 .smp 0, .serviceReqSet 0 .smp { page := 0 },
      .serviceReqClear 0 .smp 0, .testReqSet 0 .smp { page := 0 }, .testReqClear 0 .smp 0, .softReset 0 .smp 0, .clrCounts 0 .smp 0,
      .blockInitDone 0 0, .evtStatusClear 0 .smp 0 0 [], .evtEnableWrite 0 .smp 0 0, .errCaptureClear 0 .smp 0 none,
      .lockSet 0 .smp 0, .commitGo 0 .smp 0, .commitAbort 0 .smp 0, .commitApply 0 0, .registerWrite 0 .smp 0 0 0,
      .jrnEnable 0 .smp 0 0, .jrnRdWrite 0 .smp 0 0, .listStart 0 0 0 [] [], .nop 0 0, .endList 0 0, .setSurface 0 0,
      .retireSurface 0 0, .surfaceRetired 0 0 0, .setPlane 0 0, .flip 0 0, .flipWall 0 0, .waitFrame 0 0, .waitTime 0 0,
      .waitTimeReached 0 0, .waitTimeout 0 0, .writeStamp 0 0, .fenceSignal 0 0, .fenceWait 0 0, .upload 0 0, .fill 0 0,
      .copyRect 0 0, .dmaChunkDone 0 0 none [], .setRegionAge 0 0, .readSignature 0 0, .hapticPlay 0 0, .audioCue 0 0,
      .mcall 0 0, .getVersion 0 0, .queryBlock 0 0, .queryDebug 0 0, .queryWatermarks 0 0, .requestBlock 0 0, .offerBlock 0 0,
      .lineJobRelease 0 0 0, .spanCompose 0 0 0 0 0 [], .outputLine 0 0 0 0, .vblankStart 0 0, .frameStart 0 0,
      .lockTimeout 0 0, .pllSettled 0 0, .syncSourceLost 0 0 false, .sourceReturnTimer 0 0, .ageRelease 0 .smp 0 0 0,
      .sliceParityError 0 0 none, .arcFlush 0 .smp 0, .markMsg 0 false (List.replicate 28 0),
      .stepMsg 0 false (List.replicate 28 0), .enumMsg 0 false (List.replicate 28 0), .addrReq 0 false (List.replicate 28 0),
      .addrGrant 0 false (List.replicate 28 0), .topo 0 false (List.replicate 28 0), .breakMsg 0 false (List.replicate 28 0)] : List Instr).all fun i => i.wf) = true := by decide +kernel

theorem test_wf_accepts_2 : ((
    [.readyMsg 0 false (List.replicate 28 0), .commitMsg 0 false (List.replicate 28 0),
      .deferMsg 0 false (List.replicate 28 0), .excludeMsg 0 false (List.replicate 28 0),
      .readmitMsg 0 false (List.replicate 28 0), .joinMsg 0 false (List.replicate 28 0),
      .withdrawMsg 0 false (List.replicate 28 0), .lateCommit 0 false (List.replicate 28 0),
      .selfExcluded 0 false (List.replicate 28 0), .ackMsg 0 false (List.replicate 28 0),
      .nakMsg 0 false (List.replicate 28 0), .mgmtRead 0 false (List.replicate 16 0), .mgmtWrite 0 false (List.replicate 16 0),
      .readRsp 0 false (List.replicate 16 0), .writeRsp 0 false (List.replicate 16 0), .wallVoteLine 0 0, .selfExclude 0 0,
      .hpdPlug 0 0 0, .hpdIrq 0 0 [], .hpdUnplug 0 0, .capsReadDone 0 0 0 none, .trainConfigDone 0 0 [] [] [],
      .linkFailRetry 0 0, .dplRetrain 0 .smp 0, .auxGo 0 .smp 0 0, .auxTransactionDone 0 0 false 0 0 .defer,
      .auxReplyTimeout 0 0 false 0 0, .auxDeferRetry 0 0 false, .auxShort 0 0 1, .auxFaultClear 0 0, .laneShortDetect 0 0 0 1,
      .laneShortClear 0 0 0, .terminationSense 0 0 0, .panelSeqTimer 0 { head := 0 }, .pcieLinkUp 0 1 1, .doorbellWrite 0 0 0 0,
      .winEvtRdWrite 0 0 0, .winApertureWrite 0 0 0, .apertureAccess 0 0 0 0 none, .instEntryWrite 0 .smp 0 0 0,
      .instOpen 0 .smp 0, .instActivate 0 .smp 0, .instReset 0 .smp 0, .instClose 0 .smp 0, .instSuspend 0 .smp 0,
      .instResume 0 .smp 0, .instExport 0 .smp 0, .instImport 0 .smp 0, .instResetDone 0 0, .suspendDone 0 0, .exportDone 0 0,
      .importDone 0 0 { bytes := [], ctx }, .migDramToHost 0 .smp 0, .migHostToDram 0 .smp 0, .migSnapshot 0 .smp 0, .handoverRelease 0 0,
      .handoverScrubEnd 0 0, .secSubEnable 0 .smp 0 0, .secDoorbell 0 .smp 0 0, .jtagExtestEntry { time := 0, ir := .extest },
      .dbgAccess 0 .haltGh, .memInitDone 0 (List.replicate 10 0) (List.replicate 4 none), .idleDrainStart 0 0,
      .refreshDue 0 0 false, .refreshIssue 0 0, .refreshPullIn 0 0, .mr4Poll 0 0 (List.replicate 5 0) [],
      .retrainStepDue 0 0 false, .fullTrainingDone 0 none, .memSvcActionDone 0 0 none] : List Instr).all fun i => i.wf) = true := by decide +kernel

theorem test_wf_accepts_3 : ((
    [.pageFillDone 0 0, .sweeperRead 0 0 [] [], .lapSlow 0 0, .scrubRewrite 0 0 0 [] [], .scrubRewritePromote 0 0 0,
      .logMark 0 .smp 0 0, .logUnmark 0 .smp 0 0, .logFree 0 .smp 0 0, .repairDone 0 0 0 0, .hapTrigEdge 0 0 false,
      .hapPlay 0 .smp 0 0, .hapStop 0 .smp 0, .hapClear 0 .smp 0, .hapPhaseEnd 0 0, .hapTimedStart 0 0, .hapDutyReached 0 0,
      .hapShortDetect 0 0, .hapOpenDetect 0 0, .backEmfSample 0 0 0, .tdmClockLock 0 0, .tdmNoClock 0 0, .cueStart 0 0,
      .cueEnd 0 0, .cueDataReadDone 0 0 0 false, .audStrStop 0 .smp 0, .alarmPatternStep 0 0, .duckHoldExpire 0 0,
      .cndFault 0 0, .supplyUndervolt 0 0, .monSample 0 (List.replicate 13 0) (List.replicate 6 0),
      .smpRead 0 (List.replicate 7 0), .smpWrite 0 (List.replicate 7 0), .smpTimeout 0 (List.replicate 7 0) 0,
      .gpioEdge 0 0 false, .pcieConfigurationRequest 0 false 0 0 0, .writeBufferBlockWritten 0 0 0 [] [],
      .retrainStepPostponeLimit 0 0, .retrainStepEnd 0 0 none, .generatorStart 0 0] : List Instr).all fun i => i.wf) = true := by decide +kernel

theorem test_wf_copy : (Instr.copyCheckDone 0 false true (List.replicate 16777217 0)).wf = false := by
  simp only [Instr.wf, List.length_replicate]
  decide

theorem wit_SystemEvents :
    Meets (fun u => u.qcancelAt = some 5 ∧ u.quiescing = true ∧ 5 + 10000000 ≤ u.walltime ∧
      [1] = (u.lists.filter fun x => x.2.st != .idle).map (·.1) ∧
      [7] = u.cmdsWhere (fun c => [1].contains c.q && (c.op = 0x40 || c.op = 0x41 || c.op = 0x42))) ∧
    Meets (fun u => u.quiescing = false) ∧ Meets (fun u => u.quiescing = true ∧ u.qcancelAt = none ∧ u.wbuf ≠ []) ∧
    Meets (fun u => u.quiescing = true ∧ u.wbuf = [] ∧ u.wwait = [] ∧ ∀ p ∈ u.lists, p.2.st = .idle) ∧
    Meets (fun u => (7 : Nat) < 8 ∧ u.tf PG_SYS R.SYS_D2D_STATUS_LINK_UP = true) ∧
    Meets (fun u => (8 : Nat) ≤ 8 ∧ u.tf PG_SYS R.SYS_D2D_STATUS_LINK_UP = true) ∧
    Meets (fun u => u.tf PG_SYS R.SYS_D2D_STATUS_LINK_UP = false ∧ u.d2dDownAt = some 9) ∧
    Meets (fun u => u.d2dFailed = true ∧ u.d2dTrying = false ∧ u.d2dTryAt + 100000000 ≤ u.walltime) ∧
    Meets (fun u => u.d2dTrying = true) ∧ Meets (fun u => u.d2dFailed = false) ∧
    Meets (fun u => u.d2dFailed = true ∧ u.d2dTrying = false ∧ u.walltime < u.d2dTryAt + 100000000) :=
  ⟨meets { running with
     qcancelAt := some 5, quiescing := true, walltime := 10000005, lists := [(1, { st := .running }), (2, { st := .idle })]
     cmds := [(7, { op := 0x41, q := 1 }), (8, { op := 0x41, q := 2 }), (9, { op := 0x10, q := 1 })] } rfl (by decide +kernel),
   meets running rfl (by decide), meets { running with quiescing := true, wbuf := [(1, {})] } rfl (by decide),
   meets { running with quiescing := true, lists := [(1, { st := .idle })] } rfl (by decide),
   meets running rfl (by decide), meets running rfl (by decide),
   meets { running.sf PG_SYS R.SYS_D2D_STATUS_LINK_UP 0 with d2dDownAt := some 9 } rfl (by decide),
   meets { running with d2dFailed := true, walltime := 100000000 } rfl (by decide),
   meets { running with d2dTrying := true } rfl (by decide), meets running rfl (by decide),
   meets { running with d2dFailed := true, walltime := 99999999 } rfl (by decide)⟩

theorem wit_PageRequests :
    Meets (fun u => Served u .smp 96 0x08 (svcAct 96 false true) ∧ Served u .smp 96 0x08 (svcAct 96 false false) ∧
      Served u .smp 33 0x08 (svcAct 33 true false) ∧ Served u .smp 13 0x08 (softAct 13) ∧ Served u .smp 100 0x08 (clrAct 100) ∧
      Served u .smp 0 0x18 (evtEnableAct 0 1#32) ∧ Served u .smp 32 0x3C (lockAct 32) ∧ Served u .smp 40 0x30 (commitAct 40) ∧
      Served u .smp 47 0x30 (abortAct 47) ∧ Served u .smp PG_JRN_S 0x48 (jrnCtrlAct PG_JRN_S 1#32) ∧
      Served u .smp PG_JRN_S 0x50 (jrnRdAct PG_JRN_S 7#32) ∧ Turned u .smp PG_JRN_N 0x48 (jrnCtrlAct PG_JRN_N 1#32) BAD_ARG ∧
      Turned u .smp 0 0x08 (svcAct 0 false true) BAD_ARG) ∧
    Meets (fun u => Served u .smp 14 0x08 (svcAct 14 true true)) ∧
    Meets (fun u => Turned u .smp 14 0x08 (svcAct 14 true true) WRONG_STATE ∧ Barred u .smp 300 0x08 BAD_ARG PG_SYS) ∧
    Meets (fun u => u.portServed .bar0 = false) ∧
    Meets (fun u => u.portServed .smp = true ∧ u.waitsD2d 96 0x18 = true ∧ u.waitsD2d 100 0x30 = true) ∧
    Meets (fun u => u.admits .smp PG_SYS 0x44 ∧ u.modeCode (portSecure .smp) QUIESCE = none ∧
      ((u.sf PG_SYS R.SYS_MODE_REQ_TARGET QUIESCE).modeGo QUIESCE).admits .smp 96 0x08 ∧
      ((u.sf PG_SYS R.SYS_MODE_REQ_TARGET QUIESCE).modeGo QUIESCE).tf 96 R.PAGE_CTRL_SERVICE_REQ = false ∧
      ((u.sf PG_SYS R.SYS_MODE_REQ_TARGET QUIESCE).modeGo QUIESCE).serviceCode 96 false ≠ none ∧
      ((u.sf PG_SYS R.SYS_MODE_REQ_TARGET QUIESCE).modeGo QUIESCE).tf 96 R.PAGE_CTRL_TEST_REQ = false ∧
      ((u.sf PG_SYS R.SYS_MODE_REQ_TARGET QUIESCE).modeGo QUIESCE).serviceCode 96 true ≠ none) :=
  ⟨meets running rfl (by unfold Served Turned State.admits; decide), meets (inMode CONFIGURE) rfl (by unfold Served State.admits; decide),
   meets running rfl (by unfold Turned Barred State.admits; decide), meets State.reset rfl (by decide),
   meets retraining rfl (by decide), meets running rfl (by unfold State.admits; decide +kernel)⟩

theorem wit_PageEnables :
    Meets (fun u => u.portServed .bar0 = true ∧ u.gates .bar0 PG_SEC false = true) ∧
    Meets (fun u => u.gates .smp PG_SEC false = false ∧ u.admits .smp PG_SEC 0x08) ∧
    Meets (fun u => u.portServed .bar0 = true ∧ u.writeCode (portSecure .bar0) PG_SEC 0x08 15 = some (SECURE_DENIED, PG_SEC) ∧
      u.gates .bar0 PG_SEC true = false) :=
  ⟨meets running rfl (by decide), meets running rfl (by unfold State.admits; decide), meets running rfl (by decide)⟩

theorem wit_PageEvents :
    Meets (fun u => u.admits .smp 100 0x14 ∧ pageExists 100 = true ∧ (31 : Nat) < 32 ∧ u.admits .bar0 100 0x20 ∧ pageExists 0 = true) ∧
    Meets (fun u => u.portServed .bar0 = false) ∧ Meets (fun u => u.wordWaits 0x164FFC = false) ∧
    Meets (fun u => u.portServed .bar0 = true ∧ u.wordWaits 0x164FFC = true) :=
  ⟨meets running rfl (by unfold State.admits; decide), meets State.reset rfl (by decide), meets running rfl (by decide),
   meets retraining rfl (by decide)⟩

/-- `running` with a secure list on Conductor 0 that begins with the word `w`. -/
def listed (w : Word) : State := { running with lists := [(1025, { st := .running, words := w :: List.replicate 7 0#32 })] }

/-- `running` with instance 255 ACTIVE and its ring 3 enabled, with one slot written. -/
def active : State :=
  (((running.sf PG_PCI R.PCI_LINK_UP 1).wr (entKey 255 0) (BitVec.ofNat 32 iACTIVE)).wr (entKey 255 54) 0x100#32).wr (winKey 255 0x38) 1#32

theorem wit_ListCommands :
    Meets (fun u => u.mayTake 7 1023 = true) ∧
    Meets (fun u => u.atOp 1025 0x00 ∧ refusal (hdrChecks 1025 ((u.cmdTaken 1025).lr 1025) (u.cmdWord 1025) (max 1 (hLen (u.cmdWord 1025))) []) = none) ∧
    Meets (fun u => u.atOp 1025 0x01 ∧ refusal (hdrChecks 1025 ((u.cmdTaken 1025).lr 1025) (u.cmdWord 1025) 1 []) = none ∧
      hNotify (u.cmdWord 1025) = false) ∧
    Meets (fun u => u.atOp 1025 0x01 ∧ refusal (hdrChecks 1025 ((u.cmdTaken 1025).lr 1025) (u.cmdWord 1025) 1 []) = none ∧
      hNotify (u.cmdWord 1025) = true) ∧
    (∀ op ∈ [0x30, 0x31, 0x32, 0x33, 0x34], Meets (fun u => u.atOp 1025 op)) ∧
    Meets (fun u => u.atOp 1023 0x34) ∧
    Meets (fun u => (u.lr 1025).wait = .time 10 ∧ (u.lr 1025).st = .wait ∧ 10 ≤ u.localTime 3) ∧
    Meets (fun u => (u.lr 0).wait = .fence 1 7 ∧ (u.lr 0).st = .wait ∧ (u.lr 0).deadline = some 9 ∧ 9 ≤ u.walltime) ∧
    Meets (fun u => (u.lr 1024).wait = .gatehouse 3 ∧ (u.lr 1024).st = .aside ∧ (u.lr 1024).resume = none ∧ (u.lr 1024).deadline = some 9 ∧
      9 ≤ u.walltime) := by
  refine ⟨meets active rfl (by decide +kernel), meets (listed 0x80000800#32) rfl (by unfold State.atOp; decide +kernel),
    meets (listed 0x80000101#32) rfl (by unfold State.atOp; decide +kernel), meets (listed 0x80020101#32) rfl (by unfold State.atOp; decide +kernel),
    fun op h => meets (listed (BitVec.ofNat 32 (0x80000000 + op))) rfl ?_,
    meets { active with lists := [(1023, { st := .running, words := [0x34#32] })] } rfl (by unfold State.atOp; decide +kernel),
    meets { running with walltime := 10000, lists := [(1025, { st := .wait, wait := .time 10 })] } rfl (by decide +kernel),
    meets { running with walltime := 9, lists := [(0, { st := .wait, wait := .fence 1 7, deadline := some 9 })] } rfl (by decide +kernel),
    meets { running with walltime := 9, lists := [(1024, { st := .aside, wait := .gatehouse 3, deadline := some 9 })] } rfl (by decide +kernel)⟩
  unfold State.atOp
  revert op
  decide +kernel

theorem wit_DataCommands :
    (∀ op ∈ [0x10, 0x11, 0x20, 0x21, 0x22, 0x40, 0x41, 0x42, 0x50, 0x51, 0x60, 0x61, 0x70], Meets (fun u => u.atOp 1025 op)) ∧
    Meets (fun u => (u.surf 7).state = sRETIRING ∧ u.boundActive 7 = [] ∧ u.boundShadow 7 = [] ∧ (u.surf 7).lastRead = [] ∧
      (u.surf 7).retCmd = none) ∧
    Meets (fun u => (3 : Nat) < 4 ∧ u.dmaMay 5 = true) := by
  refine ⟨fun op h => meets (listed (BitVec.ofNat 32 (0x80000000 + op))) rfl ?_,
    meets { running with sdt := [(7, { state := sRETIRING })] } rfl (by decide +kernel),
    meets { running with cmds := [(5, { op := 0x40 })] } rfl (by decide +kernel)⟩
  unfold State.atOp
  revert op
  decide +kernel

/-- `running` with the list of the secure ring 0 waiting for the vendor service `n`, whose argument block holds `w`. -/
def asking (n w : Nat) : State :=
  { (running.sf 14 R.MEM_CFG_CAP_GIB 8).dput 0 (leBytes 4 w) with lists := [(1024, { st := .wait, wait := .gatehouse n, words := List.replicate 8 0#32 })] }

theorem wit_GatehouseEvents :
    (∀ n ∈ [0, 2, 3, 0x10, 0x11], Meets (fun u => u.waitsGate 1024 n = true)) ∧
    Meets (fun u => u.waitsGate 1024 1 = true ∧ (u.wordAt (u.lr 1024).argAt).toNat < 65536 ∧
      blkOk (u.wordAt (u.lr 1024).argAt).toNat = true) ∧
    Meets (fun u => u.waitsGate 1024 1 = true ∧ blkOk (u.wordAt (u.lr 1024).argAt).toNat = false) ∧
    Meets (fun u => Turned u .smp PG_SEC 0x64 replyAct WRONG_STATE (State.plainWrite true PG_SEC 0x64 1#32) ∧
      Barred u .bar0 PG_SEC 0x64 SECURE_DENIED PG_SEC) ∧
    Meets (fun u => Served u .smp PG_SEC 0x64 replyAct (State.plainWrite true PG_SEC 0x64 1#32)) ∧
    Meets (fun u => u.portServed .bar0 = false) ∧
    Meets (fun u => u.calls.find? (fun x => x.1 == 3) = some (3, { deadline := 100 }) ∧ fget {} u.calls 3 = { deadline := 100 } ∧
      fhas u.calls 3 = true ∧ ({ deadline := 100 } : Call).open_ = true ∧ 100 ≤ u.localTime 2) := by
  refine ⟨fun n h => meets (asking n 0) rfl ?_, meets (asking 1 0x4003) rfl (by decide +kernel), meets (asking 1 0x4004) rfl (by decide +kernel),
    meets running rfl (by unfold Turned Barred State.admits; decide +kernel),
    meets { running with calls := [(0, { deadline := 5 })] } rfl (by unfold Served State.admits; decide +kernel),
    meets State.reset rfl (by decide +kernel), meets { running with calls := [(3, { deadline := 100 })], walltime := 100000 } rfl (by decide +kernel)⟩
  revert n
  decide +kernel

theorem wit_ScanEvents :
    Meets (fun u => (7 : Nat) < 8 ∧ (4 : Nat) < 5 ∧ u.pstate (pgSlc 4) = pRUN ∧ pgSlc 4 = 37) ∧
    Meets (fun u => u.memRetry.find? (fun r => r.req == .migration && r.blk == blockOf 0x107F) = some ⟨.migration, 32, [0], [], false⟩ ∧
      ({ u with memRetry := u.memRetry.erase ⟨.migration, 32, [0], [], false⟩ } : State).retryLive ⟨.migration, 32, [0], [], false⟩ = true ∧
      u.reqLive (blockOf 0x107F) .migration = true ∧ blockOf 0x107F * 128 < u.capBytes) :=
  ⟨meets running rfl (by decide +kernel),
   meets { (running.sf PG_DMA R.MIG_STATUS_BUSY 1).sf 14 R.MEM_CFG_CAP_GIB 16 with memRetry := [⟨.migration, 32, [0], [], false⟩] } rfl (by decide +kernel)⟩

/-- `running` with head 7 in the state `st`, its source `src`. -/
def headed (st src : Nat) : State := (running.sf (pgAve 7) R.AVE_STATUS_HEAD_STATE st).sf (pgAve 7) R.AVE_STATUS_SOURCE src

theorem wit_SyncEvents :
    Meets (fun u => u.headSt 7 = hLOCKING ∧ u.locked 7 = false ∧ u.source 7 ≠ 2 ∧ (u.head 7).enterAt + 2000000000 ≤ u.walltime) ∧
    Meets (fun u => (u.headSt 7 = hLOCKING ∨ u.headSt 7 = hRELOCK) ∧ u.source 7 = 2) ∧
    Meets (fun u => (u.sync 7 1).last = some 4 ∧ u.tf (pgAve 7) (presentFld 1) = true ∧ 4 + 3 * (u.sync 7 1).expect ≤ u.walltime) ∧
    Meets (fun u => u.headSt 7 ≠ hIDLE ∧ u.gf (pgAve 7) R.AVE_SYNC_SRC = 0 ∧
      (List.range (u.source 7)).find? (fun k => u.usableSrc 7 k && decide ((u.sync 7 k).since + 1000000000 ≤ u.walltime)) = some 0) :=
  ⟨meets { headed hLOCKING 0 with walltime := 2000000000 } rfl (by decide +kernel),
   meets (headed hRELOCK 2) rfl (by decide +kernel),
   meets { running.sf (pgAve 7) (presentFld 1) 1 with syncs := [(15, { last := some 4, expect := 10 })], walltime := 34 } rfl
     (by decide +kernel),
   meets { (headed hRUN 1).sf (pgAve 7) (presentFld 0) 1 with walltime := 1000000000 } rfl (by decide +kernel)⟩

theorem wit_BlockRequests :
    Meets (fun u => Served u .smp (pgAge 7) 0x6C (ageReleaseAct 7 0#32 1#32) ∧
      Served u .smp PG_PLAZA 0x4C (plzSubstAct 3) (State.plainWrite true PG_PLAZA 0x4C 3#32) ∧
      Served u .smp PG_ARCADE 0x40 (arcFlushAct 255) ∧
      Served u .smp PG_HAP 0xEC (hapPlayAct 3) (State.plainWrite true PG_HAP 0xEC 0x1F000000#32) ∧
      Turned u .smp PG_HAP 0xEC (hapPlayAct 3) BAD_ARG (State.plainWrite true PG_HAP 0xEC 0x17000000#32) ∧ Served u .smp PG_HAP 0xEC (hapStopAct 3) ∧
      Served u .smp PG_HAP 0xEC (hapClearAct 3) ∧ Served u .smp PG_AUD 0x1F4 (strStopAct 15)) ∧
    Meets (fun u => Turned u .smp 14 0x44 memFreqAct NO_RESOURCE (State.plainWrite true 14 0x44 0xB#32)) ∧
    Meets (fun u => Served u .smp 14 0x44 memFreqAct (State.plainWrite true 14 0x44 0x8#32)) ∧
    Meets (fun u => Turned u .smp PG_PLAZA 0x4C (plzSubstAct 5) BAD_ARG (State.plainWrite true PG_PLAZA 0x4C 5#32)) ∧
    Meets (fun u => Barred u .smp (pgAge 0) 0x6C WRONG_STATE PG_SYS) ∧
    Meets (fun u => u.portServed .bar0 = false) ∧ Meets (fun u => u.portServed .smp = true ∧ u.waitsD2d PG_HAP 0xEC = true) ∧
    Meets (fun u => u.admits .smp PG_PLAZA 0x4C ∧ (u.plainWrite true PG_PLAZA 0x4C 3#32).slcRole 3 = 0 ∧
      (u.plainWrite true PG_PLAZA 0x4C 3#32).tf PG_PLAZA R.PLZ_SUBST_PENDING = false ∧
      (u.plainWrite true PG_PLAZA 0x4C 3#32).spareSlice = some 4) ∧
    Meets (fun u => u.admits .smp 14 0x44 ∧ (u.plainWrite true 14 0x44 0xB#32).memBusy = false ∧
      (u.plainWrite true 14 0x44 0xB#32).tf 14 R.MEM_FREQ_BUSY = false ∧ (u.plainWrite true 14 0x44 0xB#32).freqHeld = false ∧
      (u.plainWrite true 14 0x44 0xB#32).gf 14 R.MEM_FREQ_TARGET ≠ (u.plainWrite true 14 0x44 0xB#32).gf 14 R.MEM_FREQ_CURRENT ∧
      bit ((u.plainWrite true 14 0x44 0xB#32).gf 14 R.MEM_FREQ_VALID) ((u.plainWrite true 14 0x44 0xB#32).gf 14 R.MEM_FREQ_TARGET) = true) ∧
    Meets (fun u => u.admits .smp PG_HAP 0xEC ∧ (u.plainWrite true PG_HAP 0xEC 0x1F000000#32).playCode 3 = none ∧
      (u.plainWrite true PG_HAP 0xEC 0x1F000000#32).trigCode 3 = none) ∧
    Meets (fun u => u.admits .smp PG_HAP 0xEC ∧ u.hapSt 3 = cFAULTED) :=
  ⟨meets running rfl (by unfold Served Turned State.admits; decide +kernel), meets running rfl (by unfold Turned State.admits; decide +kernel),
   meets running rfl (by unfold Served State.admits; decide +kernel), meets running rfl (by unfold Turned State.admits; decide +kernel),
   meets (running.sf (pgAge 0) R.PAGE_STATE_STATE pOFF) rfl (by unfold Barred; decide +kernel), meets State.reset rfl (by decide +kernel),
   meets retraining rfl (by decide +kernel), meets running rfl (by unfold State.admits; decide +kernel),
   meets (running.sf 14 R.MEM_FREQ_VALID 15) rfl (by unfold State.admits; decide +kernel),
   meets running rfl (by unfold State.admits; decide +kernel),
   meets (running.sf PG_HAP (R.HAP_CH_STATUS_STATE 3) cFAULTED) rfl (by unfold State.admits; decide +kernel)⟩

/-- `running` with the upstream port b's fields, port B UP, its address 5, and its head 7 a member of group 63. -/
def chained (f : State → State) : State :=
  f (((((((running.sf PG_CHN R.CHN_STATUS_UP_PORT 1).sf PG_CHN (pfld true R.CHN_PORT_STATUS_A_STATE) cUP).sf PG_CHN
    R.CHN_STATUS_ADDR_VALID 1).sf PG_CHN R.CHN_STATUS_ADDR 5).sf PG_CHN (R.CHN_HEAD_GROUP_MEMBER 7) 1).sf PG_CHN
    (R.CHN_HEAD_GROUP_GROUP 7) 63))

/-- The same with the unit master. -/
def mastered : State := chained fun s => s.sf PG_CHN R.CHN_STATUS_MASTER 1

/-- A good message with these bytes: its CRC follows. -/
def good (l : List Nat) : List Byte := l.map (BitVec.ofNat 8) ++ leBytes 4 (crc32 (l.map (BitVec.ofNat 8)))

/-- A good message of type `ty` and sequence number 9 with words 2 and 3 of its header, and its payload. -/
def note (ty dst src : Nat) (pay : List Nat := List.replicate 16 0) : List Byte :=
  good ([ty, 9, dst % 256, dst / 256, src % 256, src / 256, 0, 0] ++ pay)

/-- The payload of a wall message: group 63, the member (unit 5, head 7), tag 2, round 3. -/
def wallPayload : List Nat := [63, 0, 47, 0, 2, 0, 0, 0, 3, 0, 0, 0, 0, 0, 0, 0]

theorem wit_ChainPorts :
    Meets (fun u => u.portSt true = cTRAINING ∧ (u.port true).peerId.isSome = true ∧
      (((u.sf PG_CHN (pfld true R.CHN_PORT_STATUS_A_RX_INVERTED) 1).sf PG_CHN (pfld true R.CHN_DELAY_A_DELAY)
        (min 0x100000 0xFFFFF)).portGoesUp true).upPort ≠ some true) ∧
    Meets (fun u => u.portSt true = cTRAINING ∧ (u.port true).since + 1000000 ≤ u.walltime) ∧
    Meets (fun u => u.portSt true = cTRAINING ∧ u.walltime < (u.port true).since + 1000000) ∧
    Meets (fun u => (u.port true).retry = some 9 ∧ u.walltime < 9) ∧
    Meets (fun u => u.portSt true = cDOWN ∧ (u.port true).signal = true ∧ u.portEn true = true ∧ u.pstate PG_CHN = pRUN ∧
      u.portTested true = false ∧ (u.port true).retry.all (fun d => decide (d ≤ u.walltime)) = true) ∧
    Meets (fun u => u.portSt false = cFAULT ∧ (u.port false).since + 100000000 ≤ u.walltime) ∧
    Meets (fun u => u.portSt false ≠ cFAULT) ∧ Meets (fun u => u.portSt false = cFAULT ∧ u.walltime < (u.port false).since + 100000000) ∧
    Meets (fun u => Served u .smp PG_CHN 0x4C (retrainAct true)) ∧
    Meets (fun u => Barred u .smp PG_CHN 0x4C WRONG_STATE PG_SYS) ∧ Meets (fun u => u.portServed .bar0 = false) :=
  ⟨meets { running.sf PG_CHN (pfld true R.CHN_PORT_STATUS_A_STATE) cTRAINING with chPorts := [(1, { peerId := some 3 })] } rfl
     (by decide +kernel),
   meets { running.sf PG_CHN (pfld true R.CHN_PORT_STATUS_A_STATE) cTRAINING with walltime := 1000000 } rfl (by decide +kernel),
   meets { running.sf PG_CHN (pfld true R.CHN_PORT_STATUS_A_STATE) cTRAINING with walltime := 999999 } rfl (by decide +kernel),
   meets { running with chPorts := [(1, { retry := some 9 })] } rfl (by decide +kernel),
   meets { (running.sf PG_CHN (pfld true R.CHN_PORT_STATUS_A_STATE) cDOWN).sf PG_CHN R.CHN_PORT_CTRL_B_EN 1 with
     chPorts := [(1, { signal := true })] } rfl (by decide +kernel),
   meets { running.sf PG_CHN (pfld false R.CHN_PORT_STATUS_A_STATE) cFAULT with walltime := 100000000 } rfl (by decide +kernel),
   meets running rfl (by decide +kernel),
   meets (running.sf PG_CHN (pfld false R.CHN_PORT_STATUS_A_STATE) cFAULT) rfl (by decide +kernel),
   meets running rfl (by unfold Served State.admits; decide +kernel),
   meets (running.sf PG_CHN R.PAGE_STATE_STATE pOFF) rfl (by unfold Barred; decide +kernel), meets State.reset rfl (by decide +kernel)⟩

/-- A good message of type `ty` for address 5. -/
def anyNote (ty : Nat) : List Byte := note ty 5 0 (if 0x40 ≤ ty then [0, 0, 0, 0] else List.replicate 16 0)

theorem wit_ChainLinkRules :
    (∀ ty ∈ [0x01, 0x02, 0x08, 0x09, 0x0A, 0x0B, 0x0C, 0x10, 0x11, 0x12, 0x13, 0x14, 0x15, 0x16, 0x17, 0x18, 0x40, 0x41, 0x42, 0x43],
      (chainMessages 0 true (anyNote ty)).any (fun x => x.2 == ty) = true ∧ mType (anyNote ty) = ty ∧ msgGood (anyNote ty) = true ∧
      msgGood ((anyNote ty).set 9 1#8) = false ∧ mType ((anyNote ty).set 9 1#8) = ty) ∧
    Meets (fun u => u.portUp true = false) ∧ Meets (fun u => u.portUp true = true) ∧
    Meets (fun u => u.portUp true = true ∧ (u.port true).rxSeq = some (mSeq (anyNote 0x43))) ∧
    (mType (anyNote 0x30) = 0x30 ∧ msgGood (anyNote 0x30) = true ∧ mType (anyNote 0x31) = 0x31 ∧ msgGood (anyNote 0x31) = true) :=
  ⟨by decide +kernel, meets running rfl (by decide +kernel), meets mastered rfl (by decide +kernel),
   meets { mastered with chPorts := [(1, { rxSeq := some 9 })] } rfl (by decide +kernel), by decide +kernel⟩

/-- A TOPO message: topology `k`, 6 units, broken between `x` and `x + 1` where `x` is not 0. -/
def topoNote (k x : Nat) : List Byte := note 0x0B 0xFFFF 0 [k, 0, 6, 0, x, 0, if x = 0 then 0 else x + 1, 0, 0, 0, 0, 0, 0, 0, 0, 0]

theorem wit_ChainControl :
    (∀ ty ∈ [0x01, 0x02, 0x08, 0x09, 0x0A, 0x0B, 0x0C], Meets (fun u => u.hears true ty (anyNote ty) ∧
      (u.heard true (anyNote ty)).upPort = some true ∧ (u.heard true (anyNote ty)).destined (anyNote ty))) ∧
    Meets (fun u => u.hears true 0x0C (note 0x0C 6 0) ∧ ¬(u.heard true (note 0x0C 6 0)).destined (note 0x0C 6 0)) ∧
    Meets (fun u => u.hears true 0x09 (anyNote 9) ∧ (u.heard true (anyNote 9)).isMaster = true) ∧
    (∀ x ∈ [none, some false], Meets (fun u => u.hears true 0x09 (anyNote 9) ∧ (u.heard true (anyNote 9)).isMaster = false ∧
      (u.heard true (anyNote 9)).enumPort = x)) ∧
    (∀ m ∈ [topoNote 2 0, topoNote 1 0, topoNote 3 4], Meets (fun u => u.hears true 0x0B m ∧ (u.heard true m).upPort = some true)) ∧
    (mb (topoNote 2 0) 8 % 4 = 2 ∧ mb (topoNote 1 0) 8 % 4 ≠ 2 ∧ (mle (topoNote 1 0) 12 2, mle (topoNote 1 0) 14 2) = (0, 0) ∧
      mb (topoNote 3 4) 8 % 4 ≠ 2 ∧ (mle (topoNote 3 4) 12 2, mle (topoNote 3 4) 14 2) ≠ (0, 0)) ∧
    Meets (fun u => ((u.heard true (anyNote 2)).forward true (anyNote 2)).mayStep = false) ∧
    Meets (fun u => u.hears true 2 (anyNote 2) ∧ (u.heard true (anyNote 2)).upPort = some true ∧
      ((u.heard true (anyNote 2)).forward true (anyNote 2)).mayStep = true) := by
  refine ⟨fun ty h => meets (chained id) rfl ?_, meets (chained id) rfl (by unfold State.hears State.destined; decide +kernel),
    meets mastered rfl (by unfold State.hears; decide +kernel),
    fun x h => meets { chained (fun s => s.sf PG_CHN R.CHN_STATUS_MASTER 0) with enumPort := x } rfl ?_,
    fun m h => meets (chained id) rfl ?_, by decide +kernel, meets (chained id) rfl (by decide +kernel),
    meets (chained fun s => s.sf PG_SYS R.SYS_STATE_MODE CONFIGURE) rfl (by unfold State.hears; decide +kernel)⟩ <;>
  unfold State.hears <;> (try unfold State.destined) <;> first | (revert ty; decide +kernel) | (revert x; decide +kernel) | (revert m; decide +kernel)

/-- The wall message of type `ty` that the tests use. -/
def wallNote (ty : Nat) : List Byte := note ty 5 0 wallPayload

theorem wit_WallMessages :
    (∀ ty ∈ [0x10, 0x15, 0x16, 0x18], Meets (fun u => u.hears true ty (wallNote ty) ∧
      (u.heard true (wallNote ty)).destined (wallNote ty) ∧ (u.heard true (wallNote ty)).isMaster = true)) ∧
    (∀ ty ∈ [0x11, 0x12], Meets (fun u => u.hears true ty (wallNote ty) ∧ (u.heard true (wallNote ty)).upPort = some true)) ∧
    (∀ ty ∈ [0x13, 0x14, 0x17], Meets (fun u => u.hears true ty (wallNote ty) ∧ (u.heard true (wallNote ty)).destined (wallNote ty) ∧
      (u.heard true (wallNote ty)).namesHead (wallNote ty) ∧
      ((u.heard true (wallNote ty)).wallOf (wMember (wallNote ty) % 8)).ready ≠ some (wGroup (wallNote ty), wTag (wallNote ty)))) ∧
    Meets (fun u => u.hears true 0x17 (wallNote 0x17) ∧ (u.heard true (wallNote 0x17)).destined (wallNote 0x17) ∧
      (u.heard true (wallNote 0x17)).namesHead (wallNote 0x17) ∧
      ((u.heard true (wallNote 0x17)).wallOf (wMember (wallNote 0x17) % 8)).ready = some (63, 2)) := by
  refine ⟨fun ty h => meets mastered rfl ?_, fun ty h => meets mastered rfl ?_, fun ty h => meets mastered rfl ?_,
    meets { mastered with hw := [(7, { ready := some (63, 2) })] } rfl
      (by unfold State.hears State.destined State.namesHead; decide +kernel)⟩ <;>
  unfold State.hears <;> (try unfold State.destined) <;> (try unfold State.namesHead) <;> revert ty <;> decide +kernel

theorem wit_Management :
    (∀ ty ∈ [0x40, 0x41, 0x42, 0x43], Meets (fun u => u.hears true ty (anyNote ty) ∧ (u.heard true (anyNote ty)).destined (anyNote ty) ∧
      (u.heard true (anyNote ty)).mbOf (mb (anyNote ty) 6) (mTop (anyNote ty)) = false)) ∧
    Meets (fun u => u.hears true 0x41 (note 0x41 0x8005 1 [0, 0, 0, 0]) ∧
      (u.heard true (note 0x41 0x8005 1 [0, 0, 0, 0])).destined (note 0x41 0x8005 1 [0, 0, 0, 0]) ∧
      mTop (note 0x41 0x8005 1 [0, 0, 0, 0]) = true ∧ mSrc (note 0x41 0x8005 1 [0, 0, 0, 0]) ≠ 0) ∧
    (∀ ty ∈ [0x42, 0x43], Meets (fun u => u.hears true ty (anyNote ty) ∧ (u.heard true (anyNote ty)).destined (anyNote ty) ∧
      (u.heard true (anyNote ty)).mbOf (mb (anyNote ty) 6) (mTop (anyNote ty)) = true)) ∧
    Meets (fun u => Served u .bar0 PG_CHN 0x100 (mbGoAct false) (State.plainWrite false PG_CHN 0x100 0x80100005#32) ∧
      Served u .smp PG_CHN 0x180 (mbGoAct true) (State.plainWrite true PG_CHN 0x180 0x80010005#32) ∧
      Turned u .smp PG_CHN 0x180 (mbGoAct true) BAD_ARG (State.plainWrite true PG_CHN 0x180 0x80110005#32) ∧
      Barred u .bar0 PG_CHN 0x180 SECURE_DENIED PG_CHN) ∧
    Meets (fun u => u.portServed .bar0 = false) ∧
    Meets (fun u => u.mbReq.find? (fun p => p.1 == 1) = some (1, 7, 5) ∧ 5 + 10000000 ≤ u.walltime) := by
  refine ⟨fun ty h => meets mastered rfl ?_, meets mastered rfl (by unfold State.hears State.destined; decide +kernel),
    fun ty h => meets { mastered with mbReq := [(0, 0, 0)] } rfl ?_,
    meets (chained fun s => (s.wr (pageBase PG_CHN + 0x104) 0x100000#32).wr (pageBase PG_CHN + 0x184) 0x1FFFFC#32) rfl
      (by unfold Served Turned Barred State.admits; decide +kernel), meets State.reset rfl (by decide +kernel),
    meets { running with mbReq := [(1, 7, 5)], walltime := 10000005 } rfl (by decide +kernel)⟩ <;>
  unfold State.hears State.destined <;> revert ty <;> decide +kernel

theorem wit_ChainTimers :
    Meets (fun u => u.portUp true = true ∧ (u.portRole true = 1 ∨ u.portRole true = 3)) ∧
    Meets (fun u => u.portSt true = cTRAINING) ∧ Meets (fun u => u.portSt true = cHELD) ∧
    Meets (fun u => u.isMaster = true ∧ ∀ d, u.walkAt = some d → d + 100000000 ≤ u.walltime) ∧
    (∀ r, Meets (fun u => u.isMaster = true ∧ u.walkDue = true ∧ u.walkRing = r)) ∧ Meets (fun u => u.isMaster = false) ∧
    Meets (fun u => u.markNext = some 3 ∧ u.markNs 3 ≤ u.walltime + 250000) ∧
    Meets (fun u => u.marks = [⟨4, 100, false⟩] ∧ 100 ≤ u.walltime) ∧
    Meets (fun u => (63 : Nat) < 64 ∧ u.isMaster = true ∧ u.g64 PG_CHN R.CHN_MARK_SEQ_LO_SEQ R.CHN_MARK_SEQ_HI_SEQ = 0 ∧
      0 < u.g64 PG_CHN R.CHN_MARK_TIME_LO_TIME R.CHN_MARK_TIME_HI_TIME ∧
      u.g64 PG_CHN R.CHN_MARK_TIME_LO_TIME R.CHN_MARK_TIME_HI_TIME + u.gf PG_CHN R.CHN_WALL_CFG_VOTE_US * 1000 ≤ u.walltime ∧
      (u.group 63).voted ≠ some 0) ∧
    Meets (fun u => (u.wallOf 7).ready = some (63, 2) ∧ u.hasPath = false) ∧
    Meets (fun u => u.stepAt = some (8, 100) ∧ 8 ≤ u.walltime ∧ u.mayStep = true) ∧
    Meets (fun u => u.tf PG_TIME R.TIME_MARK_OUT_EN = true ∧ u.markOutNext < u.walltime / 1000000000 * 1000000000) ∧
    Meets (fun u => Served u .smp PG_TIME 0x5C timeSetAct) ∧
    Meets (fun u => Turned u .smp PG_TIME 0x5C timeSetAct WRONG_STATE ∧
      Turned u .smp PG_CHN 0xA0 (readmitAct 1#32) WRONG_STATE (State.plainWrite true PG_CHN 0xA0 1#32)) ∧
    Meets (fun u => Served u .smp PG_CHN 0xA0 (readmitAct 0x3F002F#32) (State.plainWrite true PG_CHN 0xA0 0x3F002F#32)) ∧
    Meets (fun u => u.isMaster = true ∧ u.tf PG_TIME R.TIME_PPS_CTRL_EN = true ∧ u.mayStep = false) ∧
    Meets (fun u => u.ppsLast = some 1 ∧ u.isMaster = true ∧ u.tf PG_TIME R.TIME_PPS_CTRL_EN = true ∧ 1 + 3000000000 ≤ u.walltime) :=
  ⟨meets (chained fun s => s.sf PG_CHN (pfld true R.CHN_PORT_STATUS_A_ROLE) 3) rfl (by decide +kernel),
   meets (running.sf PG_CHN (pfld true R.CHN_PORT_STATUS_A_STATE) cTRAINING) rfl (by decide +kernel),
   meets (running.sf PG_CHN (pfld true R.CHN_PORT_STATUS_A_STATE) cHELD) rfl (by decide +kernel),
   meets { mastered with walkAt := some 7, walltime := 100000007 } rfl ⟨by decide +kernel, by rintro d ⟨⟩; decide +kernel⟩,
   fun r => meets { mastered with walkDue := true, walkRing := r } rfl (by cases r <;> decide +kernel),
   meets (running.sf PG_CHN R.CHN_STATUS_MASTER 0) rfl (by decide +kernel),
   meets { running with markNext := some 3, walltime := 1000000000 } rfl (by decide +kernel),
   meets { running with marks := [⟨4, 100, false⟩], walltime := 100 } rfl (by decide +kernel),
   meets { mastered.sf PG_CHN R.CHN_MARK_TIME_LO_TIME 1 with walltime := 1000000000 } rfl (by decide +kernel),
   meets { (running.sf PG_CHN R.CHN_STATUS_UP_PORT 3).sf PG_CHN R.CHN_STATUS_MASTER 0 with hw := [(7, { ready := some (63, 2) })] } rfl (by decide +kernel),
   meets { inMode CONFIGURE with stepAt := some (8, 100), walltime := 8 } rfl (by decide +kernel),
   meets { running.sf PG_TIME R.TIME_MARK_OUT_EN 1 with walltime := 1000000000 } rfl (by decide +kernel),
   meets (mastered.sf PG_SYS R.SYS_STATE_MODE CONFIGURE) rfl (by unfold Served State.admits; decide +kernel),
   meets running rfl (by unfold Turned State.admits; decide +kernel),
   meets (mastered.setMember 63 47 fun x => { x with excluded := true }) rfl (by unfold Served State.admits; decide +kernel),
   meets (mastered.sf PG_TIME R.TIME_PPS_CTRL_EN 1) rfl (by decide +kernel),
   meets { mastered.sf PG_TIME R.TIME_PPS_CTRL_EN 1 with ppsLast := some 1, walltime := 3000000001 } rfl (by decide +kernel)⟩

/-- `running` with the link of head 7 in the state `st`, its page in RUN. -/
def linked (st : Nat) : State := running.sf (pgDpl 7) R.DPL_STATUS_LINK_STATE st

theorem wit_DpLink :
    Meets (fun u => u.hpdWatched 7 = true ∧ u.linkSt 7 ≠ lNO_SINK ∧ u.gf (pgDpl 7) R.DPL_STATUS_HPD_STUCK ≠ 1) ∧
    Meets (fun u => u.hpdWatched 7 = true ∧ u.linkSt 7 = lTRAINING) ∧
    Meets (fun u => u.hpdWatched 7 = true ∧ u.linkSt 7 = lUP ∧ u.tf (pgDpl 7) R.DPL_STATUS_AUX_FAULT = false) ∧
    Meets (fun u => u.linkSt 7 = lREAD_CAPS) ∧
    Meets (fun u => u.linkSt 7 = lFAILED ∧ (u.dp 7).failAt + 1000000000 ≤ u.walltime ∧
      u.gf (pgDpl 7) R.DPL_STATUS_FAIL_REASON ≠ NO_RESOURCE ∧ u.gf (pgDpl 7) R.DPL_STATUS_HPD_STUCK ≠ 2) ∧
    Meets (fun u => Served u .smp (pgDpl 7) 0x40 (dplRetrainAct 7)) ∧
    Meets (fun u => Barred u .smp (pgDpl 7) 0x40 WRONG_STATE PG_SYS) ∧
    Meets (fun u => u.portServed .bar0 = false) :=
  ⟨meets (linked lUP) rfl (by decide +kernel), meets (linked lTRAINING) rfl (by decide +kernel),
   meets (linked lUP) rfl (by decide +kernel), meets (linked lREAD_CAPS) rfl (by decide +kernel),
   meets { linked lFAILED with walltime := 1000000000 } rfl (by decide +kernel),
   meets running rfl (by unfold Served State.admits; decide +kernel),
   meets (running.sf (pgDpl 7) R.PAGE_STATE_STATE pOFF) rfl (by unfold Barred; decide +kernel), meets State.reset rfl (by decide +kernel)⟩

theorem wit_DpAux :
    Meets (fun u => Served u .bar0 (pgDpl 7) 0x60 (auxAct false 7 0x80500060#32)) ∧
    Meets (fun u => u.portServed .bar0 = true ∧ u.writeCode (portSecure .bar0) (pgDpl 7) 0x60 15 = some (SECURE_DENIED, pgDpl 7)) ∧
    Meets (fun u => u.tf (pgDpl 7) R.DPL_STATUS_AUX_FAULT = false) ∧ Meets (fun u => u.tf (pgDpl 7) R.DPL_STATUS_AUX_FAULT = true) ∧
    Meets (fun u => u.pstate (pgDpl 7) ≠ pOFF ∧ (3 : Nat) < 4 ∧ bit (u.gf (pgDpl 7) R.DPL_STATUS_LANE_SHORT) 3 = false) ∧
    Meets (fun u => bit (u.gf (pgDpl 7) R.DPL_STATUS_LANE_SHORT) 3 = true ∧ u.linkSt 7 ≠ lFAILED) :=
  ⟨meets (linked lUP) rfl (by unfold Served State.admits; decide +kernel),
   meets (running.sf (pgDpl 7) R.OWNER_WORLD 1) rfl (by decide +kernel),
   meets running rfl (by decide +kernel), meets (running.sf (pgDpl 7) R.DPL_STATUS_AUX_FAULT 1) rfl (by decide +kernel),
   meets running rfl (by decide +kernel), meets ((linked lUP).sf (pgDpl 7) R.DPL_STATUS_LANE_SHORT 8) rfl (by decide +kernel)⟩

/-- `running` with the PCIe link up and the function a bus master. -/
def pcie : State := (running.sf PG_PCI R.PCI_LINK_UP 1).wr (cfgKey 4) 4#32

theorem wit_PcieEvents :
    Meets (fun u => u.linkUp = true ∧ u.mode ≠ ENUMERATE) ∧ Meets (fun u => u.perstLow = false ∧ u.linkUp = true) ∧
    Meets (fun u => u.perstLow = false ∧ u.linkUp = false) ∧ Meets (fun u => u.perstLow = true) ∧
    Meets (fun u => u.linkUp = true ∧ u.mode = ENUMERATE) :=
  ⟨meets pcie rfl (by decide +kernel), meets { pcie with perstLow := false } rfl (by decide +kernel),
   meets { running with perstLow := false } rfl (by decide +kernel), meets { running with perstLow := true } rfl (by decide +kernel),
   meets (State.reset.sf PG_PCI R.PCI_LINK_UP 1) rfl (by decide +kernel)⟩

/-- `running` with instance 255 in the state `st`: its ring 3 has 256 slots, its grant is 4 MiB at address 0. -/
def tenant (st : Nat) : State :=
  { ((pcie.wr (entKey 255 0) (BitVec.ofNat 32 st)).wr (entKey 255 54) 0x100#32).wr (entKey 255 2) 0x20000#32 with insts := [(255, {})] }

theorem wit_GuestWindows :
    Meets (fun u => u.mode ≠ ENUMERATE ∧ u.mode ≠ FALLBACK ∧ u.instState 255 = iACTIVE ∧ bits 255#32 0 14 < u.subSlots (4 * 255 + 3) ∧
      u.subEn (4 * 255 + 3) = true) ∧
    Meets (fun u => u.mode ≠ ENUMERATE ∧ u.mode ≠ FALLBACK ∧ u.instState 255 = iACTIVE ∧
      u.subSlots (4 * 255 + 3) ≤ bits 256#32 0 14) ∧
    Meets (fun u => u.mode ≠ ENUMERATE ∧ bits 3#32 0 15 < u.ent 255 2 16 15 * 2 ∧ u.ent 255 2 16 15 * 2 ≤ bits 4#32 0 15) ∧
    Meets (fun u => u.mode ≠ ENUMERATE ∧ 1048572 + 4 ≤ 1048576 ∧ u.instState 255 ≠ iACTIVE) ∧
    Meets (fun u => u.mode ≠ ENUMERATE ∧ 1048572 + 4 ≤ 1048576 ∧ u.instState 255 = iACTIVE ∧
      u.apertureAt 255 1048572 + 4 ≤ (u.ent 255 2 0 14 + u.ent 255 2 16 15) * 2097152) :=
  ⟨meets (tenant iACTIVE) rfl (by decide +kernel), meets (tenant iACTIVE) rfl (by decide +kernel),
   meets (tenant iACTIVE) rfl (by decide +kernel), meets (tenant iSETUP) rfl (by decide +kernel),
   meets (tenant iACTIVE) rfl (by decide +kernel)⟩

/-- Instance 255 in SETUP with an entry that ACTIVATE accepts: class 1, share 1, no grant. -/
def readied : State := ((tenant iSETUP).wr (entKey 255 0) 0x10101#32).wr (entKey 255 2) 0#32

/-- The word of INST_CMD for the operation `op` on instance 255, as it is stored. -/
def instWord (op : Nat) : State → State := State.plainWrite true PG_INST 0x40 (BitVec.ofNat 32 (255 + op * 256))

theorem wit_InstRequests :
    Meets (fun u => Served u .smp PG_INST 0x40 instCmdAct (instWord 0) ∧ Turned u .smp PG_INST 0x40 instCmdAct WRONG_STATE (instWord 1)) ∧
    (∀ op ∈ [1, 3, 7], Meets (fun u => Served u .smp PG_INST 0x40 instCmdAct (instWord op))) ∧
    (∀ op ∈ [2, 4], Meets (fun u => Served u .smp PG_INST 0x40 instCmdAct (instWord op))) ∧
    (∀ op ∈ [5, 6], Meets (fun u => Served u .smp PG_INST 0x40 instCmdAct (instWord op))) ∧
    Meets (fun u => Turned u .smp PG_INST 0x40 instCmdAct BAD_ARG (instWord 1)) ∧
    (∀ op ∈ [0, 1, 2], Meets (fun u => Served u .smp PG_DMA 0x64 migAct
      (State.plainWrite true PG_DMA 0x64 (BitVec.ofNat 32 (op + 255 * 256))))) ∧
    Meets (fun u => Turned u .smp PG_DMA 0x64 migAct WRONG_STATE (State.plainWrite true PG_DMA 0x64 (BitVec.ofNat 32 (2 + 255 * 256)))) ∧
    Meets (fun u => Served u .smp PG_INST 0x58 (c0ResAct 0#32) ∧ Turned u .smp PG_INST 0x58 (c0ResAct 0x3FFFF#32) NO_RESOURCE) ∧
    Meets (fun u => u.portServed .bar0 = true ∧ (255 : Nat) < 256 ∧ (62 : Nat) < 64 ∧ u.entryCode .bar0 255 62 7#32 = none) ∧
    Meets (fun u => u.portServed .smp = true ∧ u.entryCode .smp 255 62 7#32 = some NO_RIGHT ∧ Barred u .smp PG_INST 0x200 BAD_ARG PG_SYS) := by
  refine ⟨meets running rfl (by unfold Served Turned State.admits; decide +kernel), fun op h => meets readied rfl ?_,
    fun op h => meets (tenant iACTIVE) rfl ?_, fun op h => meets (tenant iSUSPENDED) rfl ?_,
    meets (tenant iSETUP) rfl (by unfold Turned State.admits; decide +kernel), fun op h => meets (tenant iACTIVE) rfl ?_,
    meets running rfl (by unfold Turned State.admits; decide +kernel),
    meets running rfl (by unfold Served Turned State.admits; decide +kernel), meets (tenant iSETUP) rfl (by decide +kernel),
    meets (tenant iSETUP) rfl (by unfold Barred; decide +kernel)⟩ <;>
  unfold Served State.admits <;> revert op <;> decide +kernel

/-- The context of instance 255 of `readied`, with nothing in it, and 16,384 bytes that carry it: the version, the length and the CRC. -/
def context : Context where
  entry := (List.range 64).map fun w => readied.rd (entKey 255 w)
  rings := []
  evt := (0, 0)
  fences := []
  waits := []
  planes := []
  sdt := []

def contextBytes : List Byte :=
  let body := leBytes 4 0xB0 ++ leBytes 4 16384 ++ List.replicate 16372 0#8
  body ++ leBytes 4 (crc32 body)

/-- `readied`, with the import of instance 255 begun. -/
def importing : State := readied.setInst 255 fun x => { x with importing := true }

theorem test_contextBytes : importing.ctxBad 255 contextBytes context = false := by
  have hn : 16384 + 64 * bits (nthW context.entry 4) 16 13 = 16384 := by decide +kernel
  have hl : (leBytes 4 0xB0 ++ leBytes 4 16384 ++ List.replicate 16372 0#8).length = 16380 := by
    simp only [List.length_append, List.length_replicate]
    rfl
  have he : (([2, 4] ++ (List.range 28).map (· + 8)).any fun w => nthW context.entry w != importing.rd (entKey 255 w)) = false := by
    decide +kernel
  have ht : contextBytes.take 16380 = leBytes 4 0xB0 ++ leBytes 4 16384 ++ List.replicate 16372 0#8 := List.take_left' hl
  have hd : contextBytes.drop 16380 = leBytes 4 (crc32 (leBytes 4 0xB0 ++ leBytes 4 16384 ++ List.replicate 16372 0#8)) :=
    List.drop_left' hl
  have hc : contextBytes.length = 16384 := by
    rw [← List.take_append_drop 16380 contextBytes, ht, hd, List.length_append, hl]
    rfl
  have h0 : ofLe (contextBytes.take 4) = 0xB0 := rfl
  have h1 : ofLe ((contextBytes.drop 4).take 4) = 16384 := rfl
  simp only [State.ctxBad, hn, he, ht, hd, hc, h0, h1, ofLe_crc32, bne_self_eq_false, Bool.or_self]

/-- A copy of the instance 255's page 4 GiB up into the host's memory, `moved` of its 4,096 bytes already moved. -/
def copying (moved : Nat) : State :=
  { (pcie.sf PG_DMA R.MIG_STATUS_BUSY 1).sf 14 R.MEM_CFG_CAP_GIB 8 with mig := { inst := 255, dram := 4294967296, len := 4096, moved } }

theorem wit_InstEvents :
    Meets (fun u => u.instState 255 = iRESETTING ∧ u.resetOver 255 = true) ∧
    Meets (fun u => u.instState 255 = iRESETTING ∧ u.resetOver 255 = false) ∧
    Meets (fun u => u.instState 255 = iACTIVE ∧ (u.inst 255).suspending = true ∧ ∀ x ∈ u.cmds, qInst x.2.q ≠ some 255) ∧
    Meets (fun u => (u.inst 255).exporting = true ∧ u.linkUp = true ∧ u.busMaster = true) ∧
    Meets (fun u => (u.inst 255).exporting = true ∧ u.linkUp = false) ∧ Meets (fun u => (u.inst 255).importing = true ∧ u.linkUp = false) ∧
    Meets (fun u => (u.inst 255).importing = true ∧ u.linkUp = true ∧ u.busMaster = true ∧ u.ctxBad 255 [] context = true) ∧
    Meets (fun u => (u.inst 255).importing = true ∧ u.linkUp = true ∧ u.busMaster = true ∧ u.ctxBad 255 contextBytes context = false ∧
      u.instState 255 = iSETUP ∧ refusal (u.activateChecks 255) = none) ∧
    Meets (fun u => u.tf PG_DMA R.MIG_STATUS_BUSY = false) ∧
    Meets (fun u => u.tf PG_DMA R.MIG_STATUS_BUSY = true ∧ u.mig.len ≤ u.mig.moved ∧ (u.wwait.any fun w => w.by_.mig) = false) ∧
    Meets (fun u => u.tf PG_DMA R.MIG_STATUS_BUSY = true ∧ u.mig.moved < u.mig.len ∧ u.linkUp = false) :=
  ⟨meets (tenant iRESETTING) rfl (by decide +kernel),
   meets { tenant iRESETTING with cmds := [(1, { q := 1020 })] } rfl (by decide +kernel),
   meets ((tenant iACTIVE).setInst 255 fun x => { x with suspending := true }) rfl (by decide +kernel),
   meets ((tenant iSUSPENDED).setInst 255 fun x => { x with exporting := true }) rfl (by decide +kernel),
   meets (running.setInst 255 fun x => { x with exporting := true }) rfl (by decide +kernel),
   meets (running.setInst 255 fun x => { x with importing := true }) rfl (by decide +kernel),
   meets importing rfl (by decide +kernel),
   meets importing rfl
     ⟨by decide +kernel, by decide +kernel, by decide +kernel, test_contextBytes, by decide +kernel, by decide +kernel⟩,
   meets running rfl (by decide +kernel), meets (copying 4096) rfl (by decide +kernel),
   meets ((copying 4095).sf PG_PCI R.PCI_LINK_UP 0) rfl (by decide +kernel)⟩

theorem wit_SecureRequests :
    Meets (fun u => Served u .smp PG_SEC 0x70 hoAct (State.plainWrite true PG_SEC 0x70 0x80010000#32) ∧
      Turned u .smp PG_SEC 0x70 hoAct BAD_ARG (State.plainWrite true PG_SEC 0x70 0xFFFF#32) ∧
      Served u .smp PG_SEC 0xB8 (subCtrlAct 1 6#32) ∧ Turned u .smp PG_SEC 0xB8 (subCtrlAct 1 7#32) BAD_ARG ∧
      Turned u .smp PG_SEC 0xBC (subTailAct 1 0#32) BAD_ARG ∧
      Served u .smp PG_SEC 0x50 (svcCtrlAct 8#32) ∧ Turned u .smp PG_SEC 0x50 (svcCtrlAct 10#32) BAD_ARG ∧
      Turned u .smp PG_WMARK 0x40 (wmDramAct 0#32) WRONG_STATE ∧ Served u .smp PG_PERF 0x40 perfClearAct) ∧
    Meets (fun u => Served u .smp PG_SEC 0xBC (subTailAct 1 255#32) ∧ Turned u .smp PG_SEC 0xBC (subTailAct 1 256#32) BAD_ARG) ∧
    Meets (fun u => Served u .smp PG_WMARK 0x40 (wmDramAct 16384#32) ∧ Turned u .smp PG_WMARK 0x40 (wmDramAct 16385#32) BAD_ARG ∧
      Served u .smp PG_WMARK 0x44 (wmSdtAct 4096#32) ∧ Turned u .smp PG_WMARK 0x44 (wmSdtAct 4097#32) BAD_ARG ∧
      Served u .smp PG_WMARK 0x48 (wmSramAct 96#32) ∧ Turned u .smp PG_WMARK 0x48 (wmSramAct 97#32) BAD_ARG) ∧
    Meets (fun u => Barred u .bar0 PG_WMARK 0x40 SECURE_DENIED PG_WMARK) ∧
    Meets (fun u => u.portServed .bar0 = false) ∧
    Meets (fun u => u.admits .smp PG_SEC 0x70 ∧ (u.plainWrite true PG_SEC 0x70 0x80010007#32).gf PG_SEC R.SEC_HO_CMD_BLOCK_ID = 7 ∧
      blkOk 7 = true ∧ (u.plainWrite true PG_SEC 0x70 0x80010007#32).blkBusy 7 = false ∧
      fhas (u.plainWrite true PG_SEC 0x70 0x80010007#32).handovers 7 = false ∧
      (u.plainWrite true PG_SEC 0x70 0x80010007#32).blkSecure 7 = !(u.plainWrite true PG_SEC 0x70 0x80010007#32).tf PG_SEC R.SEC_HO_CMD_TO_WORLD ∧
      (u.plainWrite true PG_SEC 0x70 0x80010007#32).tf PG_SEC R.SEC_HO_CMD_FORCE = false ∧
      (u.plainWrite true PG_SEC 0x70 0x80010007#32).tf PG_SEC R.SEC_HO_CMD_TO_WORLD = true ∧
      (u.plainWrite true PG_SEC 0x70 0x80010007#32).blkGrants 7 = []) ∧
    Meets (fun u => u.admits .smp PG_SEC 0xB8 ∧ u.g64 PG_SEC (R.SEC_SUB_BASE_LO_BASE 1) (R.SEC_SUB_BASE_HI_BASE 1) = 0x1000 ∧
      bits (14#32 : Word) 0 3 ≠ 7 ∧ 0x1000 + 4096 * 2 ^ bits (14#32 : Word) 0 3 ≤ u.wmDram) ∧
    Meets (fun u => u.admits .smp PG_SEC 0xBC ∧ bits (255#32 : Word) 0 14 < u.subSlots 1025 ∧ u.subEn 1025 = true) ∧
    Meets (fun u => u.admits .smp PG_SEC 0x50 ∧ u.svcBase % 4096 = 0 ∧ u.argArea 0 % 4096 = 0 ∧
      u.svcBase + 4096 * 2 ^ bits (9#32 : Word) 1 3 ≤ u.wmDram ∧ u.argArea 0 + 262144 * 2 ^ bits (9#32 : Word) 1 3 ≤ u.wmDram) ∧
    Meets (fun u => u.tf PG_WMARK R.LOCK_LOCKED = false ∧ u.mode = CONFIGURE ∧ u.admits .smp PG_WMARK 0x40 ∧ u.admits .smp PG_WMARK 0x44 ∧
      u.admits .smp PG_WMARK 0x48 ∧ 5 ≤ u.wmDramMax ∧ u.belowDram (5 * 2097152) = false ∧
      u.aboveDram (5 * 2097152) = false ∧ u.openInsts = [] ∧ u.sdt = []) :=
  ⟨meets running rfl (by unfold Served Turned State.admits; decide +kernel),
   meets (running.sf PG_SEC (R.SEC_SUB_CTRL_EN 1) 1) rfl (by unfold Served Turned State.admits; decide +kernel),
   meets (inMode CONFIGURE) rfl (by unfold Served Turned State.admits; decide +kernel),
   meets running rfl (by unfold Barred; decide +kernel), meets State.reset rfl (by decide +kernel),
   meets running rfl (by unfold State.admits; decide +kernel),
   meets ((running.sf PG_WMARK R.WM_DRAM_LEVEL 8).sf PG_SEC (R.SEC_SUB_BASE_LO_BASE 1) 0x1000) rfl (by unfold State.admits; decide +kernel),
   meets (running.sf PG_SEC (R.SEC_SUB_CTRL_EN 1) 1) rfl (by unfold State.admits; decide +kernel),
   meets (running.sf PG_WMARK R.WM_DRAM_LEVEL 8) rfl (by unfold State.admits; decide +kernel),
   meets (inMode CONFIGURE) rfl (by unfold State.admits; decide +kernel)⟩

theorem wit_HandoverEvents :
    Meets (fun u => fhas u.handovers 0x1007 = false) ∧
    (∀ b ∈ [0x1007, 0x2003, 0x300F], Meets (fun u => fhas u.handovers b = true ∧ (fget ({} : Handover) u.handovers b).scrubbing = false ∧
      blkKind b ≠ 0 ∧ u.hapSt (blkIdx b) ≠ cBRAKE)) ∧
    Meets (fun u => blkKind 0x0007 = 0 ∧ u.headSt (blkIdx 0x0007) = hIDLE) := by
  refine ⟨meets running rfl (by decide +kernel),
    fun b h => meets { running with handovers := [(0x1007, {}), (0x2003, {}), (0x300F, {})] } rfl ?_,
    meets running rfl (by decide +kernel)⟩
  revert b
  decide +kernel

theorem dbg_killed (u : State) (h : Config.fuseDebugKill = true) : u.dbgEffective = 0 := by simp [State.dbgEffective, h]

theorem dbg_all (u : State) (h : Config.fuseDebugKill = false) (r : u.rd (regKey PG_DEBUG 0x40) = 15#32) : u.dbgEffective = 15 := by
  simp [State.dbgEffective, h, r, bit]

/-- A unit has no debug right once the kill fuse is blown, and every right that DBG_ENABLE grants before. -/
theorem wit_DebugPort :
    (Config.fuseDebugKill = true → Meets (fun u => u.tapReset = true ∧ bit u.dbgEffective 3 = false ∧ bit u.dbgEffective 2 = false ∧
      0x100000 ≤ 0x1FFFFC ∧ 0x1FFFFC < 0x200000 ∧ 0x200000 ≤ 0x200000)) ∧
    (Config.fuseDebugKill = false → Meets (fun u => u.tapReset = true ∧ bit u.dbgEffective 0 = true ∧ bit u.dbgEffective 2 = true ∧
      u.inSecureList 8 = true ∧ u.wordWaits 0x100000 = false ∧ u.wordWaits 0x1FFFFC = false)) ∧
    (Config.fuseDebugKill = false → Meets (fun u => u.tapReset = true ∧ bit u.dbgEffective 0 = true ∧ bit u.dbgEffective 2 = true ∧
      u.wordWaits 0x164FFC = true)) := by
  refine ⟨fun h => meets { running with tapReset := true } rfl ?_, fun h => meets { running.wr (regKey PG_DEBUG 0x40) 15#32 with
    tapReset := true, lists := [(1024, { st := .running, cnd := 8 })] } rfl ?_, fun h => meets { retraining.wr (regKey PG_DEBUG 0x40) 15#32 with
    tapReset := true } rfl ?_⟩
  · rw [dbg_killed _ h]
    decide +kernel
  · rw [dbg_all _ h (by decide +kernel)]
    decide +kernel
  · rw [dbg_all _ h (by decide +kernel)]
    decide +kernel

/-- `running` with 8 GiB of DRAM. -/
def ram : State := running.sf 14 R.MEM_CFG_CAP_GIB 8

theorem wit_MemoryEvents :
    Meets (fun u => u.memUp 1 = true ∧ u.wbOcc 1 ≠ 0 ∧ u.tf (pgMem 1) R.MEM_STATUS_DRAINING = false) ∧
    Meets (fun u => u.memUp 1 = true ∧ groupOf 3 = 1 ∧ fhas u.wbuf 3 = true ∧ u.drains 1 = true ∧ (u.writeBlock 3 [] []).wbOcc 1 ≠ 0) ∧
    Meets (fun u => u.memUp 1 = true ∧ groupOf 2 ≠ 1) ∧ Meets (fun u => u.memUp 1 = true ∧ fhas u.wbuf 3 = false) ∧
    Meets (fun u => u.memUp 1 = true ∧ u.drains 1 = false) ∧
    Meets (fun u => u.memUp 1 = true ∧ (u.mgrp 1).owed = [] ∧ (u.mgrp 1).pulled.length < 8 ∧ (u.mgrp 1).stepRuns = false ∧ (u.mgrp 1).stepDue = false ∧
      u.stepNow 1 = true ∧ u.refreshMay 1 = true) ∧ Meets (fun u => u.memUp 1 = true ∧ u.stepNow 1 = false ∧ u.refreshMay 1 = false) ∧
    Meets (fun u => u.memUp 0 = true ∧ (u.mgrp 0).owed ≠ [] ∧ (u.mgrp 0).stepRuns = false ∧ (u.mgrp 0).stepDue = true ∧
      (u.mgrp 0).stepAt + 10000000 ≤ u.walltime ∧ u.filling 5 = true) ∧
    Meets (fun u => u.mode = ENUMERATE ∧ u.capBytes = 0) ∧ Meets (fun u => u.mode ≠ ENUMERATE) ∧
    Meets (fun u => u.tf 14 R.MEM_FREQ_BUSY = true ∧ bit (u.gf 14 R.MEM_FREQ_VALID) (u.mgrp 0).reqSp = true) ∧
    Meets (fun u => u.tf 14 R.MEM_FREQ_BUSY = true ∧ bit (u.gf 14 R.MEM_FREQ_VALID) (u.mgrp 0).reqSp = false) ∧
    Meets (fun u => (1 : Nat) < 2 ∧ u.pstate (pgMem 1) = pSERVICE ∧ (u.mgrp 1).svcRuns = some 1 ∧ (1 : Nat) ≠ 0) :=
  ⟨meets { ram with wbuf := [(3, {})] } rfl (by decide +kernel), meets { ram with wbuf := [(3, {}), (5, {})], mem := [(1, { idleDrain := true })] } rfl (by decide +kernel),
   meets ram rfl (by decide +kernel), meets ram rfl (by decide +kernel), meets ram rfl (by decide +kernel),
   meets { ram with mem := [(1, { pulled := List.range 7 })] } rfl (by decide +kernel),
   meets { ram with mem := [(1, { stepLast := some 0, outAt := some 0 })], walltime := 89 } rfl (by decide +kernel),
   meets { ram with mem := [(0, { owed := [0], stepDue := true })], fills := [⟨5⟩], walltime := 10000000 } rfl (by decide +kernel),
   meets State.reset rfl (by decide +kernel), meets running rfl (by decide +kernel),
   meets { (running.sf 14 R.MEM_FREQ_BUSY 1).sf 14 R.MEM_FREQ_VALID 8 with mem := [(0, { reqSp := 3 })] } rfl (by decide +kernel),
   meets { (running.sf 14 R.MEM_FREQ_BUSY 1).sf 14 R.MEM_FREQ_VALID 7 with mem := [(0, { reqSp := 3 })] } rfl (by decide +kernel),
   meets { running.sf (pgMem 1) R.PAGE_STATE_STATE pSERVICE with mem := [(1, { svcRuns := some 1 })] } rfl (by decide +kernel)⟩

theorem wit_SweepEvents :
    Meets (fun u => u.capBytes ≠ 0 ∧ u.gf (pgSwp 1) R.SWP_CTRL_LAP_WARN_MIN ≠ 0 ∧ (u.sweepOf 1).slow = false ∧
      (u.sweepOf 1).lapAt + u.gf (pgSwp 1) R.SWP_CTRL_LAP_WARN_MIN * 60000000000 ≤ u.localTime (5 + 1)) ∧
    Meets (fun u => u.tf 16 R.RNG_STATUS_BUSY = true ∧ u.rangeOver = true) ∧ Meets (fun u => u.rangeOver = false) ∧
    Meets (fun u => (63 : Nat) < 64 ∧ (u.logEnt 1 63).state = 1 ∧ (u.logEnt 1 63).queued = true ∧
      (u.logEnt 1 63).queuedAt + 1000000 ≤ u.walltime) ∧
    Meets (fun u => (63 : Nat) < 64 ∧ u.pstate (pgMem 1) = pSERVICE ∧ (u.mgrp 1).svcRuns = some 1 ∧ (u.logEnt 1 63).stays = true ∧
      (u.logEnt 1 63).marked = true) ∧
    Meets (fun u => Served u .smp 16 0x90 (rangeAct true) (State.plainWrite true 16 0x90 1#32) ∧
      Turned u .bar0 16 0x90 (rangeAct false) SECURE_DENIED (State.plainWrite false 16 0x90 1#32)) ∧
    Meets (fun u => Turned u .smp 16 0x90 (rangeAct true) BAD_ARG (State.plainWrite true 16 0x90 1#32) ∧
      Served u .smp 16 0x90 rangeAbortAct ∧ Served u .smp (pgSwp 1) 0x64 (logMarkAct true 1 63) (fun x => x.sf (pgSwp 1) R.SWP_LOG_SEL_INDEX 63) ∧
      Served u .smp (pgSwp 1) 0x64 (logUnmarkAct 1 63) (fun x => x.sf (pgSwp 1) R.SWP_LOG_SEL_INDEX 63) ∧
      Served u .smp (pgSwp 0) 0x64 (logFreeAct true 0 63) (fun x => x.sf (pgSwp 0) R.SWP_LOG_SEL_INDEX 63)) ∧
    Meets (fun u => Turned u .bar0 (pgSwp 1) 0x64 (logMarkAct false 1 63) SECURE_DENIED (fun x => x.sf (pgSwp 1) R.SWP_LOG_SEL_INDEX 63) ∧
      Turned u .bar0 (pgSwp 1) 0x64 (logFreeAct false 1 63) SECURE_DENIED (fun x => x.sf (pgSwp 1) R.SWP_LOG_SEL_INDEX 63)) ∧
    Meets (fun u => Barred u .smp 16 0x90 WRONG_STATE PG_SYS) ∧
    Meets (fun u => u.portServed .bar0 = false) :=
  ⟨meets { ram.sf (pgSwp 1) R.SWP_CTRL_LAP_WARN_MIN 1 with walltime := 70000000000 } rfl (by decide +kernel),
   meets { running.sf 16 R.RNG_STATUS_BUSY 1 with validPg := [0], range := { stop := 4096, next := [(0, 32), (1, 33)] } } rfl (by decide +kernel),
   meets { running.sf 16 R.RNG_STATUS_BUSY 1 with validPg := [0], range := { stop := 4096, next := [(0, 32), (1, 31)] } } rfl (by decide +kernel),
   meets { running with logs := [(127, { state := 1, queued := true })], walltime := 1000000 } rfl (by decide +kernel),
   meets { running.sf (pgMem 1) R.PAGE_STATE_STATE pSERVICE with
     mem := [(1, { svcRuns := some 1 })], logs := [(127, { state := 3, marked := true })] } rfl (by decide +kernel),
   meets (ram.wr (pageBase 16 + R.RNG_END_LO_ADDR.off) 0x1000#32) rfl (by unfold Served Turned State.admits; decide +kernel),
   meets running rfl (by unfold Served Turned State.admits; decide +kernel),
   meets { running with logs := [(127, { state := 3 })] } rfl (by unfold Turned State.admits; decide +kernel),
   meets (running.sf 16 R.PAGE_STATE_STATE pOFF) rfl (by unfold Barred; decide +kernel), meets State.reset rfl (by decide +kernel)⟩

/-- `running` with the haptic channel 3 in the state `st`. -/
def haptic (st : Nat) : State := running.sf PG_HAP (R.HAP_CH_STATUS_STATE 3) st

theorem wit_TouchHaptics :
    Meets (fun u => u.scanOn = true ∧ u.tf PG_TCH R.TCH_STATUS_SCANNING = true ∧ u.tch.inCycle = false ∧ u.tch.n = 0 ∧
      u.gf PG_TCH R.COMMIT_STATUS_STATE ≠ 2) ∧
    Meets (fun u => u.scanOn = true ∧ u.tch.inCycle = true) ∧
    Meets (fun u => u.tch.idle = some 4 ∧ idleStep (u.gf PG_TCH R.TCH_STATUS_RATE) = some 1000000000 ∧ u.scanOn = true ∧
      u.tf PG_TCH R.TCH_CTRL_IDLE_EN = true ∧ 4 + 1000000000 ≤ u.walltime) ∧
    Meets (fun u => u.hapLive = true ∧ u.hapTested 3 = false ∧ u.tf PG_HAP (R.HAP_CH_CTRL_TRIG_EN 3) = true ∧
      u.gf PG_HAP (R.HAP_CH_CTRL_TRIG_SLOT 3) / 8 = 3 ∧ u.gf PG_HAP (R.HAP_CH_CTRL_TRIG_EDGE 3) = 0) ∧
    Meets (fun u => (u.hap 3).phaseAt + u.phaseMs (u.hapSlot 3) (u.hapSt 3) * 1000000 ≤ u.walltime) ∧
    Meets (fun u => (u.hap 3).timed = none) ∧
    Meets (fun u => (u.hap 3).timed = some { slot := 31, start := 1 } ∧ 1 ≤ u.localTime (islandOf PG_HAP) ∧ u.hapLive = true) ∧
    Meets (fun u => (u.hapSt 3 = cKICK ∨ u.hapSt 3 = cSUSTAIN) ∧ u.dutyOver 3 = true) ∧
    Meets (fun u => u.hapOn 3 = true) ∧ Meets (fun u => u.hapOn 3 = true ∧ (u.hap 3).full = some 7 ∧ 7 + 1000000 ≤ u.walltime) ∧
    Meets (fun u => u.pstate PG_HAP ≠ pOFF) :=
  ⟨meets ((running.sf PG_TCH R.TCH_CTRL_SCAN_EN 1).sf PG_TCH R.TCH_STATUS_SCANNING 1) rfl (by decide +kernel),
   meets { running.sf PG_TCH R.TCH_CTRL_SCAN_EN 1 with tch := { inCycle := true } } rfl (by decide +kernel),
   meets { (running.sf PG_TCH R.TCH_CTRL_SCAN_EN 1).sf PG_TCH R.TCH_CTRL_IDLE_EN 1 with
     tch := { idle := some 4 }, walltime := 1000000004 } rfl (by decide +kernel),
   meets ((running.sf PG_HAP (R.HAP_CH_CTRL_TRIG_EN 3) 1).sf PG_HAP (R.HAP_CH_CTRL_TRIG_SLOT 3) 31) rfl (by decide +kernel),
   meets { haptic cKICK with walltime := 1000000000 } rfl (by decide +kernel), meets running rfl (by decide +kernel),
   meets { running with haps := [(3, { timed := some { slot := 31, start := 1 } })], walltime := 100000 } rfl (by decide +kernel),
   meets { haptic cKICK with haps := [(3, { drive := true, hist := [(0, 100000000000)] })], walltime := 100000000000 } rfl (by decide +kernel),
   meets running rfl (by decide +kernel),
   meets { running with haps := [(3, { full := some 7 })], walltime := 1000007 } rfl (by decide +kernel),
   meets running rfl (by decide +kernel)⟩

theorem wit_AudioEvents :
    Meets (fun u => (1 : Nat) < 2 ∧ u.tf PG_AUD (R.AUD_PORT_CFG_TARGET 1) = true) ∧
    Meets (fun u => (15 : Nat) < 16 ∧ u.tdmSt (u.strPort 15) = tRUN) ∧ Meets (fun u => (15 : Nat) < 16 ∧ u.tdmSt (u.strPort 15) ≠ tRUN) ∧
    Meets (fun u => fhas u.alarms 3 = true ∧ (u.alarm 3).on = true ∧ u.gf PG_AUD (R.ALM_PATTERN_OFF_MS 3) ≠ 0 ∧
      (u.alarm 3).at_ + u.gf PG_AUD (R.ALM_PATTERN_ON_MS 3) * 1000000 ≤ u.walltime) ∧
    Meets (fun u => (3 : Nat) < 4 ∧ u.tf PG_AUD (R.ALM_CTRL_EN 3) = true ∧ u.alarmMode = true ∧ fhas u.alarms 3 = false ∧
      u.tdmSt (u.gf PG_AUD (R.ALM_CTRL_PORT 3)) = tRUN) ∧
    Meets (fun u => (15 : Nat) < 16 ∧ (u.strm 15).duckHold = some 9 ∧ 9 ≤ u.walltime) :=
  ⟨meets (running.sf PG_AUD (R.AUD_PORT_CFG_TARGET 1) 1) rfl (by decide +kernel),
   meets (running.sf PG_AUD (R.AUD_PORT_STATUS_STATE 0) tRUN) rfl (by decide +kernel), meets running rfl (by decide +kernel),
   meets { running.sf PG_AUD (R.ALM_PATTERN_OFF_MS 3) 1 with alarms := [(3, { on := true })], walltime := 100000000000 } rfl
     (by decide +kernel),
   meets ((running.sf PG_AUD (R.ALM_CTRL_EN 3) 1).sf PG_AUD (R.AUD_PORT_STATUS_STATE 0) tRUN) rfl (by decide +kernel),
   meets { running with strs := [(15, { duckHold := some 9 })], walltime := 9 } rfl (by decide +kernel)⟩

/-- A page and a unit that each self-test may take. -/
def tests : List (Nat × Nat × Nat) :=
  [(PG_ARCADE, 95, 0), (15, 0, 1), (63, 0, 2), (47, 0, 3), (PG_CHN, 1, 4), (PG_TCH, 0, 5), (PG_HAP, 3, 6), (PG_AUD, 1, 7), (PG_MON, 0, 8)]

/-- The state in which an update of kind `k`, version 7, with 4 bytes of zeros, stands at address 0 of secure memory. -/
def updatable (k : Nat) : State :=
  (ram.sf PG_WMARK R.WM_DRAM_LEVEL 1).dput 0 (leBytes 4 k ++ leBytes 4 7 ++ leBytes 4 4 ++ leBytes 4 0x2144DF1C)

theorem wit_TestRequests :
    (∀ x ∈ tests, Meets (fun u => Served u .smp PG_BIST 0x40 (bistGoAct true x.1 x.2.1 x.2.2)
      (State.plainWrite true PG_BIST 0x40 (putBits (BitVec.ofNat 32 (x.1 + 256 * x.2.1)) 16 4 x.2.2)))) ∧
    (∀ x ∈ tests, Meets (fun u => Turned u .smp PG_BIST 0x40 (bistGoAct true x.1 255 x.2.2) BAD_ARG
      (State.plainWrite true PG_BIST 0x40 (putBits (BitVec.ofNat 32 (x.1 + 256 * 255)) 16 4 x.2.2)))) ∧
    Meets (fun u => Served u .smp PG_BIST 0x40 bistAbortAct ∧ Served u .smp PG_BIST 0x70 (tgAct true false) ∧
      Turned u .smp PG_BIST 0x70 (tgAct true true) WRONG_STATE ∧
      Served u .smp PG_BIST 0x94 (substCndAct 7) (State.plainWrite true PG_BIST 0x94 7#32) ∧
      Turned u .smp PG_BIST 0x94 (substCndAct 8) BAD_ARG (State.plainWrite true PG_BIST 0x94 8#32) ∧
      Turned u .smp PG_BIST 0xA4 (updAct 4 9) BAD_ARG (State.plainWrite true PG_BIST 0xA4 (putBits 0x900#32 0 3 4))) ∧
    Meets (fun u => Served u .smp PG_BIST 0x70 (tgAct true true)
      (fun x => x.plainWrite true PG_BIST 0x70 (putBits 0#32 0 1 (x.gf PG_BIST R.BIST_TG_CTRL_EN)))) ∧
    Meets (fun u => Served u .smp PG_BIST 0xA4 (updAct 3 0) (State.plainWrite true PG_BIST 0xA4 (putBits 0#32 0 3 3))) ∧
    Meets (fun u => Served u .smp PG_BIST 0xA4 (updAct 4 8) (State.plainWrite true PG_BIST 0xA4 (putBits 0x800#32 0 3 4))) ∧
    (∀ x ∈ [(0, 256), (1, 256), (2, 0)], Meets (fun u => Served u .smp PG_QSPI 0x50 (qspiAct true x.1 x.2)
      (State.plainWrite true PG_QSPI 0x50 (putBits (BitVec.ofNat 32 (256 * x.2)) 0 2 x.1)))) ∧
    Meets (fun u => Turned u .smp PG_QSPI 0x50 (qspiAct true 0 257) BAD_ARG (State.plainWrite true PG_QSPI 0x50 (putBits 0x10100#32 0 2 0))) ∧
    Meets (fun u => Barred u .smp PG_BIST 0x40 WRONG_STATE PG_SYS) ∧
    Meets (fun u => u.portServed .bar0 = false) := by
  refine ⟨fun x h => meets (inMode CONFIGURE) rfl ?_, fun x h => meets (inMode CONFIGURE) rfl ?_,
    meets running rfl (by unfold Served Turned State.admits; decide +kernel),
    meets (inMode CONFIGURE) rfl (by unfold Served State.admits; decide +kernel),
    meets (updatable 3) rfl (by unfold Served State.admits; decide +kernel),
    meets (updatable 4) rfl (by unfold Served State.admits; decide +kernel), fun x h => meets running rfl ?_,
    meets running rfl (by unfold Turned State.admits; decide +kernel),
    meets (running.sf PG_BIST R.PAGE_STATE_STATE pOFF) rfl (by unfold Barred; decide +kernel), meets State.reset rfl (by decide +kernel)⟩ <;>
  (try unfold Served) <;> (try unfold Turned) <;> unfold State.admits <;> revert x <;> decide +kernel

/-- The shortest copy of the configuration image: its header and one empty section of an unknown type that is not required. -/
def image : List Byte :=
  let l := leBytes 4 0x5452494D ++ leBytes 2 1 ++ leBytes 2 64 ++ leBytes 4 76 ++ leBytes 4 0 ++ leBytes 2 0x8810 ++ leBytes 2 0x0B0 ++
    leBytes 2 1 ++ List.replicate 42 0#8 ++ leBytes 4 0x8000 ++ leBytes 4 0
  l ++ leBytes 4 (crc32 l)

theorem wit_TestEvents :
    Meets (fun u => u.bistRun = some (PG_CHN, 1, 4)) ∧ Meets (fun u => u.bistRun = none) ∧ Meets (fun u => u.softDone = true) ∧
    Meets (fun u => u.tf PG_BIST R.BIST_TG_CTRL_EN = true ∧ u.tgFirst = true ∧ (8 : Nat) < 9) ∧
    Meets (fun u => u.update = some (3, 0, 7)) ∧ Meets (fun u => u.qspiOp = some (2, 65536, 0) ∧ u.qspiAt + 2000000000 ≤ u.walltime) ∧
    Meets (fun u => u.mode = ENUMERATE ∧ u.jtagHold = false ∧ u.gf PG_QSPI R.QSPI_STATUS_CHECK_A = 0 ∧ copyCode false [] ≠ 0) ∧
    Meets (fun u => u.mode = ENUMERATE ∧ u.jtagHold = false ∧ u.gf PG_QSPI R.QSPI_STATUS_CHECK_A ≠ 0 ∧ copyCode true [] ≠ 0) ∧
    Meets (fun u => u.mode = ENUMERATE ∧ u.jtagHold = false ∧ u.gf PG_QSPI R.QSPI_STATUS_CHECK_A = 0 ∧ copyCode true image = 0) :=
  ⟨meets { running with bistRun := some (PG_CHN, 1, 4) } rfl (by decide +kernel), meets running rfl (by decide +kernel),
   meets { running with softDone := true } rfl (by decide +kernel),
   meets { running.sf PG_BIST R.BIST_TG_CTRL_EN 1 with tgFirst := true } rfl (by decide +kernel),
   meets { running with update := some (3, 0, 7) } rfl (by decide +kernel),
   meets { running with qspiOp := some (2, 65536, 0), walltime := 2000000000 } rfl (by decide +kernel), meets State.reset rfl (by decide +kernel),
   meets (State.reset.sf PG_QSPI R.QSPI_STATUS_CHECK_A 2) rfl (by decide +kernel), meets State.reset rfl (by decide +kernel)⟩

theorem wit_CopyCodes : copyCode true image = 0 ∧ image.length = 76 ∧ imgFld image 0 4 = 0x5452494D ∧ imgFld [] 0 4 ≠ 0x5452494D := by
  decide +kernel

theorem wit_MonitorEvents :
    Meets (fun u => u.monRuns = true) ∧ Meets (fun u => u.monRuns = false) ∧
    Meets (fun u => u.hotSince = some 5 ∧ u.monRuns = true ∧ u.tf PG_MON R.MON_STATUS_ALERT = true ∧ 5 + 1000000000 ≤ u.walltime) ∧
    Meets (fun u => (31 : Nat) < 32 ∧ (u.sf PG_GPIO R.GPIO_IN_LEVEL (setBit (u.gf PG_GPIO R.GPIO_IN_LEVEL) 31 true)).pstate PG_GPIO = pRUN ∧
      bit ((u.sf PG_GPIO R.GPIO_IN_LEVEL (setBit (u.gf PG_GPIO R.GPIO_IN_LEVEL) 31 true)).gf PG_GPIO R.GPIO_EDGE_EN_RISE) 31 = true ∧
      bit ((u.sf PG_GPIO R.GPIO_IN_LEVEL (setBit (u.gf PG_GPIO R.GPIO_IN_LEVEL) 31 false)).gf PG_GPIO R.GPIO_EDGE_EN_F_FALL) 31 = false) :=
  ⟨meets running rfl (by decide +kernel), meets State.reset rfl (by decide +kernel),
   meets { running.sf PG_MON R.MON_STATUS_ALERT 1 with hotSince := some 5, walltime := 1000000005 } rfl (by decide +kernel),
   meets (running.sf PG_GPIO R.GPIO_EDGE_EN_RISE 0x80000000) rfl (by decide +kernel)⟩

/-- A management frame with these bytes and its CRC (R499). -/
def frame (l : List Nat) : List Byte := l.map (BitVec.ofNat 8) ++ [BitVec.ofNat 8 (crc8 (l.map (BitVec.ofNat 8)))]

theorem wit_SmpFrames :
    (frame [2, 0, 0x10, 0, 0]).length < smpLen (frame [2, 0, 0x10, 0, 0]) ∧
    (∀ f ∈ [frame [3, 0, 0x10, 0, 0, 15], frame ([2, 0, 0x10, 0, 0, 15] ++ List.replicate 64 0), frame [7, 0, 0, 0, 0, 0]],
      smpLen f ≤ f.length ∧ crc8 (f.take (smpLen f - 1)) = mb f (smpLen f - 1) ∧ smpAddr f % 4 = 0 ∧ mb f 5 ≤ 15) ∧
    (mb (frame [7, 0, 0, 0, 0, 0]) 0 ≠ 2 ∧ mb (frame [7, 0, 0, 0, 0, 0]) 0 ≠ 3 ∧ smpAddr (frame [3, 0, 0x10, 0, 1, 0]) % 4 ≠ 0) ∧
    crc8 (([3, 0, 0x10, 0, 0, 0, 1] : List Byte).take 6) ≠ mb [3, 0, 0x10, 0, 0, 0, 1] 6 ∧
    Meets (fun u => u.runWaits (smpAddr (frame [3, 0, 0x10, 0, 0, 15])) 16 = false ∧ u.smpIrqLow = false) ∧
    Meets (fun u => u.runWaits (smpAddr (frame [3, 0, 0x16, 0x40, 0x40, 0])) 1 = true) ∧ Meets (fun u => u.smpIrqLow = true) :=
  ⟨by decide +kernel, by decide +kernel, by decide +kernel, by decide +kernel, meets running rfl (by decide +kernel),
   meets retraining rfl (by decide +kernel), meets ((running.sf PG_SEC R.EVT_RAW_RAW 1).sf PG_SEC R.EVT_ENABLE_ENABLE 1) rfl (by decide +kernel)⟩

theorem wit_AccessRules :
    Meets (fun u => u.mode = ENUMERATE) ∧
    Meets (fun u => u.portServed .bar0 = true ∧ u.wordWaits 0x101044 = false ∧ region51 .bar0 0x101044 = .page 1 0x44 ∧ regExists 1 0x44 = true ∧
      (companionPage 1 && !sysHeld 0x44 && !u.d2dOk) = false ∧ (7 : Nat) ≠ 15) ∧
    Meets (fun u => u.portServed .smp = true ∧ region51 .smp 0 = .reserved ∧ region51 .bar0 0x200000 = .reserved) ∧
    Meets (fun u => u.portServed .smp = true ∧ region51 .smp 0x1FFFFC = .page 255 0xFFC ∧ regExists 255 0xFFC = false ∧
      companionPage 255 = false) ∧
    Meets (fun u => u.portServed .bar0 = true ∧ portSecure .bar0 = false ∧ region51 .bar0 0x148040 = .page 72 0x40 ∧
      regExists 72 0x40 = true ∧ secureOnlyPage 72 = true ∧ (0x40 : Nat) ≠ 0x08) :=
  ⟨meets State.reset rfl (by decide +kernel), meets running rfl (by decide +kernel), meets running rfl (by decide +kernel),
   meets running rfl (by decide +kernel), meets running rfl (by decide +kernel)⟩

theorem wit_RegisterFrames :
    Meets (fun u => u.deferred = [] ∧ u.admits .smp 100 0x3C ∧ u.admits .smp 0 0x18 ∧ u.admits .smp 40 0x08 ∧ u.admits .smp 47 0x14 ∧
      u.admits .bar0 96 0x20 ∧ u.admits .smp PG_SYS 0x48 ∧ u.admits .smp PG_PERF 0x40 ∧ u.admits .smp PG_JRN_S 0x48 ∧
      (jrnCtrlAct PG_JRN_S 1#32).code u = none ∧ u.tf PG_JRN_S R.JRN_CTRL_ENABLE = false ∧ u.gf PG_JRN_S R.JRN_LOST_COUNT = 0) ∧
    Meets (fun u => u.deferred = [] ∧ u.admits .smp PG_SEC (0xAC + 0x10 * 1) ∧ (subTailAct 1 255#32).code u = none) ∧
    Meets (fun u => u.deferred = [] ∧ u.mode ≠ ENUMERATE ∧ bits 3#32 0 15 < u.ent 255 2 16 15 * 2) ∧
    Meets (fun u => u.deferred = [] ∧ (7 : Nat) < 8 ∧ u.tf PG_SYS R.SYS_D2D_STATUS_LINK_UP = true) ∧
    Meets (fun u => u.deferred = [] ∧ (31 : Nat) < 32 ∧ u.pstate PG_GPIO ≠ pRUN) ∧
    Meets (fun u => u.deferred = [] ∧ bit (u.gf (pgDpl 7) R.DPL_STATUS_LANE_SHORT) 3 = true ∧ u.linkSt 7 ≠ lFAILED) :=
  ⟨meets running rfl (by unfold State.admits; decide +kernel),
   meets (running.sf PG_SEC (R.SEC_SUB_CTRL_EN 1) 1) rfl (by unfold State.admits; decide +kernel),
   meets (running.wr (entKey 255 2) 0x20000#32) rfl (by decide +kernel), meets running rfl (by decide +kernel),
   meets State.reset rfl (by decide +kernel), meets (running.sf (pgDpl 7) R.DPL_STATUS_LANE_SHORT 8) rfl (by decide +kernel)⟩

theorem wit_QuietFrames :
    Meets (fun u => u.deferred = [] ∧ (0x1FFF40 : Nat) ≥ 0x180000 ∧ Quiet 0x101044) ∧
    Meets (fun u => u.deferred = [] ∧ Barred u .bar0 PG_SEC 0x70 SECURE_DENIED PG_SEC ∧ u.wordWaits 0x148070 = false ∧
      region51 .bar0 0x148070 = .page PG_SEC 0x70 ∧ (0x70 : Nat) ≠ 0x08 ∧ pageType PG_SEC ≠ 0x0E) ∧
    Meets (fun u => u.deferred = [] ∧ u.portServed .smp = true ∧ u.entryCode .smp 255 62 7#32 = some NO_RIGHT) ∧
    (Config.fuseDebugKill = true → Meets (fun u => u.deferred = [] ∧ u.tapReset = true ∧ bit u.dbgEffective 3 = false ∧
      bit u.dbgEffective 2 = false)) ∧
    Meets (fun u => u.deferred = [] ∧ u.ppsLast = some 1 ∧ u.isMaster = true ∧ u.tf PG_TIME R.TIME_PPS_CTRL_EN = true ∧
      1 + 3000000000 ≤ u.walltime) ∧
    Meets (fun u => u.deferred = [] ∧ u.perstLow = true) ∧
    Meets (fun u => u.deferred = [] ∧ u.pstate (pgMem 1) = pSERVICE ∧ (u.mgrp 1).svcRuns = some 1) ∧
    Meets (fun u => u.deferred = [] ∧ u.qspiOp = some (2, 65536, 0) ∧ u.qspiAt + 2000000000 ≤ u.walltime) := by
  refine ⟨meets running rfl (by unfold Quiet; decide +kernel), meets running rfl (by unfold Barred; decide +kernel),
    meets running rfl (by decide +kernel), fun h => meets { running with tapReset := true } rfl ?_,
    meets { (running.sf PG_CHN R.CHN_STATUS_MASTER 1).sf PG_TIME R.TIME_PPS_CTRL_EN 1 with ppsLast := some 1, walltime := 3000000001 } rfl
      (by decide +kernel),
    meets { running with perstLow := true } rfl (by decide +kernel),
    meets { running.sf (pgMem 1) R.PAGE_STATE_STATE pSERVICE with mem := [(1, { svcRuns := some 1 })] } rfl (by decide +kernel),
    meets { running with qspiOp := some (2, 65536, 0), walltime := 2000000000 } rfl (by decide +kernel)⟩
  rw [show State.dbgEffective _ = 0 by simp [State.dbgEffective, h]]
  decide +kernel

theorem wit_Steps : (∃ s : State, s.pending = [.jtagTestLogicReset 5]) ∧ ∃ s v : State, s.pending = [] ∧ v.deferred = [] :=
  ⟨⟨{ State.reset with pending := [.jtagTestLogicReset 5] }, rfl⟩, ⟨State.reset, State.reset, rfl, rfl⟩⟩

theorem wit_ResetLeft :
    (∃ s : State, s.rstHold ≠ [] ∧ ∀ w ∈ s.rstHold, w ≠ 0 ∧ w ≠ 20) ∧ (∃ s : State, s.rstHold ≠ [] ∧ ∀ w ∈ s.rstHold, w = 20) ∧
    (∃ s : State, 1 ∈ s.rstHold ∧ 1 ≠ 20) ∧ (∃ s : State, s.rstHold = [0]) ∧ (1000 ≤ 1000 ∧ 499 < 500 ∧ 1 ≤ 1 ∧ 1 < 2 ∧ 2 ≠ 6) :=
  ⟨⟨{ State.reset with rstHold := [1, 7] }, by decide +kernel⟩, ⟨{ State.reset with rstHold := [20] }, by decide +kernel⟩,
   ⟨{ State.reset with rstHold := [20, 1] }, by decide +kernel⟩, ⟨{ State.reset with rstHold := [0] }, rfl⟩, by decide⟩

theorem wit_EventRule :
    Meets (fun u => (31 : Nat) < 32 ∧ bit (u.gf 100 R.EVT_RAW_RAW) 31 = true) ∧
    Meets (fun u => bit (u.gf 100 R.EVT_RAW_RAW) 31 = false ∧ bit (u.gf 100 R.EVT_ENABLE_ENABLE) 31 = false) ∧
    Meets (fun u => bit (u.gf 100 R.EVT_RAW_RAW) 31 = false ∧ bit (u.gf 100 R.EVT_ENABLE_ENABLE) 31 = true) :=
  ⟨meets (running.sf 100 R.EVT_RAW_RAW 0x80000000) rfl (by decide +kernel),
   meets (running.sf 100 R.EVT_ENABLE_ENABLE 0x7FFFFFFF) rfl (by decide +kernel),
   meets (running.sf 100 R.EVT_ENABLE_ENABLE 0x80000000) rfl (by decide +kernel)⟩

theorem wit_ErrorRule :
    Meets (fun u => pageExists 100 = true ∧ (255 : Nat) < 256 ∧ u.tf 100 R.ERR_CAPTURE_VALID = true) ∧
    Meets (fun u => pageExists 0 = true ∧ u.tf 0 R.ERR_CAPTURE_VALID = false) :=
  ⟨meets (running.sf 100 R.ERR_CAPTURE_VALID 1) rfl (by decide +kernel), meets running rfl (by decide +kernel)⟩

theorem wit_JournalRule :
    Meets (fun u => u.tf PG_JRN_N R.JRN_CTRL_ENABLE = false) ∧
    Meets (fun u => u.tf PG_JRN_N R.JRN_CTRL_ENABLE = true ∧ u.jrnFull PG_JRN_N = true) :=
  ⟨meets running rfl (by decide +kernel),
   meets ((running.sf PG_JRN_N R.JRN_CTRL_ENABLE 1).sf PG_JRN_N R.JRN_WR_INDEX (State.reset.jrnSlots PG_JRN_N - 1)) rfl (by decide +kernel)⟩

theorem wit_PlainFields :
    Meets (fun u => ((findRow (pageRows 1) 0x60).any fun r => decide (r.rw < 2 ^ 32) && r.w1c == 0 && r.rws == 0 && r.rwl == 0) = true ∧
      isPairLo 1 0x60 = false ∧ isPairLo 1 0x5C = false ∧ u.openBits true 1 0x60 = 0xFFFFFFFF ∧ u.badBits 1 0x60 3#32 = 0 ∧ u.handingBits 1 0x60 = 0) ∧
    Meets (fun u => ((findRow (pageRows 99) 0x4C).any fun r => r.rw == 0 && r.w1c == 0 && r.rws == 0 && r.rwl != 0) = true ∧
      isPairLo 99 0x4C = false ∧ isPairLo 99 0x48 = false ∧ u.openBits true 99 0x4C = 0xFFFFFFFF ∧ u.badBits 99 0x4C 3#32 = 0 ∧ u.handingBits 99 0x4C = 0 ∧
      u.tf 99 R.LOCK_LOCKED = true) :=
  ⟨meets running rfl (by decide +kernel), meets (running.sf 99 R.LOCK_LOCKED 1) rfl (by decide +kernel)⟩

theorem wit_WatermarkIsolation :
    Meets (fun u => 2097151 < u.wmDram ∧ ({ code := 3 } : Agent).secure = false ∧ ({ code := 1, secure := true } : Agent).secure = true) :=
  meets (running.sf PG_WMARK R.WM_DRAM_LEVEL 1) rfl (by decide +kernel)

theorem wit_RequestCodes :
    Meets (fun u => u.pstate PG_CHN = pRUN ∧ u.addrValid = true ∧ u.gf PG_CHN (mbFld true R.MB_CMD_DST) = u.ownAddr) ∧
    (∀ op ∈ List.range 8, Meets (fun u => u.pstate PG_INST = pRUN ∧ u.gf PG_INST R.INST_CMD_INSTANCE = 255 ∧ u.gf PG_INST R.INST_CMD_OP = op)) := by
  refine ⟨meets ((running.sf PG_CHN R.CHN_STATUS_ADDR_VALID 1).sf PG_CHN R.CHN_STATUS_ADDR 0) rfl (by decide +kernel),
    fun op h => meets ((running.sf PG_INST R.INST_CMD_INSTANCE 255).sf PG_INST R.INST_CMD_OP op) rfl ?_⟩
  revert op
  decide +kernel

theorem wit_ChainSeal :
    12 ≤ (List.replicate 24 1#8).length ∧ 12 ≤ (0x40#8 :: List.replicate 11 0#8).length ∧
    (0x40#8 :: List.replicate 11 0#8).length = 12 + mb (0x40#8 :: List.replicate 11 0#8) 7 := by decide +kernel

theorem wit_DramBytes : Meets (fun u => 127 + [1#8].length ≤ 128 ∧ u.mustWait 3 = false) ∧ Meets (fun u => u.mustWait 3 = true) :=
  ⟨meets running rfl (by decide +kernel), meets { running with wbuf := (List.range 96).map fun k => (2 * k + 5, {}) } rfl (by decide +kernel)⟩

end Sys2Proof.Tests
end

section
/-! The invariant of reset and the values that reset leaves (R36, R489). -/

namespace Sys2Proof.Proofs

open Sys2Proof Sys2Proof.Machine Sys2Proof.Laws

/-! Reset values. -/

/-- A header register right after reset (R58, R61). -/
theorem resetWord_header {p off : Nat} (hp : p < 256) (ho : off < 0x40) : resetWord (pageBase p + off) = headerReset p off := by
  have hq : (pageBase p + off - 0x100000) / 0x1000 = p := by unfold pageBase; omega
  have hr : (pageBase p + off - 0x100000) % 0x1000 = off := by unfold pageBase; omega
  have h1 : ¬pageBase p + off < 0x8000 := by unfold pageBase; omega
  have h2 : 0x100000 ≤ pageBase p + off ∧ pageBase p + off < 0x200000 := by unfold pageBase; omega
  unfold resetWord
  simp [h1, h2, hq, hr, ho]

theorem lt_256_of_pageExists {p : Nat} (h : pageExists p = true) : p < 256 := by
  simp [pageExists] at h; omega

/-! The commands and a unit held in reset. -/

/-- The commands that act on a unit held in reset too (R489): RESET_N, the supplies and the thermal trip. -/
def actsInReset : Instr → Bool
  | .resetNRelease .. | .resetNAssert .. | .supplyUndervolt .. | .supplyResetRelease _ | .thermalTrip _ | .thermalTripEnd _ => true
  | _ => false

/-- Every other command has an effect only on a unit that is not held in reset. -/
theorem exec_eq_nxt {c : Instr} (h : actsInReset c = false) : ∃ t f, ∀ s, exec c s = nxt t f s := by
  cases c
  case resetNRelease | resetNAssert | supplyUndervolt | supplyResetRelease | thermalTrip | thermalTripEnd => cases h
  all_goals
    dsimp only [exec]
    exact ⟨_, _, fun _ => rfl⟩

/-! The state of a unit held in reset. -/

/-- MON_STATUS is the one register that a blank unit may hold at another value than its reset value. -/
theorem blank_sf_monStatus {s : State} (h : s.blank) (f : Fld) (hf : f.off = R.MON_STATUS_TRIPPED.off) (v : Nat) :
    (s.sf PG_MON f v).blank := by
  obtain ⟨hrd, hrest⟩ := h
  exact ⟨fun k hk => (rd_sf_other s PG_MON v f (by rwa [hf])).trans (hrd k hk), hrest⟩

theorem blank_ite {c : Prop} [Decidable c] {v w : State} (hv : v.blank) (hw : w.blank) : (if c then v else w).blank := by
  split
  · exact hv
  · exact hw

theorem blank_reset : State.reset.blank := ⟨fun _ _ => rfl, rfl, rfl, rfl, rfl, rfl, rfl, rfl, rfl⟩

/-- What RESET_N clears leaves the unit blank, whatever it was doing (R36). -/
theorem blank_inReset (s : State) : s.inReset.blank := by
  unfold State.inReset
  extract_lets base cleared banked
  have hc : cleared.blank := blank_reset
  have hb : banked.blank := blank_ite hc (blank_sf_monStatus hc R.MON_STATUS_BANK_BAD rfl _)
  exact blank_ite (blank_sf_monStatus hb R.MON_STATUS_TRIPPED rfl 1) hb

@[simp] theorem inReset_deferred (s : State) : s.inReset.deferred = [] := by
  unfold State.inReset
  dsimp only
  split <;> split <;> rfl

/-! The invariant of reset. -/

/-- What a step from a settled state has to bring about: nothing of the command outstanding, and a blank unit where a condition
holds it in reset. -/
theorem settled_ends {s v : State} {hold : List Nat} (hd : hold ≠ [] → v.deferred = []) (hb : hold ≠ [] → v.blank) :
    State.settled { s.ends v with rstHold := hold } := by
  refine ⟨rfl, fun h => ?_⟩
  have e : s.ends v = { v with pending := s.pending } := by rw [State.ends, settle_idle (hd h)]
  rw [e]
  exact hb h

/-- A command that acts only out of reset keeps the invariant: it ends out of reset, or has moved WALLTIME alone. -/
theorem settled_nxt {t : Time} {f : State → State} {s s' : State} (hs : s.settled) (h : nxt t f s = .next s') : s'.settled := by
  rcases nxt_cases t f s with ⟨-, e⟩ | ⟨-, e⟩ <;> rw [e] at h <;> cases h
  · exact ⟨rfl, fun hne => absurd rfl hne⟩
  · exact hs

/-- A command that acts in reset too keeps it when its effect on a unit that stays in reset leaves it blank. -/
theorem settled_nxtReset {t : Time} {hold : State → List Nat} {f : State → State → State} {s s' : State} (hs : s.settled)
    (hf : ∀ u : State, u.settled → hold u ≠ [] →
      (f u { u with rstHold := hold u }).deferred = [] ∧ (f u { u with rstHold := hold u }).blank)
    (h : nxtReset t hold f s = .next s') : s'.settled := by
  have hu : (s.atTime t).settled := hs
  unfold nxtReset at h
  cases h
  exact settled_ends (fun hne => (hf _ hu hne).1) (fun hne => (hf _ hu hne).2)

/-- A settled unit that was held in reset and stays so is blank still. -/
theorem settled_rehold {u : State} (hu : u.settled) {hold : List Nat} (h : u.rstHold ≠ []) :
    ({ u with rstHold := hold } : State).deferred = [] ∧ ({ u with rstHold := hold } : State).blank :=
  ⟨hu.1, hu.2 h⟩

/-- Conditions that end while another holds leave the unit as it is. -/
theorem endReset_held {u v : State} (h : v.rstHold ≠ []) : State.endReset u v = v := by
  simp [State.endReset, h]

theorem ne_nil_of_filter {l : List Nat} {p : Nat → Bool} (h : l.filter p ≠ []) : l ≠ [] := by
  rintro rfl; exact h rfl

/-- RESET_N rises while another condition holds: the unit stays blank, MON_STATUS apart. -/
theorem blank_resetRises {strap : Bool} {banks : List Nat} {u v : State} (hv : v.blank) (h : v.rstHold ≠ []) :
    (State.resetRises strap banks u v).blank := by
  simp only [State.resetRises, sf_rstHold, List.isEmpty_iff, h, if_false]
  exact blank_sf_monStatus hv R.MON_STATUS_BANK_BAD rfl _

theorem deferred_resetRises {strap : Bool} {banks : List Nat} {u v : State} (h : v.rstHold ≠ []) :
    (State.resetRises strap banks u v).deferred = v.deferred := by
  simp only [State.resetRises, sf_rstHold, List.isEmpty_iff, h, if_false, sf_deferred]

theorem settled_resetNRelease {t : Time} {strap : Bool} {banks : List Nat} {s s' : State} (hs : s.settled)
    (h : execResetNRelease t strap banks s = .next s') : s'.settled := by
  refine settled_nxtReset hs (fun u hu hne => ?_) h
  obtain ⟨hd, hb⟩ := settled_rehold hu (hold := ndel u.rstHold 0) (ne_nil_of_filter hne)
  exact ⟨(deferred_resetRises hne).trans hd, blank_resetRises hb hne⟩

theorem settled_resetNAssert {t : Time} {low : Nat} {s s' : State} (hs : s.settled)
    (h : execResetNAssert t low s = .next s') : s'.settled := by
  unfold execResetNAssert at h
  refine settled_nxtReset hs (fun u hu hne => ?_) h
  dsimp only at hne ⊢
  split
  · exact ⟨inReset_deferred _, blank_inReset _⟩
  · next hshort =>
    rw [if_neg hshort] at hne
    obtain ⟨hd, hb⟩ := settled_rehold hu (hold := u.rstHold) hne
    split <;> exact ⟨hd, hb⟩

theorem settled_supplyUndervolt {t : Time} {rail : Nat} {s s' : State} (hs : s.settled)
    (h : execSupplyUndervolt t rail s = .next s') : s'.settled := by
  refine settled_nxtReset hs (fun u hu hne => ?_) h
  by_cases h6 : rail = 6
  · rw [if_pos h6]
    exact ⟨inReset_deferred _, blank_inReset _⟩
  · rw [if_neg h6]
    by_cases h1 : rail ≤ 1
    · rw [if_pos h1]
      exact ⟨inReset_deferred _, blank_inReset _⟩
    · have hidle : ¬(decide (rail ≤ 1) || decide (rail = 6)) = true := by simp [h1, h6]
      rw [if_neg hidle] at hne
      rw [if_neg h1, if_neg hidle]
      exact settled_rehold hu hne

theorem settled_supplyResetRelease {t : Time} {s s' : State} (hs : s.settled)
    (h : execSupplyResetRelease t s = .next s') : s'.settled := by
  refine settled_nxtReset hs (fun u hu hne => ?_) h
  rw [endReset_held hne]
  exact settled_rehold hu (ne_nil_of_filter hne)

theorem settled_thermalTrip {t : Time} {s s' : State} (hs : s.settled)
    (h : execThermalTrip t s = .next s') : s'.settled := by
  refine settled_nxtReset hs (fun u hu hne => ?_) h
  exact ⟨inReset_deferred _, blank_inReset _⟩

theorem settled_thermalTripEnd {t : Time} {s s' : State} (hs : s.settled)
    (h : execThermalTripEnd t s = .next s') : s'.settled := by
  refine settled_nxtReset hs (fun u hu hne => ?_) h
  rw [endReset_held hne]
  exact settled_rehold hu (ne_nil_of_filter hne)

/-- Every command keeps the invariant of reset. -/
theorem settled_exec {c : Instr} {s s' : State} (hs : s.settled) (h : exec c s = .next s') : s'.settled := by
  cases hc : actsInReset c with
  | false =>
    obtain ⟨t, f, e⟩ := exec_eq_nxt hc
    exact settled_nxt hs ((e s).symm.trans h)
  | true =>
    cases c
    case resetNRelease => exact settled_resetNRelease hs h
    case resetNAssert => exact settled_resetNAssert hs h
    case supplyUndervolt => exact settled_supplyUndervolt hs h
    case supplyResetRelease => exact settled_supplyResetRelease hs h
    case thermalTrip => exact settled_thermalTrip hs h
    case thermalTripEnd => exact settled_thermalTripEnd hs h
    all_goals cases hc

/-- Settles O5: a command that acts only out of reset ends out of reset, and the six that act in reset leave the unit blank while one
of the conditions of R489 holds. -/
theorem settledKept : Obligations.SettledKept := by
  intro s s' hs h
  cases hp : s.pending with
  | nil =>
    simp only [step, hp] at h
    cases h
    exact hs
  | cons c rest =>
    simp only [step, hp] at h
    exact settled_exec (s := { s with pending := rest }) hs h

/-- Settles O6: right after reset nothing is outstanding, and nothing holds the unit in reset. -/
theorem settledAtReset : Obligations.SettledAtReset := ⟨rfl, fun h => absurd rfl h⟩

/-- Settles O7: no register has been written, and the mode, page-state and ENABLE fields of the reset words are as R33, R61 and R58
give them. -/
theorem resetValues : Obligations.ResetValues := by
  refine ⟨fun _ => rfl, rfl, rfl, by decide, fun p hp => ?_⟩
  have hw : ∀ off < 0x40, State.reset.rd (pageBase p + off) = headerReset p off := fun off ho =>
    resetWord_header (lt_256_of_pageExists hp) ho
  unfold State.pstate State.tf State.gf
  rw [hw R.PAGE_STATE_STATE.off (by decide), hw R.PAGE_CTRL_ENABLE.off (by decide)]
  exact ⟨by simp [headerReset, bits], by simp [headerReset, bits]⟩

end Sys2Proof.Proofs
end

section
/-! Which register writes are not served or are refused (R33, R52, R53, R55, R60). -/

namespace Sys2Proof.Proofs

open Sys2Proof Sys2Proof.Machine Sys2Proof.Laws

/-- Register pages lie at the same offsets for every port (R51). -/
theorem region51_page {p : Port} {off pg o : Nat} (h : region51 p off = .page pg o) (q : Port) : region51 q off = .page pg o := by
  unfold region51 at h ⊢
  by_cases h1 : off < 0x8000
  · rw [if_pos h1] at h; split at h <;> cases h
  by_cases h2 : off < 0x8100
  · rw [if_neg h1, if_pos h2] at h; split at h <;> cases h
  rwa [if_neg h1, if_neg h2] at h ⊢

/-- Whether a write to a register of a page waits for the die-to-die link is asked of that register (R17). -/
theorem wordWaits_page {p : Port} {off pg o : Nat} (h : region51 p off = .page pg o) (u : State) :
    u.wordWaits off = u.waitsD2d pg o := by
  simp only [State.wordWaits, region51_page h .smp]

theorem wordWaits_controller {p : Port} {off pg o : Nat} (h : region51 p off = .page pg o) (hc : companionPage pg = false) (u : State) :
    u.wordWaits off = false := (wordWaits_page h u).trans (waitsD2d_never (.inl hc))

theorem wordWaits_reserved {p : Port} {off : Nat} (h : region51 p off = .reserved) (u : State) : u.wordWaits off = false := by
  unfold State.wordWaits
  split
  · next hr => rw [region51_page hr p] at h; cases h
  · rfl

/-- A register write that does not wait for the link is decided at once. -/
theorem exec_registerWrite {t : Time} {s u : State} (hf : Finds t s u) {p : Port} {off : Nat}
    (hw : (u.portServed p && u.wordWaits off) = false) (be : Nat) (v : Word) :
    exec (.registerWrite t p off be v) s = .next (s.done (u.writeAt mbGoAct p off be v).2) := by
  calc exec (.registerWrite t p off be v) s = execRegisterWrite t p off be v s := rfl
    _ = .next (s.done _) := nxt_finds hf _
    _ = .next (s.done (u.writeAt mbGoAct p off be v).2) := by simp [hw]

theorem writeAt_unserved {u : State} {p : Port} (h : u.portServed p = false) (mb : Bool → Act) (off be : Nat) (v : Word) :
    u.writeAt mb p off be v = (none, u) := by
  simp [State.writeAt, h]

theorem writeAt_reserved {u : State} {p : Port} {off : Nat} (h : u.portServed p = true) (hr : region51 p off = .reserved)
    (mb : Bool → Act) (be : Nat) (v : Word) : u.writeAt mb p off be v = (some BAD_ARG, u.err PG_SYS BAD_ARG) := by
  simp [State.writeAt, h, hr]

theorem writeAt_page {u : State} {p : Port} {off pg o : Nat} (h : u.portServed p = true) (hr : region51 p off = .page pg o)
    (mb : Bool → Act) (be : Nat) (v : Word) : u.writeAt mb p off be v = u.pageWrite mb p pg o be v := by
  simp [State.writeAt, h, hr]

/-- A write that a rule of access stops only shows its code, where it neither gates an island (R346) nor asks for an AUX
transaction of a secure-owned page (R275). -/
theorem pageWrite_refused {u : State} {p : Port} {pg o be c cap : Nat} (hc : u.writeCode (portSecure p) pg o be = some (c, cap))
    (hg : o ≠ 0x08 ∨ be ≠ 15) (ha : pageType pg ≠ 0x0E ∨ be ≠ 15 ∨ c ≠ SECURE_DENIED) (mb : Bool → Act) (v : Word) :
    u.pageWrite mb p pg o be v = (some c, u.err cap c) := by
  have h1 : (decide (o = 0x08) && decide (be = 15) && u.gates p pg (bits v 0 1 = 1)) = false := by
    rcases hg with h | h <;> simp [h]
  have h2 : (decide (pageType pg = 0x0E) && decide (o = 0x60) && decide (be = 15) && decide (bits v 31 1 = 1) &&
      decide (c = SECURE_DENIED)) = false := by
    rcases ha with h | h | h <;> simp [h]
  simp only [State.pageWrite, h1, hc, h2, Bool.false_eq_true, if_false]

/-- A register write that a rule of access stops. -/
theorem exec_registerWrite_refused {t : Time} {s u : State} (hf : Finds t s u) {p : Port} {off pg o be c cap : Nat}
    (hp : u.portServed p = true) (hw : u.wordWaits off = false) (hr : region51 p off = .page pg o)
    (hc : u.writeCode (portSecure p) pg o be = some (c, cap)) (hg : o ≠ 0x08 ∨ be ≠ 15)
    (ha : pageType pg ≠ 0x0E ∨ be ≠ 15 ∨ c ≠ SECURE_DENIED) (v : Word) :
    exec (.registerWrite t p off be v) s = .next (s.done (u.err cap c)) := by
  rw [exec_registerWrite hf (by simp [hw]), writeAt_page hp hr, pageWrite_refused hc hg ha]

theorem writeCode_partial {u : State} {sec : Bool} {p off be : Nat} (hl : (companionPage p && !sysHeld off && !u.d2dOk) = false)
    (he : regExists p off = true) (hb : be ≠ 15) : u.writeCode sec p off be = some (BAD_ARG, p) := by
  simp [State.writeCode, hl, he, hb]

theorem writeCode_missing {u : State} {sec : Bool} {p off be : Nat} (hl : companionPage p = false) (he : regExists p off = false) :
    u.writeCode sec p off be = some (BAD_ARG, PG_SYS) := by
  simp [State.writeCode, hl, he]

/-- The secure-only pages are SEC, DEBUG and JRN_S (R54). -/
theorem secureOnlyPage_cases {p : Nat} (h : secureOnlyPage p = true) : p = PG_SEC ∨ p = PG_DEBUG ∨ p = PG_JRN_S := by
  simpa [secureOnlyPage, or_assoc] using h

theorem companionPage_of_secureOnly {p : Nat} (h : secureOnlyPage p = true) : companionPage p = false := by
  rcases secureOnlyPage_cases h with rfl | rfl | rfl <;> rfl

theorem writeCode_secureOnly {u : State} {p off : Nat} (he : regExists p off = true) (hs : secureOnlyPage p = true) :
    u.writeCode false p off 15 = some (SECURE_DENIED, p) := by
  have hu : (decide (p = 15) || decide (p = 17)) = false := by
    rcases secureOnlyPage_cases hs with rfl | rfl | rfl <;> rfl
  simp [State.writeCode, companionPage_of_secureOnly hs, he, hu, State.worldDenied, hs]

theorem pageType_of_secureOnly {p : Nat} (h : secureOnlyPage p = true) : pageType p ≠ 0x0E := by
  rcases secureOnlyPage_cases h with rfl | rfl | rfl <;> decide

/-- Settles O45: each rule gives the code with which the write stops. -/
theorem accessRules : Obligations.AccessRules := by
  intro t s u hf
  refine ⟨fun off be v hm => ?_, fun p pg o off be v hp hw hr he hl hb => ?_, fun p off be v hp hr => ?_,
    fun p pg o off be v hp hr he hc ho => ?_, fun p pg o off v hp hsec hr he hs ho => ?_⟩
  · have hp : u.portServed .bar0 = false := by simp [State.portServed, hm]
    rw [exec_registerWrite hf (by simp [hp]), writeAt_unserved hp]
  · exact exec_registerWrite_refused hf hp hw hr (writeCode_partial hl he hb) (.inr hb) (.inr (.inl hb)) v
  · rw [exec_registerWrite hf (by simp [wordWaits_reserved hr]), writeAt_reserved hp hr]
  · have hw := wordWaits_controller hr hc u
    exact exec_registerWrite_refused hf hp hw hr (writeCode_missing hc he) (.inl ho) (.inr (.inr (by decide))) v
  · have hw := wordWaits_controller hr (companionPage_of_secureOnly hs) u
    exact exec_registerWrite_refused hf hp hw hr (hsec ▸ writeCode_secureOnly he hs) (.inl ho) (.inl (pageType_of_secureOnly hs)) v

end Sys2Proof.Proofs
end

section
/-! The mode requests, the stop sequence of QUIESCE, the die-to-die link and the JTAG port (R16 to R19, R34 to R41, R348). -/

namespace Sys2Proof.Proofs

open Sys2Proof Sys2Proof.Machine Sys2Proof.Laws

/-! Refusals in the order of R75. -/

/-- A request is accepted exactly when none of the refusals that R75 orders applies. -/
theorem refusal_eq_none_iff (l : List (Bool × Nat)) : refusal l = none ↔ ∀ x ∈ l, x.2 ∈ r75 → x.1 = false := by
  simp only [refusal, List.find?_eq_none, List.any_eq_true, Bool.and_eq_true, beq_iff_eq]
  constructor
  · intro h x hx hc
    simpa using fun ht => h x.2 hc ⟨x, hx, ht, rfl⟩
  · rintro h c hc ⟨x, hx, ht, rfl⟩
    simp [h x hx hc] at ht

/-- A mode request is granted exactly when it names a mode that can be asked for, the world may ask for it, and the device is where
that mode is entered from (R34, R38, R41). -/
theorem modeCode_eq_none_iff (s : State) (sec : Bool) (n : Nat) : s.modeCode sec n = none ↔
    (n = RUNMODE ∨ n = QUIESCE ∨ n = CONFIGURE) ∧
    (n = QUIESCE → sec = true ∨ s.tf PG_SYS R.SYS_SEC_CTRL_NW_QUIESCE_OK = true) ∧
    s.tf PG_SYS R.SYS_STATE_TRANSITION = false ∧
    (n = RUNMODE → s.mode = CONFIGURE ∧ s.tf PG_SYS R.SYS_SEC_CTRL_SEC_READY = true) ∧
    (n = QUIESCE → s.mode = RUNMODE ∨ s.mode = SERVICEMODE ∨ s.mode = CONFIGURE) ∧
    (n = CONFIGURE → s.mode = QUIESCE) := by
  have hr : BAD_ARG ∈ r75 ∧ SECURE_DENIED ∈ r75 ∧ WRONG_STATE ∈ r75 := by decide
  simp only [State.modeCode, refusal_eq_none_iff, List.forall_mem_cons, hr]
  simp [or_iff_not_imp_left, and_assoc]

/-- Settles O11: the three refusals of a mode request, read at each target. -/
theorem modeCodes : Obligations.ModeCodes := by
  refine ⟨fun s sec => ?_, fun s sec => ?_, fun s sec => ?_, fun s n hr hq hc sec => ?_⟩
  · simp [modeCode_eq_none_iff]
  · simp [modeCode_eq_none_iff]
  · simp [modeCode_eq_none_iff]
  · simp [State.modeCode, refusal, r75, hr, hq, hc]

/-! Fields of the SYS page. -/

/-- Fields of a page that do not share a bit are apart. -/
theorem gf_sf_ne {s : State} {p v : Nat} {f g : Fld} (h : g.off ≠ f.off ∨ g.lo + g.len ≤ f.lo ∨ f.lo + f.len ≤ g.lo)
    (hf : f.lo + f.len ≤ 32) (hg : g.lo + g.len ≤ 32) : (s.sf p f v).gf p g = s.gf p g := by
  rcases h with h | h
  · exact gf_sf_elsewhere s p v f p g (by omega)
  · exact gf_sf_apart s p v f g hf hg h

/-- A flag that has just been stored shows what was stored. -/
theorem tf_sf_same {s : State} {p v : Nat} {f : Fld} (h : f.lo + f.len ≤ 32) : (s.sf p f v).tf p f = (v % 2 ^ f.len != 0) := by
  rw [State.tf, gf_sf_same _ _ _ _ h]

theorem tf_sf_ne {s : State} {p v : Nat} {f g : Fld} (h : g.off ≠ f.off ∨ g.lo + g.len ≤ f.lo ∨ f.lo + f.len ≤ g.lo)
    (hf : f.lo + f.len ≤ 32) (hg : g.lo + g.len ≤ 32) : (s.sf p f v).tf p g = s.tf p g := by
  rw [State.tf, gf_sf_ne h hf hg, ← State.tf]

/-- An occurrence of an event leaves every field of a quiet register as it was. -/
theorem gf_raise {p : Nat} {f : Fld} (h : Quiet (pageBase p + f.off)) (s : State) (q b : Nat) (ev : Ev) :
    (s.raise q b ev).gf p f = s.gf p f := by
  simp only [State.gf, (calm_raise (d := false) h q b ev nofun s).rd]

theorem quiet_sysState : Quiet (pageBase PG_SYS + R.SYS_STATE_MODE.off) := by unfold Quiet; decide

theorem quiet_modeReq : Quiet (pageBase PG_SYS + R.SYS_MODE_REQ_RESULT.off) := by unfold Quiet; decide

/-- The end of a transition, seen from a field of SYS_STATE: the new mode, and TRANSITION 0 (R34). -/
theorem gf_modeEnter_sysState {n : Nat} (hn : n ≠ CONFIGURE) (s : State) {f : Fld} (hf : f.off = R.SYS_STATE_MODE.off) :
    (s.modeEnter n).gf PG_SYS f = ((s.sf PG_SYS R.SYS_STATE_MODE n).sf PG_SYS R.SYS_STATE_TRANSITION 0).gf PG_SYS f := by
  simp only [State.modeEnter, hn, if_false]
  rw [gf_raise (hf ▸ quiet_sysState)]
  simp [State.gf, hf, rd_sf, State.s64, pageBase, PG_BIST]

/-- The end of a transition leaves the mode request register as it was. -/
theorem gf_modeEnter_modeReq {n : Nat} (hn : n ≠ CONFIGURE) (s : State) {f : Fld} (hf : f.off = R.SYS_MODE_REQ_RESULT.off) :
    (s.modeEnter n).gf PG_SYS f = s.gf PG_SYS f := by
  simp only [State.modeEnter, hn, if_false]
  rw [gf_raise (hf ▸ quiet_modeReq)]
  simp [State.gf, hf, rd_sf, State.s64, pageBase, PG_BIST]

theorem mode_modeEnter_run (s : State) : (s.modeEnter RUNMODE).mode = RUNMODE := by
  rw [State.mode, gf_modeEnter_sysState (by decide) s rfl, gf_sf_apart _ _ _ _ _ (by decide) (by decide) (by decide),
    gf_sf_same _ _ _ _ (by decide)]
  rfl

theorem transition_modeEnter {n : Nat} (hn : n ≠ CONFIGURE) (s : State) :
    (s.modeEnter n).tf PG_SYS R.SYS_STATE_TRANSITION = false := by
  rw [State.tf, gf_modeEnter_sysState hn s (f := R.SYS_STATE_TRANSITION) rfl, gf_sf_same _ _ _ _ (by decide)]
  rfl

/-! The requests of the mode registers. -/

/-- What a granted request for QUIESCE writes to the SYS page: SEC_READY cleared, BUSY and TRANSITION 1 (R34). -/
def quiesceFlags (s : State) : State :=
  ((((s.sf PG_SYS R.SYS_SEC_CTRL_SEC_READY 0).sf PG_SYS R.SYS_STATE_SEC_READY 0).sf PG_SYS R.SYS_MODE_REQ_BUSY 1).sf PG_SYS
    R.SYS_STATE_TRANSITION 1)

/-- QUIESCE as it begins, its deadline running (R39). -/
def quiesceShown (s : State) : State := { quiesceFlags s with quiescing := true, qcancelAt := some s.walltime }

theorem tf_quiesceShown (s : State) (f : Fld) : (quiesceShown s).tf PG_SYS f = (quiesceFlags s).tf PG_SYS f := rfl

theorem mode_quiesceShown (s : State) : (quiesceShown s).mode = s.mode := by
  change (quiesceFlags s).mode = s.mode
  simp (disch := decide) only [quiesceFlags, State.mode, gf_sf_ne]

theorem quiesceBegin_eq (s : State) : s.quiesceBegin = (quiesceShown s).testsEnd.rangeEnd CANCELLED := rfl

/-- A granted request for QUIESCE (R34, R39). -/
theorem modeGo_quiesce (s : State) :
    s.modeGo QUIESCE = (quiesceShown (s.sf PG_SYS R.SYS_MODE_REQ_RESULT OK)).testsEnd.rangeEnd CANCELLED := by
  unfold State.modeGo
  dsimp only
  rw [if_pos rfl, quiesceBegin_eq]

/-- A granted request for RUN: it is entered at once (R34). -/
theorem modeGo_run (s : State) :
    s.modeGo RUNMODE = ((s.sf PG_SYS R.SYS_MODE_REQ_RESULT OK).modeEnter RUNMODE).serviceCount.modeFollow := by
  unfold State.modeGo
  dsimp only
  rw [if_neg (by decide), if_pos rfl]

/-- A granted request for CONFIGURE: memory leaves self-refresh and the heads in RUN relock on the way (R378). -/
theorem modeGo_configure (s : State) :
    s.modeGo CONFIGURE = (State.modeEnter CONFIGURE (forNat 8 (fun h v => if v.headSt h = hRUN then v.goRelock h else v)
      ((s.sf PG_SYS R.SYS_MODE_REQ_RESULT OK).sf PG_SYS R.SYS_STATE_TRANSITION 1).leaveRefresh)).modeFollow := by
  unfold State.modeGo
  dsimp only
  rw [if_neg (by decide), if_neg (by decide)]

/-- What a granted mode request does: TARGET is stored, and the mode's own effect follows. -/
theorem exec_modeReq_granted {c : Instr} {s u : State} {p : Port} {sec : Bool} {n : Nat}
    (h : Requests c s u p PG_SYS 0x44 id (modeAct sec n)) (ha : u.admits p PG_SYS 0x44) (hc : u.modeCode sec n = none) :
    exec c s = .next (s.done ((u.sf PG_SYS R.SYS_MODE_REQ_TARGET n).modeGo n)) := h.1 ha hc

/-- Settles O10: each row is a request of its register, and a granted one has the effect that its mode gives it. -/
theorem modeRequests : Obligations.ModeRequests := by
  intro t s u p hf
  have reset : Requests (.deviceReset t p) s u p PG_SYS 0x48 id deviceResetAct := requests_id (.inl rfl) hf rfl
  have run : Requests (.modeReqRun t p) s u p PG_SYS 0x44 id (modeAct (portSecure p) RUNMODE) := requests_id (.inl rfl) hf rfl
  have quiesce : Requests (.modeReqQuiesce t p) s u p PG_SYS 0x44 id (modeAct (portSecure p) QUIESCE) := requests_id (.inl rfl) hf rfl
  have configure : Requests (.modeReqConfigure t p) s u p PG_SYS 0x44 id (modeAct (portSecure p) CONFIGURE) := requests_id (.inl rfl) hf rfl
  have ready (v : Bool) : Requests (.secReadyWrite t p v) s u p PG_SYS 0x48 id (secReadyAct v) := requests_id (.inl rfl) hf rfl
  obtain ⟨codeRun, codeConfigure, codeQuiesce, -⟩ := modeCodes
  refine ⟨reset, run, quiesce, configure, ready, fun ha => reset.1 ha rfl, fun ha ht hm hr => ?_, fun ha hw ht hm => ?_,
    fun ha ht hm => ?_, fun ha => (ready true).1 ha rfl, fun ha => (ready false).1 ha rfl⟩
  · have e := exec_modeReq_granted run ha ((codeRun u _).2 ⟨ht, hm, hr⟩)
    rw [modeGo_run] at e
    refine ⟨_, e, rfl, mode_modeEnter_run _, ?_, transition_modeEnter (by decide) _⟩
    rw [gf_modeEnter_modeReq (by decide) _ rfl, gf_sf_same _ _ _ _ (by decide)]
    rfl
  · have e := exec_modeReq_granted quiesce ha ((codeQuiesce u _).2 ⟨hw, ht, hm⟩)
    rw [modeGo_quiesce] at e
    refine ⟨_, e, rfl, rfl, rfl, ?_, ?_, ?_, ?_, ?_⟩
    · rw [mode_quiesceShown]
      simp (disch := decide) only [State.mode, gf_sf_ne]
    all_goals
      rw [tf_quiesceShown]
      simp (disch := decide) [quiesceFlags, tf_sf_ne, tf_sf_same]
  · have e := exec_modeReq_granted configure ha ((codeConfigure u _).2 ⟨ht, hm⟩)
    rwa [modeGo_configure] at e

/-! The stop sequence of QUIESCE (R39). -/

/-- Before its deadline, and where QUIESCE is not being entered, no list is cancelled. -/
theorem quiesceCancel_idle {u : State} (h : u.quiescing = false ∨ u.qcancelAt = none) : u.quiesceCancel = u := by
  unfold State.quiesceCancel
  cases hc : u.qcancelAt with
  | none => rfl
  | some a =>
    have hq : u.quiescing = false := by simpa [hc] using h
    simp [hq]

theorem quiesceCancel_due {u : State} {a : Time} (hc : u.qcancelAt = some a) (hq : u.quiescing = true) (ht : a + 10000000 ≤ u.walltime)
    {qs ids : List Nat} (hqs : qs = (u.lists.filter fun x => x.2.st != .idle).map (·.1))
    (hids : ids = u.cmdsWhere (fun c => qs.contains c.q && (c.op = 0x40 || c.op = 0x41 || c.op = 0x42))) :
    u.quiesceCancel =
      { forEach ids (fun id v => v.cmdDone id CANCELLED 0) (forEach qs (fun q v => v.cancelList q) u) with qcancelAt := none } := by
  subst hids hqs
  have hd : (!u.quiescing || decide (u.walltime < a + 10000000)) = false := by simp [hq]; omega
  simp only [State.quiesceCancel, hc, hd, Bool.false_eq_true, if_false]

theorem quiesceDone_idle {u : State} (h : u.quiescing = false ∨ u.wbuf ≠ [] ∨ u.wwait ≠ []) : u.quiesceDone = u := by
  have hd : (!u.quiescing || !u.wbuf.isEmpty || !u.wwait.isEmpty) = true := by simpa [or_assoc] using h
  simp only [State.quiesceDone, hd, Bool.true_or, if_true]

theorem quiesceDone_drained {u : State} (hq : u.quiescing = true) (hb : u.wbuf = []) (hw : u.wwait = [])
    (hl : ∀ p ∈ u.lists, p.2.st = .idle) :
    u.quiesceDone = ((({ u with quiescing := false, qcancelAt := none }.selfRefresh.sf PG_SYS R.SYS_MODE_REQ_BUSY 0).modeEnter
      QUIESCE).consoleMode.headsEval) := by
  have ha : (u.lists.any fun p => p.2.st != .idle) = false := by simpa using hl
  simp only [State.quiesceDone, hq, hb, hw, ha, List.isEmpty_nil, Bool.not_true, Bool.or_false, Bool.false_eq_true, if_false]

/-! The die-to-die link (R16 to R19). -/

theorem d2dReplay_down {u : State} (h : u.tf PG_SYS R.SYS_D2D_STATUS_LINK_UP = false) (n : Nat) : u.d2dReplay n = u := by
  simp [State.d2dReplay, h]

theorem d2dReplay_few {u : State} (h : u.tf PG_SYS R.SYS_D2D_STATUS_LINK_UP = true) {n : Nat} (hn : n < 8) :
    u.d2dReplay n = u.bump PG_SYS R.SYS_D2D_STATUS_REPLAY_COUNT 1 := by
  simp [State.d2dReplay, h, hn]

/-- The eighth replay in a row takes the link down, and its retraining begins (R16, R17). -/
theorem d2dReplay_eighth {u : State} (h : u.tf PG_SYS R.SYS_D2D_STATUS_LINK_UP = true) {n : Nat} (hn : 8 ≤ n) :
    u.d2dReplay n = { u.bump PG_SYS R.SYS_D2D_STATUS_REPLAY_COUNT 1 with d2dTrying := true, d2dTryAt := u.walltime }.d2dDown := by
  have hn' : ¬n < 8 := by omega
  simp only [State.d2dReplay, h, hn', Bool.not_true, Bool.false_eq_true, if_false]
  rfl

theorem d2dUp_up {u : State} (h : u.tf PG_SYS R.SYS_D2D_STATUS_LINK_UP = true) : u.d2dUp = u := by
  simp [State.d2dUp, h]

theorem d2dUp_down {u : State} {t0 : Time} (h : u.tf PG_SYS R.SYS_D2D_STATUS_LINK_UP = false) (h0 : u.d2dDownAt = some t0) :
    u.d2dUp = (forEach u.onlyR18 State.r18Return ({ (u.sf PG_SYS R.SYS_D2D_STATUS_LINK_UP 1).sf PG_SYS R.SYS_STATE_D2D_UP 1 with
      d2dTrying := false, d2dFailed := false, d2dDownAt := none, onlyR18 := [] }.raise PG_SYS 4
        { d6 := (u.walltime - t0) / 1000 })).reportsOut.scanCheck := by
  simp only [State.d2dUp, h, h0, Bool.false_eq_true, if_false]
  rfl

theorem d2dFail_again {u : State} (hf : u.d2dFailed = true) (ht : u.d2dTrying = false) : u.d2dFail = u := by
  simp [State.d2dFail, hf, ht]

/-- A retraining has failed: the console pages are put in FAULT (R18). -/
theorem d2dFail_trying {u v : State} (ht : u.d2dTrying = true) (hv : v = { u.d2dDown with d2dTrying := false, d2dFailed := true }) :
    u.d2dFail = forEach [96, 97, 98, 99, 100] State.r18Fault
      (v.raise PG_SYS 3 { d6 := v.gf PG_SYS R.SYS_D2D_STATUS_REPLAY_COUNT }) := by
  have e : ({ u with d2dTryAt := if u.d2dTrying then u.d2dTryAt else u.walltime } : State) = u := by rw [if_pos ht]
  have hg (w : State) : ({ w with d2dTrying := false, d2dFailed := true } : State).gf PG_SYS R.SYS_D2D_STATUS_REPLAY_COUNT =
    w.gf PG_SYS R.SYS_D2D_STATUS_REPLAY_COUNT := rfl
  unfold State.d2dFail
  rw [if_neg (by simp [ht]), e, hv, hg]

theorem d2dRetry_idle {u : State} (h : u.d2dFailed = false ∨ u.d2dTrying = true ∨ u.walltime < u.d2dTryAt + 100000000) :
    u.d2dRetry = u := by
  have hd : (u.d2dFailed && !u.d2dTrying && decide (u.d2dTryAt + 100000000 ≤ u.walltime)) = false := by
    rcases h with h | h | h <;> simp [h]
  simp only [State.d2dRetry, hd, Bool.false_eq_true, if_false]

theorem d2dRetry_due {u : State} (hf : u.d2dFailed = true) (ht : u.d2dTrying = false) (h : u.d2dTryAt + 100000000 ≤ u.walltime) :
    u.d2dRetry = { u with d2dTrying := true, d2dTryAt := u.walltime } := by
  simp [State.d2dRetry, hf, ht, h]

/-- Settles O12: each event is its operation on the state that it finds. -/
theorem systemEvents : Obligations.SystemEvents := by
  intro t s u hf
  have cancel : exec (.quiesceListCancel t) s = .next (s.done u.quiesceCancel) := nxt_finds hf State.quiesceCancel
  have drained : exec (.writeBufferDrained t) s = .next (s.done u.quiesceDone) := nxt_finds hf State.quiesceDone
  have replay (n : Nat) : exec (.d2dTransferError t n) s = .next (s.done (u.d2dReplay n)) := nxt_finds hf fun v => v.d2dReplay n
  have up : exec (.d2dLinkUp t) s = .next (s.done u.d2dUp.serveAllHeld) := nxt_finds hf fun v => v.d2dUp.serveAllHeld
  have down : exec (.d2dLinkDown t) s = .next (s.done u.d2dFail.serveAllHeld) := nxt_finds hf fun v => v.d2dFail.serveAllHeld
  have retry : exec (.d2dRetrainTimer t) s = .next (s.done u.d2dRetry) := nxt_finds hf State.d2dRetry
  rw [cancel, drained, up, down, retry]
  simp only [replay]
  refine ⟨?_, ?_, ?_, ?_, ?_, ?_, ?_, ?_, ?_, ?_, ?_, ?_, ?_, ?_, ?_⟩
  · exact fun a qs ids hc hq ht hqs hids => by rw [quiesceCancel_due hc hq ht hqs hids]
  · exact fun h => by rw [quiesceCancel_idle h]
  · exact fun hq hb hw hl => by rw [quiesceDone_drained hq hb hw hl]
  · exact fun h => by rw [quiesceDone_idle h]
  · exact fun n hn h => by rw [d2dReplay_few h hn]
  · exact fun n hn h => by rw [d2dReplay_eighth h hn]
  · exact fun n h => by rw [d2dReplay_down h]
  · exact fun t0 h h0 => by rw [d2dUp_down h h0]
  · exact fun h => by rw [d2dUp_up h]
  · exact fun hf ht => by rw [d2dFail_again hf ht]
  · exact fun ht => ⟨_, rfl, by rw [d2dFail_trying ht rfl]⟩
  · exact fun hf ht hd => by rw [d2dRetry_due hf ht hd]
  · exact fun h => by rw [d2dRetry_idle h]
  · exact fun ir => nxt_finds hf fun v => { v.restart v.mode with jtagHold := true, tapIr := ir }
  · exact nxt_finds hf fun v => { v with jtagHold := false, tapReset := false, tapIr := .idcode }

end Sys2Proof.Proofs
end

section
/-! Bits, fields and pairs read back, and the states that differ from another in registers only. -/

namespace Sys2Proof.Proofs

open Sys2Proof Sys2Proof.Machine Sys2Proof.Laws

/-! Single bits of a number. -/

theorem setBit_true_of_clear {n i : Nat} (h : bit n i = false) : setBit n i true = n + 2 ^ i := by
  simp [setBit, h]

/-- A bit that is clear can be set within the width. -/
theorem add_two_pow_lt {n i w : Nat} (hi : i < w) (hn : n < 2 ^ w) (h : bit n i = false) : n + 2 ^ i < 2 ^ w := by
  have hpos : 0 < 2 ^ i := by positivity
  have hw : 2 ^ w = 2 * 2 ^ (w - i - 1) * 2 ^ i := by
    rw [← Nat.pow_succ', ← Nat.pow_add]; congr 1; omega
  have hq : n / 2 ^ i < 2 * 2 ^ (w - i - 1) := Nat.div_lt_of_lt_mul (by rwa [Nat.mul_comm, ← hw])
  have he : n / 2 ^ i % 2 ≠ 1 := by simpa [bit] using h
  have hlt : (n + 2 ^ i) / 2 ^ i < 2 * 2 ^ (w - i - 1) := by
    rw [Nat.add_div_right _ hpos]; omega
  rw [hw]
  exact (Nat.div_lt_iff_lt_mul hpos).1 hlt

/-- A bit reads back what it was set to. -/
theorem bit_setBit (n i : Nat) (v : Bool) : bit (setBit n i v) i = v := by
  have hpos : 0 < 2 ^ i := by positivity
  unfold setBit
  cases h : bit n i <;> cases v
  · simpa using h
  · have hq : n / 2 ^ i % 2 ≠ 1 := by simpa [bit] using h
    simp only [Bool.false_eq_true, if_false, if_true, bit, Nat.add_div_right _ hpos, beq_iff_eq]
    omega
  · have hq : n / 2 ^ i % 2 = 1 := by simpa [bit] using h
    have hs : (n - 2 ^ i) / 2 ^ i = n / 2 ^ i - 1 := by simpa using Nat.sub_mul_div n (2 ^ i) 1
    simp only [if_true, Bool.false_eq_true, if_false, bit, hs, beq_eq_false_iff_ne]
    omega
  · simpa using h

/-- The bits below a width are those of the number at that width. -/
theorem bit_mod_two_pow {i w : Nat} (n : Nat) (h : i < w) : bit (n % 2 ^ w) i = bit n i := by
  have e (m : Nat) : bit m i = m.testBit i := by
    simp [bit, Nat.testBit_eq_decide_div_mod_eq, Bool.beq_eq_decide_eq]
  simp [e, Nat.testBit_mod_two_pow, h]

/-- A bit of a field that has just been stored. -/
theorem bit_gf_sf_setBit (s : State) (p n i : Nat) (f : Fld) (b : Bool) (h : f.lo + f.len ≤ 32) (hi : i < f.len) :
    bit ((s.sf p f (setBit n i b)).gf p f) i = b := by
  rw [gf_sf_same _ _ _ _ h, bit_mod_two_pow _ hi, bit_setBit]

/-! Fields and pairs. -/

/-- A flag that has just been raised or cleared. -/
theorem tf_sf_flag (s : State) (p : Nat) {f : Fld} (h : f.lo + f.len ≤ 32) (h1 : f.len = 1) (b : Bool) :
    (s.sf p f (if b = true then 1 else 0)).tf p f = b := by
  rw [tf_sf_same h, h1]
  cases b <;> rfl

/-- A pair that has just been stored reads back at its width (R56). -/
theorem g64_s64_same (s : State) (p v : Nat) {lo hi : Fld} (hl : lo.lo + lo.len ≤ 32) (hlen : lo.len = 32) (hh : hi.lo + hi.len ≤ 32)
    (hhen : hi.len = 32) (ho : lo.off ≠ hi.off) : (s.s64 p lo hi v).g64 p lo hi = v % 2 ^ 64 := by
  have elo : (s.s64 p lo hi v).gf p lo = v % 4294967296 := by
    rw [State.s64, gf_sf_ne (.inl ho) hh hl, gf_sf_same _ _ _ _ hl, hlen]
    rfl
  have ehi : (s.s64 p lo hi v).gf p hi = v / 4294967296 % 4294967296 := by
    rw [State.s64, gf_sf_same _ _ _ _ hh, hhen]
    rfl
  rw [State.g64, elo, ehi]
  omega

/-- A saturating count moves up by one, and stays at its greatest value. -/
theorem gf_bump_same (s : State) (p n : Nat) {f : Fld} (h : f.lo + f.len ≤ 32) :
    (s.bump p f n).gf p f = min (s.gf p f + n) (2 ^ f.len - 1) := by
  have hlt : min (s.gf p f + n) (2 ^ f.len - 1) < 2 ^ f.len := by
    have : 0 < 2 ^ f.len := by positivity
    omega
  rw [State.bump, gf_sf_same _ _ _ _ h, satAdd, Nat.mod_eq_of_lt hlt]

/-! States in which some registers differ, and nothing else. -/

theorem onlyWrites_refl (s : State) : s.onlyWrites s [] := ⟨rfl, fun _ _ => rfl⟩

theorem onlyWrites_wr (s : State) (k : Nat) (w : Word) : s.onlyWrites (s.wr k w) [k] :=
  ⟨rfl, fun _ hj => rd_wr_other s k w (List.ne_of_not_mem_cons hj)⟩

theorem onlyWrites_sf (s : State) (p : Nat) (f : Fld) (v : Nat) : s.onlyWrites (s.sf p f v) [pageBase p + f.off] := onlyWrites_wr s _ _

theorem onlyWrites_bump (s : State) (p : Nat) (f : Fld) (n : Nat) : s.onlyWrites (s.bump p f n) [pageBase p + f.off] :=
  onlyWrites_sf s p f _

theorem onlyWrites_s64 (s : State) (p : Nat) (lo hi : Fld) (v : Nat) :
    s.onlyWrites (s.s64 p lo hi v) [pageBase p + lo.off, pageBase p + hi.off] := by
  refine ⟨rfl, fun k hk => ?_⟩
  simp only [List.mem_cons, List.not_mem_nil, or_false, not_or] at hk
  rw [State.s64, rd_sf_other _ _ _ _ hk.2, rd_sf_other _ _ _ _ hk.1]

/-- Changes of registers one after the other change the registers of both. -/
theorem onlyWrites_trans {s v w : State} {ks ls : List Nat} (a : s.onlyWrites v ks) (b : v.onlyWrites w ls) :
    s.onlyWrites w (ks ++ ls) := by
  obtain ⟨hv, hrv⟩ := a
  obtain ⟨hw, hrw⟩ := b
  refine ⟨hw.trans (by rw [hv]), fun k hk => ?_⟩
  rw [List.mem_append, not_or] at hk
  exact (hrw k hk.2).trans (hrv k hk.1)

theorem onlyWrites_mono {s v : State} {ks ls : List Nat} (a : s.onlyWrites v ks) (h : ks ⊆ ls) : s.onlyWrites v ls :=
  ⟨a.1, fun k hk => a.2 k fun hm => hk (h hm)⟩

/-- A field of a register that is none of those reads as before. -/
theorem gf_onlyWrites {s v : State} {ks : List Nat} (a : s.onlyWrites v ks) {p : Nat} {f : Fld} (h : pageBase p + f.off ∉ ks) :
    v.gf p f = s.gf p f := by
  simp only [State.gf, a.2 _ h]

/-- The end of a command that has changed registers only adds nothing. -/
theorem exec_onlyWrites {t : Time} {c : Instr} {s u w : State} {ks : List Nat} (hf : Finds t s u) (hd : s.deferred = [])
    (h : u.onlyWrites w ks) (e : exec c s = .next (s.done w)) : exec c s = .next w ∧ u.onlyWrites w ks := by
  obtain ⟨hr, rfl⟩ := hf
  refine ⟨?_, h⟩
  have hw := h.1
  have hwd : w.deferred = [] := by rw [hw]; exact hd
  rw [e, done_idle hwd, hw, ← hr]
  rfl

end Sys2Proof.Proofs
end

section
/-! Occurrences of events and errors of a page (R67, R76). -/

namespace Sys2Proof.Proofs

open Sys2Proof Sys2Proof.Machine Sys2Proof.Laws

/-! Occurrences of events (R67). -/

/-- The page shows the time of an occurrence in LAST_EVT_TIME (R67). -/
def stampEvt (p : Nat) (s : State) : State :=
  s.s64 p R.LAST_EVT_TIME_LO_TIME R.LAST_EVT_TIME_HI_TIME (s.localTime (islandOf p))

theorem onlyWrites_stampEvt (p : Nat) (s : State) : s.onlyWrites (stampEvt p s) [pageBase p + 0x28, pageBase p + 0x2C] :=
  onlyWrites_s64 s p _ _ _

theorem gf_stampEvt (p : Nat) (s : State) {f : Fld} (h : f.off ≠ 0x28) (h' : f.off ≠ 0x2C) : (stampEvt p s).gf p f = s.gf p f :=
  gf_onlyWrites (onlyWrites_stampEvt p s) (by simp [h, h'])

theorem g64_stampEvt (p : Nat) (s : State) : (stampEvt p s).g64 p R.LAST_EVT_TIME_LO_TIME R.LAST_EVT_TIME_HI_TIME =
    s.localTime (islandOf p) % 2 ^ 64 :=
  g64_s64_same s p _ (by decide) rfl (by decide) rfl (by decide)

/-- LAST_EVT_TIME stands whatever other register of the page is written. -/
theorem lastEvtTime_sf (s : State) (p v : Nat) {f : Fld} (h : f.off ≠ 0x28) (h' : f.off ≠ 0x2C) :
    (s.sf p f v).g64 p R.LAST_EVT_TIME_LO_TIME R.LAST_EVT_TIME_HI_TIME = s.g64 p R.LAST_EVT_TIME_LO_TIME R.LAST_EVT_TIME_HI_TIME := by
  simp only [State.g64]
  rw [gf_sf_elsewhere _ _ _ _ _ _ (by simpa using h.symm), gf_sf_elsewhere _ _ _ _ _ _ (by simpa using h'.symm)]

/-- An occurrence that finds its bit 1 is a missed one. -/
theorem flagEvt_again {s : State} {p b : Nat} (h : bit (s.gf p R.EVT_RAW_RAW) b = true) :
    s.flagEvt p b = ((stampEvt p s).bump p R.EVT_MISS_COUNT 1).sf p R.EVT_MISS_LAST_BIT b := by
  have h' : bit ((stampEvt p s).gf p R.EVT_RAW_RAW) b = true := by rwa [gf_stampEvt p s (by decide) (by decide)]
  exact if_pos h'

/-- An occurrence that finds its bit 0 sets it. -/
theorem flagEvt_first {s : State} {p b : Nat} (h : bit (s.gf p R.EVT_RAW_RAW) b = false) :
    s.flagEvt p b = (stampEvt p s).sf p R.EVT_RAW_RAW (s.gf p R.EVT_RAW_RAW + 2 ^ b) := by
  have e : (stampEvt p s).gf p R.EVT_RAW_RAW = s.gf p R.EVT_RAW_RAW := gf_stampEvt p s (by decide) (by decide)
  have h' : ¬bit ((stampEvt p s).gf p R.EVT_RAW_RAW) b = true := by simp [e, h]
  have f : s.flagEvt p b = (stampEvt p s).sf p R.EVT_RAW_RAW (setBit ((stampEvt p s).gf p R.EVT_RAW_RAW) b true) := if_neg h'
  rw [f, e, setBit_true_of_clear h]

theorem raise_unrecorded {s : State} {p b : Nat} (h : s.recordDue p b = false) (ev : Ev) : s.raise p b ev = s.flagEvt p b := by
  simp [State.raise, h]

theorem raise_recorded {s : State} {p b : Nat} (h : s.recordDue p b = true) (ev : Ev) :
    s.raise p b ev = (s.flagEvt p b).emit p (evCode p b) ev := by
  simp [State.raise, h]

/-- What a missed occurrence changes: EVT_MISS and LAST_EVT_TIME. -/
theorem flagEvt_again_frame {s : State} {p b : Nat} (h : bit (s.gf p R.EVT_RAW_RAW) b = true) :
    s.onlyWrites (s.flagEvt p b) [pageBase p + 0x28, pageBase p + 0x2C, pageBase p + 0x1C] := by
  rw [flagEvt_again h]
  refine onlyWrites_mono (onlyWrites_trans (onlyWrites_trans (onlyWrites_stampEvt p s) (onlyWrites_bump _ p R.EVT_MISS_COUNT 1))
    (onlyWrites_sf _ p R.EVT_MISS_LAST_BIT b)) ?_
  simp

/-- What a first occurrence changes: EVT_RAW and LAST_EVT_TIME. -/
theorem flagEvt_first_frame {s : State} {p b : Nat} (h : bit (s.gf p R.EVT_RAW_RAW) b = false) :
    s.onlyWrites (s.flagEvt p b) [pageBase p + 0x28, pageBase p + 0x2C, pageBase p + 0x10] := by
  rw [flagEvt_first h]
  exact onlyWrites_trans (onlyWrites_stampEvt p s) (onlyWrites_sf _ p R.EVT_RAW_RAW _)

theorem lastEvtTime_flagEvt (s : State) (p b : Nat) : (s.flagEvt p b).g64 p R.LAST_EVT_TIME_LO_TIME R.LAST_EVT_TIME_HI_TIME =
    s.localTime (islandOf p) % 2 ^ 64 := by
  cases h : bit (s.gf p R.EVT_RAW_RAW) b with
  | true =>
    rw [flagEvt_again h, lastEvtTime_sf _ _ _ (by decide) (by decide), State.bump, lastEvtTime_sf _ _ _ (by decide) (by decide),
      g64_stampEvt]
  | false => rw [flagEvt_first h, lastEvtTime_sf _ _ _ (by decide) (by decide), g64_stampEvt]

theorem missCount_flagEvt {s : State} {p b : Nat} (h : bit (s.gf p R.EVT_RAW_RAW) b = true) :
    (s.flagEvt p b).gf p R.EVT_MISS_COUNT = min (s.gf p R.EVT_MISS_COUNT + 1) (2 ^ 24 - 1) := by
  rw [flagEvt_again h, gf_sf_ne (by decide) (by decide) (by decide), gf_bump_same _ _ _ (by decide),
    gf_stampEvt p s (by decide) (by decide)]

theorem missLastBit_flagEvt {s : State} {p b : Nat} (h : bit (s.gf p R.EVT_RAW_RAW) b = true) (hb : b < 32) :
    (s.flagEvt p b).gf p R.EVT_MISS_LAST_BIT = b := by
  rw [flagEvt_again h, gf_sf_same _ _ _ _ (by decide)]
  exact Nat.mod_eq_of_lt hb

theorem raw_flagEvt_first {s : State} {p b : Nat} (h : bit (s.gf p R.EVT_RAW_RAW) b = false) (hb : b < 32) :
    (s.flagEvt p b).gf p R.EVT_RAW_RAW = s.gf p R.EVT_RAW_RAW + 2 ^ b := by
  rw [flagEvt_first h, gf_sf_same _ _ _ _ (by decide)]
  exact Nat.mod_eq_of_lt (add_two_pow_lt hb (gf_lt s p R.EVT_RAW_RAW) h)

/-- Settles O46: the occurrence is its flag alone where no record is due, and the flag changes LAST_EVT_TIME and either EVT_MISS or
EVT_RAW. -/
theorem eventRule : Obligations.EventRule := by
  intro s p b ev hb
  refine ⟨fun hr => ?_, fun hr he => ?_, fun hr he => ?_⟩
  · have hframe := flagEvt_again_frame hr
    refine ⟨s.flagEvt p b, raise_unrecorded (by simp [State.recordDue, hr]) ev, hframe.1, gf_onlyWrites hframe (by simp),
      missCount_flagEvt hr, missLastBit_flagEvt hr hb, lastEvtTime_flagEvt s p b, fun k h1 h2 h3 => hframe.2 k ?_⟩
    simp [h1, h2, h3]
  · have hframe := flagEvt_first_frame hr
    refine ⟨s.flagEvt p b, raise_unrecorded (by simp [State.recordDue, he]) ev, hframe.1, raw_flagEvt_first hr hb,
      lastEvtTime_flagEvt s p b, fun k h1 h2 h3 => hframe.2 k ?_⟩
    simp [h1, h2, h3]
  · exact raise_recorded (by simp [State.recordDue, hr, he]) ev

/-! Errors of a page (R76). -/

/-- What the capture of an error stores: its code and DETAIL, with VALID (R76). -/
def captureErr (p c d : Nat) (s : State) : State :=
  ((s.sf p R.ERR_CAPTURE_CODE c).sf p R.ERR_CAPTURE_DETAIL d).sf p R.ERR_CAPTURE_VALID 1

theorem errCode_captureErr (s : State) (p d : Nat) {c : Nat} (h : c < 256) : (captureErr p c d s).gf p R.ERR_CAPTURE_CODE = c := by
  rw [captureErr, gf_sf_ne (by decide) (by decide) (by decide), gf_sf_ne (by decide) (by decide) (by decide),
    gf_sf_same _ _ _ _ (by decide)]
  exact Nat.mod_eq_of_lt h

theorem errValid_captureErr (s : State) (p c d : Nat) : (captureErr p c d s).tf p R.ERR_CAPTURE_VALID = true := by
  rw [captureErr, tf_sf_same (by decide)]
  rfl

theorem errCount_captureErr (s : State) (p c d : Nat) : (captureErr p c d s).gf p R.ERR_COUNT_ERRORS = s.gf p R.ERR_COUNT_ERRORS := by
  simp (disch := decide) only [captureErr, gf_sf_ne]

theorem errValid_bump (s : State) (p : Nat) : (s.bump p R.ERR_COUNT_ERRORS 1).tf p R.ERR_CAPTURE_VALID = s.tf p R.ERR_CAPTURE_VALID :=
  tf_sf_ne (by decide) (by decide) (by decide)

/-- While a capture is held an error is counted only. -/
theorem err_counted {s : State} {p : Nat} (h : s.tf p R.ERR_CAPTURE_VALID = true) (c : Nat) :
    s.err p c = s.bump p R.ERR_COUNT_ERRORS 1 :=
  if_pos ((errValid_bump s p).trans h)

/-- Else it is captured too, with a DETAIL that the manual leaves open (log entry 9), and ERROR_CAPTURED is raised. -/
theorem err_captured {s : State} {p : Nat} (h : s.tf p R.ERR_CAPTURE_VALID = false) (c : Nat) :
    ∃ d, s.err p c = State.raise p 30 { d6 := c, d7 := d } (captureErr p c d (s.bump p R.ERR_COUNT_ERRORS 1).useFree) :=
  ⟨_, if_neg (by simp [errValid_bump, h])⟩

theorem lt_128_of_pageExists {p : Nat} (h : pageExists p = true) : p < 128 := by
  simp [pageExists] at h; omega

/-- An error moves the count of its page up by one, captured or not. -/
theorem errCount_err (s : State) {p : Nat} (hp : pageExists p = true) (c : Nat) :
    (s.err p c).gf p R.ERR_COUNT_ERRORS = min (s.gf p R.ERR_COUNT_ERRORS + 1) 65535 := by
  have hbump : (s.bump p R.ERR_COUNT_ERRORS 1).gf p R.ERR_COUNT_ERRORS = min (s.gf p R.ERR_COUNT_ERRORS + 1) 65535 :=
    gf_bump_same s p 1 (by decide)
  cases h : s.tf p R.ERR_CAPTURE_VALID with
  | true => rw [err_counted h, hbump]
  | false =>
    obtain ⟨d, e⟩ := err_captured h c
    rw [e, gf_raise (quiet_err (lt_128_of_pageExists hp) (.inr rfl)), errCount_captureErr, useFree_gf, hbump]

/-- Settles O47: an error is counted, and captured where no capture is held; ERROR_CAPTURED leaves the error registers as they are. -/
theorem errorRule : Obligations.ErrorRule := by
  intro s p c hp hc
  refine ⟨fun h => ?_, errCount_err s hp c, fun h => ?_⟩
  · have hframe := onlyWrites_bump s p R.ERR_COUNT_ERRORS 1
    exact ⟨_, err_counted h c, hframe.1, fun k hk => hframe.2 k (by simpa using hk)⟩
  · obtain ⟨d, e⟩ := err_captured h c
    have hq : Quiet (pageBase p + 0x20) := quiet_err (lt_128_of_pageExists hp) (.inl rfl)
    refine ⟨?_, ?_, d, _, e⟩
    · rw [e, gf_raise hq, errCode_captureErr _ _ _ hc]
    · rw [e, State.tf, gf_raise hq, ← State.tf, errValid_captureErr]

end Sys2Proof.Proofs
end

section
/-! Writes of plain fields (R57). -/

namespace Sys2Proof.Proofs

open Sys2Proof Sys2Proof.Machine Sys2Proof.Laws

/-- Bits that are none take nothing. -/
theorem putActive_zero (p off : Nat) (v : Word) (s : State) : s.putActive p off 0 v = s := by simp [State.putActive]

theorem putShadow_zero (p off : Nat) (v : Word) (s : State) : s.putShadow p off 0 v = s := by simp [State.putShadow]

theorem onlyWrites_putActive (p off m : Nat) (v : Word) (s : State) : s.onlyWrites (s.putActive p off m v) [regKey p off] := by
  unfold State.putActive
  dsimp only
  split
  · exact onlyWrites_mono (onlyWrites_refl s) (List.nil_subset _)
  · exact onlyWrites_wr s _ _

/-- The bits named take the value at once, the other bits of the register stay. -/
theorem rd_putActive_same (p off m : Nat) (v : Word) (s : State) : (s.putActive p off m v).rd (regKey p off) =
    (s.rd (regKey p off) &&& ~~~BitVec.ofNat 32 m) ||| (v &&& BitVec.ofNat 32 m) := by
  unfold State.putActive
  dsimp only
  split
  · next h => rw [h, BitVec.not_zero, BitVec.and_allOnes, BitVec.and_zero, BitVec.or_zero]
  · exact rd_wr_same s _ _

theorem rd_putActive (p off m : Nat) (v : Word) (s : State) (k : Nat) : (s.putActive p off m v).rd k =
    if k = regKey p off then (s.rd k &&& ~~~BitVec.ofNat 32 m) ||| (v &&& BitVec.ofNat 32 m) else s.rd k := by
  split
  · next h => rw [h, rd_putActive_same]
  · next h => exact (onlyWrites_putActive p off m v s).2 k (by simpa using h)

/-- A register that has RW fields only. -/
theorem putRow_rw {r : RegRow} (hw : r.w1c = 0) (hs : r.rws = 0) (hl : r.rwl = 0) (p off m : Nat) (v : Word) (s : State) :
    s.putRow r p off m v = s.putActive p off (r.rw &&& m) v := by
  simp [State.putRow, hw, hs, hl, putActive_zero, putShadow_zero]

/-- A register that has RWL fields only takes nothing once its page is locked. -/
theorem putRow_locked {r : RegRow} (hr : r.rw = 0) (hw : r.w1c = 0) (hs : r.rws = 0) {s : State} {p : Nat}
    (h : s.tf p R.LOCK_LOCKED = true) (off m : Nat) (v : Word) : s.putRow r p off m v = s := by
  simp [State.putRow, hr, hw, hs, h, putActive_zero, putShadow_zero]

/-- A write of a register that is no half of a pair, with every bit open to the writer, in range and in no hand-over. -/
theorem plainPut_open {s : State} {sec : Bool} {p off : Nat} {v : Word} {r : RegRow} (hrow : findRow (pageRows p) off = some r)
    (hlo : isPairLo p off = false) (hhi : isPairLo p (off - 4) = false) (ho : s.openBits sec p off = 0xFFFFFFFF)
    (hb : s.badBits p off v = 0) (hh : s.handingBits p off = 0) : s.plainPut sec p off v = s.putRow r p off 0xFFFFFFFF v := by
  simp [State.plainPut, hrow, hlo, hhi, ho, hb, hh]

/-- A write of an RWL register of a locked page is refused, unless its base is held. -/
theorem plainCode_locked {s : State} {sec : Bool} {p off : Nat} {v : Word} {r : RegRow} (hrow : findRow (pageRows p) off = some r)
    (hbase : s.baseHeld p off = false) (ho : s.openBits sec p off = 0xFFFFFFFF) (hb : s.badBits p off v = 0)
    (hl : s.tf p R.LOCK_LOCKED = true) (hr : r.rw = 0) (hw : r.w1c = 0) (hs : r.rws = 0) (hrwl : r.rwl ≠ 0) :
    s.plainCode sec p off v = some NO_RIGHT := by
  simp [State.plainCode, hrow, hbase, ho, hb, hl, hr, hw, hs, hrwl]

theorem baseHeld_elsewhere {p off : Nat} (h : p = PG_JRN_N ∨ p = PG_JRN_S ∨ p = PG_SEC → off ≠ 0x40 ∧ off ≠ 0x44) (s : State) :
    s.baseHeld p off = false := by
  by_cases hp : p = PG_JRN_N ∨ p = PG_JRN_S ∨ p = PG_SEC
  · obtain ⟨h0, h4⟩ := h hp
    simp [State.baseHeld, h0, h4]
  · obtain ⟨hn, hs, hc⟩ : p ≠ PG_JRN_N ∧ p ≠ PG_JRN_S ∧ p ≠ PG_SEC := by simpa using hp
    simp [State.baseHeld, hn, hs, hc]

/-- Settles O49: the row's RW bits are stored and no other, and after LOCK a row of RWL bits stores none. -/
theorem plainFields : Obligations.PlainFields := by
  intro s sec p off v r hrow hlo hhi ho hb hh hrw
  have hput := plainPut_open hrow hlo hhi ho hb hh
  refine ⟨fun hw hs hl => ?_, fun hlocked hr hw hs hrwl hbase => ?_⟩
  · have hall : r.rw &&& 0xFFFFFFFF = r.rw := (Nat.and_two_pow_sub_one_eq_mod r.rw 32).trans (Nat.mod_eq_of_lt hrw)
    rw [hput, putRow_rw hw hs hl, hall]
    exact ⟨rd_putActive p off r.rw v s, (onlyWrites_putActive p off r.rw v s).1⟩
  · have hheld := baseHeld_elsewhere hbase s
    simp only [State.plainWrite, plainCode_locked hrow hheld ho hb hlocked hr hw hs hrwl, hheld, hput,
      putRow_locked hr hw hs hlocked, Bool.false_eq_true, if_false]

end Sys2Proof.Proofs
end

section
/-! The requests of a page header and of the journals, ENABLE, and the events of a page (R57 to R70, R79, R80, R346). -/

namespace Sys2Proof.Proofs

open Sys2Proof Sys2Proof.Machine Sys2Proof.Laws

/-! Requests. -/

/-- A request whose write may wait for the die-to-die link and stores nothing of its own first (R17). -/
theorem requests_idW {t : Time} {c : Instr} {s u : State} {p : Port} {page off : Nat} {v : Word} {a : Act}
    (hf : Finds t s u) (hc : exec c s = nxt t (fun x => x.guardedW p page off v a.run) s) : Requests c s u p page off id a :=
  requests_ofW hf hc

/-- A write of PAGE_CTRL, which the SYS island holds for every page, is decided at once (R17). -/
theorem requests_ctrl {t : Time} {c : Instr} {s u : State} {p : Port} {page : Nat} {a : Act} (hf : Finds t s u)
    (hc : exec c s = nxt t (fun x => x.guarded p page 0x08 a.run) s) : Requests c s u p page 0x08 id a :=
  requests_id (.inr rfl) hf hc

/-- A request of a journal page. -/
theorem requests_journal {t : Time} {c : Instr} {s u : State} {p : Port} {page off : Nat} {a : Act} (hf : Finds t s u)
    (hj : page = PG_JRN_N ∨ page = PG_JRN_S)
    (hc : exec c s = nxt t (fun x => if page = PG_JRN_N || page = PG_JRN_S then x.guarded p page off a.run else x) s) :
    Requests c s u p page off id a := by
  have hpage : (decide (page = PG_JRN_N) || decide (page = PG_JRN_S)) = true := by simpa using hj
  refine requests_id ?_ hf (hc.trans (by simp only [hpage, if_true]))
  rcases hj with rfl | rfl <;> exact .inl rfl

/-- A request that its rules refuse. -/
theorem run_refused {a : Act} {u : State} {k : Nat} (h : a.code u = some k) : a.run u = a.refused k u := by
  rw [Act.run, h]

theorem run_granted {a : Act} {u : State} (h : a.code u = none) : a.run u = a.go u := by
  rw [Act.run, h]

/-- A QUIESCE request of the same SYS cycle that is granted has its effect first (R42). -/
theorem sameCycle_granted {u : State} {q : Port} (ha : u.admits q PG_SYS 0x44) (hc : u.modeCode (portSecure q) QUIESCE = none) :
    u.sameCycle (some q) = (u.sf PG_SYS R.SYS_MODE_REQ_TARGET QUIESCE).modeGo QUIESCE :=
  (guarded_admits _ ha).trans (run_granted (a := modeAct (portSecure q) QUIESCE) hc)

/-- A request for SERVICE or TEST that is new is decided by the page's rules (R42, R62). -/
theorem svcAct_code_new {v : State} {page : Nat} {test : Bool}
    (h : v.tf page (if test = true then R.PAGE_CTRL_TEST_REQ else R.PAGE_CTRL_SERVICE_REQ) = false) :
    (svcAct page test true).code v = v.serviceCode page test := by
  simp [svcAct, h]

/-- A request for SERVICE or TEST that comes with a granted QUIESCE finds the state after it, and is refused by it (R42). -/
theorem svc_sameCycle_refused {u v : State} {p q : Port} {page : Nat} {test : Bool} (hq : u.admits q PG_SYS 0x44)
    (hc : u.modeCode (portSecure q) QUIESCE = none) (hv : v = (u.sf PG_SYS R.SYS_MODE_REQ_TARGET QUIESCE).modeGo QUIESCE)
    (ha : v.admits p page 0x08) (hnew : v.tf page (if test = true then R.PAGE_CTRL_TEST_REQ else R.PAGE_CTRL_SERVICE_REQ) = false)
    (hne : v.serviceCode page test ≠ none) :
    ∃ k, v.serviceCode page test = some k ∧ (u.sameCycle (some q)).guarded p page 0x08 (svcAct page test true).run = v.err page k := by
  obtain ⟨k, hk⟩ := Option.ne_none_iff_exists'.1 hne
  refine ⟨k, hk, ?_⟩
  rw [sameCycle_granted hq hc, ← hv, guarded_admits _ ha, run_refused ((svcAct_code_new hnew).trans hk)]
  rfl

/-- Settles O13: each row is a request of its register, and a request for SERVICE or TEST that comes with a granted QUIESCE is decided
after it. -/
theorem pageRequests : Obligations.PageRequests := by
  intro t s u p page hf
  refine ⟨requests_ctrl hf rfl, requests_ctrl hf rfl, requests_ctrl hf rfl, fun q v hq hc hv ha hnew hne => ?_,
    fun q v hq hc hv ha hnew hne => ?_, requests_ctrl hf rfl, requests_ctrl hf rfl, requests_ctrl hf rfl,
    fun v => requests_idW hf rfl, requests_id (.inr rfl) hf rfl, requests_idW hf rfl, requests_idW hf rfl,
    fun v hj => requests_journal hf hj rfl, fun v hj => requests_journal hf hj rfl⟩
  · obtain ⟨k, hk, e⟩ := svc_sameCycle_refused (test := false) hq hc hv ha hnew hne
    exact ⟨k, hk, e ▸ nxt_finds hf fun x => (x.sameCycle (some q)).guarded p page 0x08 (svcAct page false true).run⟩
  · obtain ⟨k, hk, e⟩ := svc_sameCycle_refused (test := true) hq hc hv ha hnew hne
    exact ⟨k, hk, e ▸ nxt_finds hf fun x => (x.sameCycle (some q)).guarded p page 0x08 (svcAct page true true).run⟩

/-! ENABLE (R61, R346). -/

theorem ctrlGuarded_gates {u : State} {p : Port} {page : Nat} {en : Bool} (hp : u.portServed p = true) (hg : u.gates p page en = true)
    (go : State → State) : u.ctrlGuarded p page en go = u.gateRefused p page := by
  simp [State.ctrlGuarded, hp, hg]

theorem ctrlGuarded_free {u : State} {p : Port} {page : Nat} {en : Bool} (hg : u.gates p page en = false) (go : State → State) :
    u.ctrlGuarded p page en go = u.guarded p page 0x08 go := by
  simp [State.ctrlGuarded, hg]

/-- A write of ENABLE 1 gates no island. -/
theorem gates_enable (u : State) (p : Port) (page : Nat) : u.gates p page true = false := by
  simp [State.gates]

theorem guarded_refused {u : State} {p : Port} {page off k pg : Nat} (hp : u.portServed p = true)
    (hw : u.writeCode (portSecure p) page off 15 = some (k, pg)) (go : State → State) : u.guarded p page off go = u.err pg k := by
  simp [State.guarded, hp, hw]

/-- Settles O14: a write of PAGE_CTRL either gates a secure-owned island, or is a request of ENABLE. -/
theorem pageEnables : Obligations.PageEnables := by
  intro t s u p page hf
  have disable : exec (.pageDisable t p page) s = .next (s.done (u.ctrlGuarded p page false (disableAct page).run)) := nxt_finds hf _
  have enable : exec (.pageEnable t p page) s = .next (s.done (u.guarded p page 0x08 (enableAct page).run)) := by
    rw [← ctrlGuarded_free (gates_enable u p page)]
    exact nxt_finds hf _
  rw [disable, enable]
  refine ⟨fun hp hg => ?_, fun hg ha => ?_, fun ha => ?_, fun k pg hp hw _ => ?_⟩
  · rw [ctrlGuarded_gates hp hg]
  · rw [ctrlGuarded_free hg, guarded_admits _ ha, run_granted rfl]
  · rw [guarded_admits _ ha, run_granted rfl]
  · rw [guarded_refused hp hw]

/-! Initialisation, clears, commit points, register writes (R17, R61, R63, R70). -/

theorem guardedW_granted {u : State} {p : Port} {page off : Nat} {a : Act} (ha : u.admits p page off) (hn : a.code u = none) (v : Word) :
    u.guardedW p page off v a.run = a.go u := by
  rw [guardedW_admits _ _ ha, run_granted hn]

/-- What an occurrence that comes with a clear of the same cycle brings to its event (R70). -/
def occEv (o : Occ) : Ev := { status := o.status, d6 := o.d6, d7 := o.d7, frame := o.frame, inst := o.inst }

/-- The occurrences of the cycle of a clear come after it, so that they win (R70). -/
theorem exec_evtStatusClear {t : Time} {s u : State} (hf : Finds t s u) {p : Port} {page : Nat} (ha : u.admits p page 0x14)
    (mask : Word) (race : List Occ) :
    exec (.evtStatusClear t p page mask race) s = .next (s.done (if pageExists page then forEach (race.filter fun o => o.bit < 32)
      (fun o x => x.raise page o.bit (occEv o)) ((evtClearAct page mask).go u) else (evtClearAct page mask).go u)) := by
  change execEvtStatusClear t p page mask race s = _
  rw [execEvtStatusClear, nxt_finds hf, guardedW_granted (a := evtClearAct page mask) ha rfl]
  rfl

/-- A clear with which nothing else comes. -/
theorem exec_evtStatusClear_alone {t : Time} {s u : State} (hf : Finds t s u) {p : Port} {page : Nat} (ha : u.admits p page 0x14)
    (mask : Word) : exec (.evtStatusClear t p page mask []) s = .next (s.done ((evtClearAct page mask).go u)) := by
  rw [exec_evtStatusClear hf ha, List.filter_nil]
  simp only [forEach, List.foldl_nil, ite_self]

theorem exec_errCaptureClear {t : Time} {s u : State} (hf : Finds t s u) {p : Port} {page : Nat} (ha : u.admits p page 0x20) :
    exec (.errCaptureClear t p page none) s = .next (s.done ((errClearAct page).go u)) := by
  change execErrCaptureClear t p page none s = _
  rw [execErrCaptureClear, nxt_finds hf, guardedW_granted (a := errClearAct page) ha rfl]

/-- An error of the cycle of a clear comes after it, so that it wins (R70). -/
theorem exec_errCaptureClear_race {t : Time} {s u : State} (hf : Finds t s u) {p : Port} {page : Nat} (ha : u.admits p page 0x20)
    (hp : pageExists page = true) (k d : Nat) :
    exec (.errCaptureClear t p page (some (k, d))) s = .next (s.done (((errClearAct page).go u).errWith page k d)) := by
  change execErrCaptureClear t p page (some (k, d)) s = _
  rw [execErrCaptureClear, nxt_finds hf, guardedW_granted (a := errClearAct page) ha rfl]
  simp only [hp, if_true]

/-- A write to a register that waits for the die-to-die link (R17). -/
theorem exec_registerWrite_held {t : Time} {s u : State} (hf : Finds t s u) {p : Port} {off : Nat} (hp : u.portServed p = true)
    (hw : u.wordWaits off = true) (be : Nat) (v : Word) :
    exec (.registerWrite t p off be v) s = .next (s.done (u.holdAcc (.write p off be v))) := by
  change execRegisterWrite t p off be v s = _
  rw [execRegisterWrite, nxt_finds hf, if_pos (by simp [hp, hw])]

/-- Settles O15: each event is its operation on the state that it finds, and an occurrence of the same cycle comes after the clear. -/
theorem pageEvents : Obligations.PageEvents := by
  intro t s u hf
  refine ⟨fun page hp => ?_, fun p page mask ha => exec_evtStatusClear_alone hf ha mask, fun p page mask b st x y f i ha hp hb => ?_,
    fun p page ha => exec_errCaptureClear hf ha, fun p page k d ha hp => exec_errCaptureClear_race hf ha hp k d, fun page hp => ?_,
    fun p off be v h => exec_registerWrite hf ?_ be v, fun p off be v hp hw => exec_registerWrite_held hf hp hw be v⟩
  · change execBlockInitDone t page s = _
    rw [execBlockInitDone, nxt_finds hf, if_pos hp]
  · rw [exec_evtStatusClear hf ha, if_pos hp, List.filter_cons_of_pos (by simpa using hb)]
    rfl
  · change execCommitApply t page s = _
    rw [execCommitApply, nxt_finds hf, if_pos hp]
  · rcases h with h | h <;> simp [h]

end Sys2Proof.Proofs
end

section
/-! The requests of the INST page and of migration, and the table of the INST page (R300 to R302, R309, R322). -/

namespace Sys2Proof.Proofs

open Sys2Proof Sys2Proof.Machine Sys2Proof.Laws

/-- A write of INST_CMD stores the word that names the tenant and the operation, and asks for it. -/
theorem requests_instCmd {t : Time} {c : Instr} {s u : State} {p : Port} {i op : Nat} (hf : Finds t s u)
    (hc : exec c s = nxt t (fun x => x.instCmd p i op) s) : Requests c s u p PG_INST 0x40
      (State.plainWrite (portSecure p) PG_INST 0x40 (BitVec.ofNat 32 (i % 256 + op * 256))) instCmdAct :=
  requests_of (.inl rfl) hf hc

/-- A write of MIG_CMD stores the word that names the mode and the tenant, and asks for the copy. -/
theorem requests_migCmd {t : Time} {c : Instr} {s u : State} {p : Port} {i mode : Nat} (hf : Finds t s u)
    (hc : exec c s = nxt t (fun x => x.migCmd p mode i) s) : Requests c s u p PG_DMA 0x64
      (State.plainWrite (portSecure p) PG_DMA 0x64 (BitVec.ofNat 32 (mode + i % 256 * 256))) migAct :=
  requests_of (.inl rfl) hf hc

/-- A write to a word of the INST table is decided by its refusals alone, once its port is served (R300). -/
theorem entryWrite_granted {u : State} {p : Port} {i w : Nat} {v : Word} (hp : u.portServed p = true) (hi : i < 256) (hw : w < 64)
    (hc : u.entryCode p i w v = none) : u.entryWrite p i w v = u.entryPut i w v := by
  simp [State.entryWrite, hp, hc, Nat.not_le.2 hi, Nat.not_le.2 hw]

theorem entryWrite_refused {u : State} {p : Port} {i w k : Nat} {v : Word} (hp : u.portServed p = true) (hi : i < 256) (hw : w < 64)
    (hc : u.entryCode p i w v = some k) : u.entryWrite p i w v = u.err PG_INST k := by
  simp [State.entryWrite, hp, hc, Nat.not_le.2 hi, Nat.not_le.2 hw]

/-- Settles O32: each row writes its command register, or a word of an entry of the table. -/
theorem instRequests : Obligations.InstRequests := by
  intro t s u p i hf
  have entry (w : Nat) (v : Word) : exec (.instEntryWrite t p i w v) s = .next (s.done (u.entryWrite p i w v)) :=
    nxt_finds hf fun x => x.entryWrite p i w v
  refine ⟨fun c op h => requests_instCmd hf ?_, fun c op h => requests_migCmd hf ?_, fun v => requests_id (.inl rfl) hf rfl,
    fun w v hp hi hw hc => ?_, fun w v k hp hi hw hc => ?_⟩
  · simp only [List.mem_cons, Prod.mk.injEq, List.not_mem_nil, or_false] at h
    obtain ⟨rfl, rfl⟩ | ⟨rfl, rfl⟩ | ⟨rfl, rfl⟩ | ⟨rfl, rfl⟩ | ⟨rfl, rfl⟩ | ⟨rfl, rfl⟩ | ⟨rfl, rfl⟩ | ⟨rfl, rfl⟩ := h <;> rfl
  · simp only [List.mem_cons, Prod.mk.injEq, List.not_mem_nil, or_false] at h
    obtain ⟨rfl, rfl⟩ | ⟨rfl, rfl⟩ | ⟨rfl, rfl⟩ := h <;> rfl
  · rw [entry, entryWrite_granted hp hi hw hc]
  · rw [entry, entryWrite_refused hp hi hw hc]

end Sys2Proof.Proofs
end

section
/-! What the register-only commands change (R57, R64, R65, R67, R76, R79, R298, R330, R350). -/

namespace Sys2Proof.Proofs

open Sys2Proof Sys2Proof.Machine Sys2Proof.Laws

/-! Changes of registers one after the other. -/

theorem onlyWrites_forEach {α : Type} {f : α → State → State} {keys : α → List Nat}
    (h : ∀ x (s : State), s.onlyWrites (f x s) (keys x))
    (l : List α) (s : State) : s.onlyWrites (forEach l f s) (l.flatMap keys) := by
  induction l generalizing s with
  | nil => exact onlyWrites_refl s
  | cons a l ih => exact onlyWrites_trans (h a s) (ih (f a s))

/-- What each change brings about and the others keep holds in the end of every one. -/
theorem forEach_holds {α : Type} {f : α → State → State} {P : α → State → Prop} (hset : ∀ x s, P x (f x s))
    (hkeep : ∀ x y s, P x s → P x (f y s)) {l : List α} {x : α} (hx : x ∈ l) (s : State) : P x (forEach l f s) := by
  have kept (l : List α) (s : State) (h : P x s) : P x (forEach l f s) := by
    induction l generalizing s with
    | nil => exact h
    | cons a l ih => exact ih (f a s) (hkeep x a s h)
  induction l generalizing s with
  | nil => cases hx
  | cons a l ih =>
    rcases List.mem_cons.1 hx with rfl | hx
    · exact kept l _ (hset x s)
    · exact ih hx (f a s)

/-! CLR_COUNTS. -/

/-- A register at offset `x.1` of page `p` keeps the bits `x.2`, which are no count. -/
def maskReg (p : Nat) (x : Nat × Word) (s : State) : State := s.wr (pageBase p + x.1) (s.rd (pageBase p + x.1) &&& x.2)

theorem onlyWrites_maskRegs (p : Nat) (l : List (Nat × Word)) (s : State) :
    s.onlyWrites (forEach l (maskReg p) s) (l.map fun x => pageBase p + x.1) := by
  rw [List.map_eq_flatMap]
  exact onlyWrites_forEach (f := maskReg p) (fun x v => onlyWrites_wr v (pageBase p + x.1) _) l s

theorem rd_maskRegs (p : Nat) {l : List (Nat × Word)} (hl : (l.map (·.1)).Nodup) {x : Nat × Word} (hx : x ∈ l) (s : State) :
    (forEach l (maskReg p) s).rd (pageBase p + x.1) = s.rd (pageBase p + x.1) &&& x.2 := by
  induction l generalizing s with
  | nil => cases hx
  | cons a l ih =>
    obtain ⟨ha, hl⟩ := List.nodup_cons.1 hl
    rcases List.mem_cons.1 hx with rfl | hx
    · have hkey : pageBase p + x.1 ∉ l.map fun y => pageBase p + y.1 := by simpa using ha
      exact ((onlyWrites_maskRegs p l _).2 _ hkey).trans (rd_wr_same s _ _)
    · have hne : pageBase p + x.1 ≠ pageBase p + a.1 := fun e =>
        ha (List.mem_map.2 ⟨x, hx, Nat.add_left_cancel e⟩)
      have hrd : (maskReg p a s).rd (pageBase p + x.1) = s.rd (pageBase p + x.1) := rd_wr_other s _ _ hne
      exact (ih hl hx _).trans (by rw [hrd])

theorem countRegs_nodup (p : Nat) : ((countRegs p).map (·.1)).Nodup := by
  unfold countRegs
  split
  · decide
  · split <;> decide

theorem onlyWrites_clearCounts (p : Nat) (s : State) :
    s.onlyWrites (s.clearCounts p) ((countRegs p).map fun x => pageBase p + x.1) := onlyWrites_maskRegs p (countRegs p) s

/-- CLR_COUNTS clears the counts and leaves the other bits of their registers. -/
theorem rd_clearCounts (p : Nat) {x : Nat × Word} (hx : x ∈ countRegs p) (s : State) :
    (s.clearCounts p).rd (pageBase p + x.1) = s.rd (pageBase p + x.1) &&& x.2 := rd_maskRegs p (countRegs_nodup p) hx s

/-! SEC_READY, the journals, the performance counters. -/

/-- SEC_READY 0 shows in SYS_SEC_CTRL and in SYS_STATE; 1 locks the watermarks as well (R328). -/
theorem onlyWrites_secReady (b : Bool) (u : State) : u.onlyWrites ((secReadyAct b).go u)
    ([pageBase PG_SYS + R.SYS_SEC_CTRL_SEC_READY.off, pageBase PG_SYS + R.SYS_STATE_SEC_READY.off] ++
      if b = true then [pageBase PG_WMARK + 0x3C] else []) := by
  cases b with
  | false => exact onlyWrites_trans (onlyWrites_trans (onlyWrites_sf u _ _ _) (onlyWrites_sf _ _ _ _)) (onlyWrites_refl _)
  | true => exact onlyWrites_trans (onlyWrites_trans (onlyWrites_sf u _ _ _) (onlyWrites_sf _ _ _ _)) (onlyWrites_sf _ _ _ _)

theorem secReady_shown (b : Bool) (u : State) : ((secReadyAct b).go u).tf PG_SYS R.SYS_SEC_CTRL_SEC_READY = b ∧
    ((secReadyAct b).go u).tf PG_SYS R.SYS_STATE_SEC_READY = b ∧
    (b = true → ((secReadyAct b).go u).tf PG_WMARK R.LOCK_LOCKED = true) := by
  have wmark (s : State) (f : Fld) (hf : f.off < 0x100) : (s.sf PG_WMARK R.LOCK_LOCKED 1).tf PG_SYS f = s.tf PG_SYS f := by
    have hne : pageBase PG_SYS + f.off ≠ pageBase PG_WMARK + 0x3C := by
      unfold pageBase PG_SYS PG_WMARK; omega
    rw [State.tf, gf_sf_elsewhere _ _ _ _ _ _ hne, ← State.tf]
  cases b
  · simp (disch := decide) [secReadyAct, tf_sf_ne, tf_sf_same]
  · simp (disch := decide) [secReadyAct, wmark, tf_sf_ne, tf_sf_same]

/-- What a write of JRN_CTRL stores (R79). -/
def jrnCtrlSet (p : Nat) (v : Word) (s : State) : State :=
  ((s.sf p R.JRN_CTRL_ENABLE (bits v 0 1)).sf p R.JRN_CTRL_SIZE (bits v 1 4)).sf p R.JRN_CTRL_THRESH (bits v 16 16)

/-- The indexes of a journal that has just been enabled (R79). -/
def jrnRestart (p : Nat) (s : State) : State := (s.sf p R.JRN_WR_INDEX 0).sf p R.JRN_RD_INDEX 0

theorem onlyWrites_jrnCtrlSet (p : Nat) (v : Word) (s : State) : s.onlyWrites (jrnCtrlSet p v s) [pageBase p + 0x48] := by
  refine onlyWrites_mono (onlyWrites_trans (onlyWrites_trans (onlyWrites_sf s p R.JRN_CTRL_ENABLE _)
    (onlyWrites_sf _ p R.JRN_CTRL_SIZE _)) (onlyWrites_sf _ p R.JRN_CTRL_THRESH _)) ?_
  simp

theorem onlyWrites_jrnRestart (p : Nat) (s : State) : s.onlyWrites (jrnRestart p s) [pageBase p + 0x4C, pageBase p + 0x50] :=
  onlyWrites_trans (onlyWrites_sf s p R.JRN_WR_INDEX 0) (onlyWrites_sf _ p R.JRN_RD_INDEX 0)

/-- Bit 0 of a word, as a field of one bit. -/
theorem bits_zero_one (w : Word) : bits w 0 1 = if bit w.toNat 0 = true then 1 else 0 := by
  have e : bits w 0 1 = w.toNat % 2 := by simp [bits]
  rw [e]
  by_cases h : w.toNat % 2 = 1
  · simp [bit, h]
  · simp [bit, h]; omega

theorem enable_jrnCtrlSet (p : Nat) (v : Word) (s : State) : (jrnCtrlSet p v s).tf p R.JRN_CTRL_ENABLE = bit v.toNat 0 := by
  rw [jrnCtrlSet, tf_sf_ne (by decide) (by decide) (by decide), tf_sf_ne (by decide) (by decide) (by decide), bits_zero_one]
  exact tf_sf_flag _ _ (by decide) rfl _

/-- With nothing lost no JOURNAL_GAP is due (R80). -/
theorem jrnGapOut_none {s : State} {p : Nat} (h : s.gf p R.JRN_LOST_COUNT = 0) : s.jrnGapOut p = s := by
  simp [State.jrnGapOut, h]

/-- A write of JRN_CTRL under which ENABLE does not rise stores its fields. -/
theorem jrnCtrlAct_go_steady {u : State} {p : Nat} {v : Word} (h : u.tf p R.JRN_CTRL_ENABLE = true ∨ bit v.toNat 0 = false) :
    (jrnCtrlAct p v).go u = jrnCtrlSet p v u := by
  have hr : (!u.tf p R.JRN_CTRL_ENABLE && decide (bits v 0 1 = 1)) = false := by
    rw [bits_zero_one]
    rcases h with h | h <;> simp [h]
  simp only [jrnCtrlAct, hr, Bool.false_eq_true, if_false]
  rfl

/-- A rise of ENABLE clears both indexes. -/
theorem jrnCtrlAct_go_rise {u : State} {p : Nat} {v : Word} (he : u.tf p R.JRN_CTRL_ENABLE = false) (hv : bit v.toNat 0 = true)
    (hl : u.gf p R.JRN_LOST_COUNT = 0) : (jrnCtrlAct p v).go u = jrnRestart p (jrnCtrlSet p v u) := by
  have hr : (!u.tf p R.JRN_CTRL_ENABLE && decide (bits v 0 1 = 1)) = true := by
    simp [he, bits_zero_one, hv]
  have hlost : (jrnRestart p (jrnCtrlSet p v u)).gf p R.JRN_LOST_COUNT = 0 := by
    rw [gf_onlyWrites (onlyWrites_jrnRestart p _) (by simp), gf_onlyWrites (onlyWrites_jrnCtrlSet p v u) (by simp), hl]
  simp only [jrnCtrlAct, hr, if_true]
  exact jrnGapOut_none hlost

/-- What a write of JRN_CTRL that is accepted changes, where no JOURNAL_GAP record comes with it (R79). -/
theorem jrnCtrl_frame {u : State} {p : Nat} {v : Word}
    (h : u.gf p R.JRN_LOST_COUNT = 0 ∨ u.tf p R.JRN_CTRL_ENABLE = true ∨ bit v.toNat 0 = false) :
    u.onlyWrites ((jrnCtrlAct p v).go u) [pageBase p + 0x48, pageBase p + 0x4C, pageBase p + 0x50] ∧
    ((jrnCtrlAct p v).go u).tf p R.JRN_CTRL_ENABLE = bit v.toNat 0 ∧
    (u.tf p R.JRN_CTRL_ENABLE = false → bit v.toNat 0 = true →
      ((jrnCtrlAct p v).go u).gf p R.JRN_WR_INDEX = 0 ∧ ((jrnCtrlAct p v).go u).gf p R.JRN_RD_INDEX = 0) := by
  by_cases hs : u.tf p R.JRN_CTRL_ENABLE = true ∨ bit v.toNat 0 = false
  · rw [jrnCtrlAct_go_steady hs]
    refine ⟨onlyWrites_mono (onlyWrites_jrnCtrlSet p v u) (by simp), enable_jrnCtrlSet p v u, fun he hv => ?_⟩
    simp [he, hv] at hs
  · obtain ⟨he, hv⟩ : u.tf p R.JRN_CTRL_ENABLE = false ∧ bit v.toNat 0 = true := by simpa using hs
    rw [jrnCtrlAct_go_rise he hv (h.resolve_right hs)]
    refine ⟨onlyWrites_trans (onlyWrites_jrnCtrlSet p v u) (onlyWrites_jrnRestart p _), ?_, fun _ _ => ⟨?_, ?_⟩⟩
    · rw [State.tf, gf_onlyWrites (onlyWrites_jrnRestart p _) (by simp), ← State.tf, enable_jrnCtrlSet]
    · rw [jrnRestart, gf_sf_ne (by decide) (by decide) (by decide), gf_sf_same _ _ _ _ (by decide)]
      rfl
    · rw [jrnRestart, gf_sf_same _ _ _ _ (by decide)]
      rfl

/-- Performance counter `k` reads 0. -/
def zeroPerf (k : Nat) (s : State) : State := (s.sf PG_PERF (R.PERF_CNT_LO_COUNT k) 0).sf PG_PERF (R.PERF_CNT_HI_COUNT k) 0

theorem perfClearAct_go (u : State) : perfClearAct.go u = forEach (List.range 32) zeroPerf u := rfl

theorem onlyWrites_zeroPerf (k : Nat) (s : State) : s.onlyWrites (zeroPerf k s)
    [pageBase PG_PERF + (R.PERF_CNT_LO_COUNT k).off, pageBase PG_PERF + (R.PERF_CNT_HI_COUNT k).off] :=
  onlyWrites_trans (onlyWrites_sf s _ _ _) (onlyWrites_sf _ _ _ _)

/-- A field that is 0 stays so where a field of 0 is stored, in the same place or in another register. -/
theorem gf_sf_zero {s : State} {p : Nat} {f g : Fld} (h : s.gf p g = 0) (hf : f.lo + f.len ≤ 32) (hfg : g.off = f.off → g = f) :
    (s.sf p f 0).gf p g = 0 := by
  by_cases ho : g.off = f.off
  · rw [hfg ho, gf_sf_same _ _ _ _ hf, Nat.zero_mod]
  · rw [gf_sf_elsewhere _ _ _ _ _ _ (by omega), h]

/-- Both words of performance counter `k` read 0. -/
def perfReadsZero (k : Nat) (s : State) : Prop :=
  s.gf PG_PERF (R.PERF_CNT_LO_COUNT k) = 0 ∧ s.gf PG_PERF (R.PERF_CNT_HI_COUNT k) = 0

theorem perfReadsZero_zeroPerf (k : Nat) (s : State) : perfReadsZero k (zeroPerf k s) :=
  ⟨gf_sf_zero (gf_sf_same _ _ _ _ (by simp)) (by simp) fun e => by simp at e, gf_sf_same _ _ _ _ (by simp)⟩

/-- Clearing another counter leaves it so. -/
theorem perfReadsZero_keep {k : Nat} {s : State} (j : Nat) (h : perfReadsZero k s) : perfReadsZero k (zeroPerf j s) := by
  obtain ⟨hlo, hhi⟩ := h
  refine ⟨?_, ?_⟩
  · exact gf_sf_zero (gf_sf_zero hlo (by simp) fun e => by simpa using e) (by simp) fun e => by simp at e; omega
  · exact gf_sf_zero (gf_sf_zero hhi (by simp) fun e => by simp at e; omega) (by simp) fun e => by simpa using e

/-- After PERF_CTRL.CLEAR every counter reads 0 (R350). -/
theorem perfClear_zero {k : Nat} (hk : k < 32) (u : State) :
    (perfClearAct.go u).g64 PG_PERF (R.PERF_CNT_LO_COUNT k) (R.PERF_CNT_HI_COUNT k) = 0 := by
  obtain ⟨hlo, hhi⟩ : perfReadsZero k (perfClearAct.go u) := by
    rw [perfClearAct_go]
    exact forEach_holds perfReadsZero_zeroPerf (fun _ j _ h => perfReadsZero_keep j h) (List.mem_range.2 hk) u
  simp [State.g64, hlo, hhi]

theorem onlyWrites_perfClear (u : State) : u.onlyWrites (perfClearAct.go u) ((List.range 32).flatMap fun k =>
    [pageBase PG_PERF + (R.PERF_CNT_LO_COUNT k).off, pageBase PG_PERF + (R.PERF_CNT_HI_COUNT k).off]) :=
  onlyWrites_forEach onlyWrites_zeroPerf (List.range 32) u

/-- It leaves every register outside the block of the counters. -/
theorem rd_perfClear {k : Nat} (hk : k < pageBase PG_PERF + 0x100 ∨ pageBase PG_PERF + 0x200 ≤ k) (u : State) :
    (perfClearAct.go u).rd k = u.rd k := by
  refine (onlyWrites_perfClear u).2 k ?_
  simp only [List.mem_flatMap, List.mem_range, List.mem_cons, List.not_mem_nil, or_false, not_exists, not_and]
  intro j hj
  omega

/-! A pin and a short. -/

/-- A level of a pin of a page that does not run is shown, and raises nothing (R505). -/
theorem exec_gpioEdge_idle {t : Time} {s u : State} (hf : Finds t s u) {pin : Nat} (hp : pin < 32) (hr : u.pstate PG_GPIO ≠ pRUN)
    (rising : Bool) : exec (.gpioEdge t pin rising) s =
      .next (s.done (u.sf PG_GPIO R.GPIO_IN_LEVEL (setBit (u.gf PG_GPIO R.GPIO_IN_LEVEL) pin rising))) := by
  change execGpioEdge t pin rising s = _
  have hs (n : Nat) : (u.sf PG_GPIO R.GPIO_IN_LEVEL n).pstate PG_GPIO ≠ pRUN := by
    rwa [State.pstate, gf_sf_ne (by decide) (by decide) (by decide), ← State.pstate]
  rw [execGpioEdge, nxt_finds hf]
  simp [Nat.not_le.2 hp, hs]

/-- A short that is gone on a link that has not failed clears its flag alone (R282). -/
theorem exec_laneShortClear_flag {t : Time} {s u : State} (hf : Finds t s u) {h l : Nat} (hh : h < 8) (hl : l < 4)
    (hb : bit (u.gf (pgDpl h) R.DPL_STATUS_LANE_SHORT) l = true) (hs : u.linkSt h ≠ lFAILED) :
    exec (.laneShortClear t h l) s = .next (s.done
      (u.sf (pgDpl h) R.DPL_STATUS_LANE_SHORT (setBit (u.gf (pgDpl h) R.DPL_STATUS_LANE_SHORT) l false))) := by
  change execLaneShortClear t h l s = _
  have hst (n : Nat) : (u.sf (pgDpl h) R.DPL_STATUS_LANE_SHORT n).linkSt h ≠ lFAILED := by
    rwa [State.linkSt, gf_sf_ne (by decide) (by decide) (by decide), ← State.linkSt]
  rw [execLaneShortClear, nxt_finds hf]
  simp [Nat.not_le.2 hh, Nat.not_le.2 hl, hb, hst]

theorem exec_winApertureWrite_granted {t : Time} {s u : State} (hf : Finds t s u) {i : Nat} {w : Word} (hi : i < 256)
    (hm : u.mode ≠ ENUMERATE) (hw : bits w 0 15 < u.ent i 2 16 15 * 2) :
    exec (.winApertureWrite t i w) s = .next (s.done (u.setWin i 4 (BitVec.ofNat 32 (bits w 0 15)))) := by
  change execWinApertureWrite t i w s = _
  rw [execWinApertureWrite, nxt_finds hf]
  simp [Nat.not_le.2 hi, hm, Nat.not_le.2 hw]

/-- A write of a secure ring's tail is a request of its register (R330). -/
theorem requests_secDoorbell {t : Time} {s u : State} (hf : Finds t s u) (p : Port) {r : Nat} (hr : r < 2) (w : Word) :
    Requests (.secDoorbell t p r w) s u p PG_SEC (0xAC + 0x10 * r) id (subTailAct r w) := by
  refine requests_id (t := t) (.inl rfl) hf ?_
  change execSecDoorbell t p r w s = _
  simp only [execSecDoorbell, hr, if_true]

/-- Settles O59: each command does what its request or event asks, which is a write of the registers named. -/
theorem registerFrames : Obligations.RegisterFrames := by
  intro t s u p page hf hd
  obtain ⟨-, -, -, -, -, -, -, clr, evtEnable, lock, -, -, jrn, -⟩ := pageRequests t s u p page hf
  obtain ⟨-, -, -, -, ready, -⟩ := modeRequests t s u p hf
  have perf : Requests (.perfClear t p) s u p PG_PERF 0x40 id perfClearAct := requests_id (.inl rfl) hf rfl
  refine ⟨fun ha => ?_, fun w ha => ?_, fun ha => ?_, fun m ha => ?_, fun ha => ?_, fun b ha => ?_, fun w hj ha hc hl => ?_,
    fun r w hr ha hc => ?_, fun i w hi hm hw => ?_, fun ha => ?_, fun n hn hup => ?_, fun pin rising hp hr => ?_,
    fun h l hh hl hb hs => ?_⟩
  · obtain ⟨e, hw⟩ := exec_onlyWrites hf hd (onlyWrites_sf u page R.LOCK_LOCKED 1) (lock.1 ha rfl)
    exact ⟨_, e, hw, tf_sf_flag u page (by decide) rfl true⟩
  · obtain ⟨e, hw⟩ := exec_onlyWrites hf hd (onlyWrites_wr u (pageBase page + 0x18) w) ((evtEnable w).1 ha rfl)
    exact ⟨_, e, hw, rd_wr_same u _ _⟩
  · obtain ⟨e, hw⟩ := exec_onlyWrites hf hd (onlyWrites_clearCounts page u) (clr.1 ha rfl)
    exact ⟨_, e, hw, fun x hx => rd_clearCounts page hx u⟩
  · obtain ⟨e, hw⟩ := exec_onlyWrites hf hd (onlyWrites_wr u (pageBase page + 0x10) _) (exec_evtStatusClear_alone hf ha m)
    exact ⟨_, e, hw, rd_wr_same u _ _⟩
  · obtain ⟨e, hw⟩ := exec_onlyWrites hf hd (onlyWrites_wr u (pageBase page + 0x20) 0#32) (exec_errCaptureClear hf ha)
    exact ⟨_, e, hw, rd_wr_same u _ _⟩
  · obtain ⟨e, hw⟩ := exec_onlyWrites hf hd (onlyWrites_secReady b u) ((ready b).1 ha rfl)
    exact ⟨_, e, hw, secReady_shown b u⟩
  · obtain ⟨hframe, hshown⟩ := jrnCtrl_frame hl
    obtain ⟨e, hw⟩ := exec_onlyWrites hf hd hframe ((jrn w hj).1 ha hc)
    exact ⟨_, e, hw, hshown⟩
  · obtain ⟨e, hw⟩ := exec_onlyWrites hf hd (onlyWrites_sf u PG_SEC (R.SEC_SUB_TAIL_TAIL r) (bits w 0 14))
      ((requests_secDoorbell hf p hr w).1 ha hc)
    exact ⟨_, e, hw, (gf_sf_same _ _ _ _ (by simp)).trans (Nat.mod_eq_of_lt (bits_lt w 0 14))⟩
  · obtain ⟨e, hw⟩ := exec_onlyWrites hf hd (onlyWrites_wr u (winKey i 4) _) (exec_winApertureWrite_granted hf hi hm hw)
    exact ⟨_, e, hw, rd_wr_same u _ _⟩
  · obtain ⟨e, hw⟩ := exec_onlyWrites hf hd (onlyWrites_perfClear u) (perf.1 ha rfl)
    exact ⟨_, e, hw.1, fun k hk => perfClear_zero hk u, fun k hk => rd_perfClear hk u⟩
  · have replay : exec (.d2dTransferError t n) s = .next (s.done (u.bump PG_SYS R.SYS_D2D_STATUS_REPLAY_COUNT 1)) := by
      rw [← d2dReplay_few hup hn]
      exact nxt_finds hf fun x => x.d2dReplay n
    obtain ⟨e, hw⟩ := exec_onlyWrites hf hd (onlyWrites_bump u PG_SYS R.SYS_D2D_STATUS_REPLAY_COUNT 1) replay
    exact ⟨_, e, hw, (tf_sf_ne (by decide) (by decide) (by decide)).trans hup⟩
  · obtain ⟨e, hw⟩ := exec_onlyWrites hf hd (onlyWrites_sf u PG_GPIO R.GPIO_IN_LEVEL _) (exec_gpioEdge_idle hf hp hr rising)
    exact ⟨_, e, hw, bit_gf_sf_setBit _ _ _ _ _ _ (by decide) hp⟩
  · obtain ⟨e, hw⟩ := exec_onlyWrites hf hd (onlyWrites_sf u (pgDpl h) R.DPL_STATUS_LANE_SHORT _)
      (exec_laneShortClear_flag hf hh hl hb hs)
    exact ⟨_, e, hw, bit_gf_sf_setBit _ _ _ _ _ _ (by decide) hl, gf_sf_ne (by decide) (by decide) (by decide)⟩

end Sys2Proof.Proofs
end

section
/-! The commands of a list on surfaces, planes and copies, and its safety, console and secure commands; the end of a retirement; a
chunk of the upload engine (R87 to R93, R106 to R111, R114 to R119, R306, R307). -/

namespace Sys2Proof.Proofs

open Sys2Proof Sys2Proof.Machine Sys2Proof.Laws

/-- A row of a list's opcode, at its list's position, has its body run on the state in which the command has been counted. -/
theorem exec_atOp {t : Time} {c : Instr} {s u : State} {q op : Nat} (body : ListRun → Word → State → State) (hf : Finds t s u)
    (hc : exec c s = nxt t (fun x => x.runCmd q op body) s) (h : u.atOp q op) :
    exec c s = .next (s.done (body ((u.cmdTaken q).lr q) (u.cmdWord q) (u.cmdTaken q))) := by
  rw [hc, nxt_finds hf, runCmd_atOp body h]

/-- A RETIRING surface that no plane is bound to, that no head has read and whose retirement no command awaits becomes FREE (R92, R93). -/
theorem surfaceRetired_unread {u : State} {i : Nat} (hs : (u.surf i).state = sRETIRING) (ha : u.boundActive i = [])
    (hb : u.boundShadow i = []) (hr : (u.surf i).lastRead = []) (hc : (u.surf i).retCmd = none) (h : Nat) :
    u.surfaceRetired i h = u.freeSurf i := by
  simp [State.surfaceRetired, hs, ha, hb, hr, hc]

/-- Settles O17: each list row runs its own body at the list's position; a retirement and a chunk are rows of their own. -/
theorem dataCommands : Obligations.DataCommands := by
  intro t s u q hf
  refine ⟨exec_atOp (State.setSurface q) hf rfl, exec_atOp (State.retireSurface q) hf rfl, exec_atOp (State.setPlaneCmd q) hf rfl,
    exec_atOp (State.flip q) hf rfl, exec_atOp (State.flipWall q) hf rfl, exec_atOp (State.upload q) hf rfl,
    exec_atOp (State.fill q) hf rfl, exec_atOp (State.copyRect q) hf rfl, fun i h hs ha hb hr hc => ?_,
    fun ch id d => nxt_finds hf fun x => x.chunkDone ch id d, fun ch d => nxt_finds hf fun x => x.migChunk ch d,
    exec_atOp (State.setRegionAge q) hf rfl, exec_atOp (State.readSignature q) hf rfl, exec_atOp (State.hapticPlay q) hf rfl,
    exec_atOp (State.audioCue q) hf rfl, exec_atOp (State.mcall q) hf rfl⟩
  calc exec (.surfaceRetired t i h) s
    _ = .next (s.done (u.surfaceRetired i h)) := nxt_finds hf fun x => x.surfaceRetired i h
    _ = .next (s.done (u.freeSurf i)) := by rw [surfaceRetired_unread hs ha hb hr hc]

end Sys2Proof.Proofs
end

section
/-! Blending of a plane over the colour below it (R91, R135). -/

namespace Sys2Proof.Proofs

open Sys2Proof Sys2Proof.Machine Sys2Proof.Laws

/-! Repetition of bits (R91) and the product of 12-bit values (R135). -/

/-- Eight bits fill twelve with their upper four repeated; the later repetitions fall below the lowest bit (R91). -/
theorem widen_eight {v : Nat} (h : v < 256) : widen v 8 = v * 16 + v / 16 := by
  have hsum : widen v 8 = (v * 16 + v * 16 / 256) % 4096 := by
    simp (disch := omega) [widen, List.range_succ_eq_map, Nat.div_eq_of_lt]
  have hrep : v * 16 / 256 = v / 16 := Nat.mul_div_mul_right v 16 (by decide)
  rw [hsum, hrep]
  exact Nat.mod_eq_of_lt (by omega)

theorem mul12_zero_left (x : Nat) : mul12 0 x = 0 := by simp [mul12]

theorem mul12_zero_right (x : Nat) : mul12 x 0 = 0 := by simp [mul12]

/-- 4,095 stands for 1: the rounding of the product does not move the other factor. -/
theorem mul12_full_right (x : Nat) : mul12 x 4095 = x := by unfold mul12; omega

/-! One component. -/

/-- A component over the one below it, of effective alpha `ae` and contribution factor `k` (R135). -/
def blendComp (k ae c d : Nat) : Nat := min 4095 (mul12 c k + mul12 d (4095 - ae))

/-- The effective alpha of a pixel of alpha `a` under the global alpha `g` (R135). -/
def effAlpha (a g mode : Nat) : Nat := if mode = 2 then g else mul12 a g

/-- The factor of the pixel's colour: the effective alpha for a straight one, else the global alpha (R135). -/
def colFactor (a g mode : Nat) : Nat := if mode = 0 then effAlpha a g mode else g

/-- Every component is blended by the same rule. -/
theorem blend_eq (cd : Rgb) (a : Nat) (cs : Rgb) (g mode : Nat) : blend cd a cs g mode =
    (blendComp (colFactor a g mode) (effAlpha a g mode) cs.1 cd.1, blendComp (colFactor a g mode) (effAlpha a g mode) cs.2.1 cd.2.1,
      blendComp (colFactor a g mode) (effAlpha a g mode) cs.2.2 cd.2.2) := rfl

theorem blendComp_le (k ae c d : Nat) : blendComp k ae c d ≤ 4095 := Nat.min_le_left _ _

/-- Full alpha leaves nothing of the colour below. -/
theorem blendComp_full {c : Nat} (d : Nat) (h : c ≤ 4095) : blendComp 4095 4095 c d = c := by
  simp [blendComp, mul12_full_right, mul12_zero_right, h]

/-- Alpha 0 leaves the colour below. -/
theorem blendComp_none (c : Nat) {d : Nat} (h : d ≤ 4095) : blendComp 0 0 c d = d := by
  simp [blendComp, mul12_full_right, mul12_zero_right, h]

/-! A colour. -/

/-- Each component is a 12-bit one. -/
def Is12 (c : Rgb) : Prop := c.1 ≤ 4095 ∧ c.2.1 ≤ 4095 ∧ c.2.2 ≤ 4095

theorem is12_blend (cd : Rgb) (a : Nat) (cs : Rgb) (g mode : Nat) : Is12 (blend cd a cs g mode) :=
  ⟨blendComp_le _ _ _ _, blendComp_le _ _ _ _, blendComp_le _ _ _ _⟩

/-- A pixel whose effective alpha and factor are full replaces the colour below. -/
theorem blend_full {cs : Rgb} (hs : Is12 cs) (cd : Rgb) {a g mode : Nat} (he : effAlpha a g mode = 4095)
    (hk : colFactor a g mode = 4095) : blend cd a cs g mode = cs := by
  obtain ⟨hr, hg, hb⟩ := hs
  rw [blend_eq, he, hk, blendComp_full _ hr, blendComp_full _ hg, blendComp_full _ hb]

/-- A pixel whose effective alpha and factor are 0 leaves it. -/
theorem blend_none {cd : Rgb} (hd : Is12 cd) (cs : Rgb) {a g mode : Nat} (he : effAlpha a g mode = 0)
    (hk : colFactor a g mode = 0) : blend cd a cs g mode = cd := by
  obtain ⟨hr, hg, hb⟩ := hd
  rw [blend_eq, he, hk, blendComp_none _ hr, blendComp_none _ hg, blendComp_none _ hb]

/-- The rule of a mode, read at any of the three components. -/
theorem component_blend {k : Rgb → Nat} (hk : k ∈ [fun c : Rgb => c.1, fun c => c.2.1, fun c => c.2.2]) (cd : Rgb) (a : Nat) (cs : Rgb)
    (g mode : Nat) : k (blend cd a cs g mode) = blendComp (colFactor a g mode) (effAlpha a g mode) (k cs) (k cd) := by
  simp only [List.mem_cons, List.not_mem_nil, or_false] at hk
  rcases hk with rfl | rfl | rfl <;> rfl

/-! The effective alpha and the factor at the ends of the scale. -/

theorem effAlpha_full (mode : Nat) : effAlpha 4095 4095 mode = 4095 := by simp [effAlpha, mul12_full_right]

theorem colFactor_full (mode : Nat) : colFactor 4095 4095 mode = 4095 := by simp [colFactor, effAlpha_full]

theorem effAlpha_global_zero (a mode : Nat) : effAlpha a 0 mode = 0 := by simp [effAlpha, mul12_zero_right]

theorem colFactor_global_zero (a mode : Nat) : colFactor a 0 mode = 0 := by simp [colFactor, effAlpha_global_zero]

/-- A plane that shows a good pixel blends it over the colour below. -/
theorem over_shown {s : State} {h x y p : Nat} (hs : (s.planePix h p x y).show_ = true) (hb : (s.planePix h p x y).bad = false) (m : Mix) :
    s.over h x y p m = (blend m.1 (s.planePix h p x y).alpha (s.planePix h p x y).col (widen (s.plane h p).act.galpha 8)
      (s.planePix h p x y).mode, m.2) := by
  simp [State.over, hs, hb]

/-- Settles O54: the three modes differ in the effective alpha and the factor alone, and both are 4,095 or both 0 at the ends of the
scale. -/
theorem blending : Obligations.Blending := by
  refine ⟨fun s h x y p m hs hb => over_shown hs hb m, fun v => widen_eight, fun x y => rfl,
    fun cd cs a g hdr hdg hdb hsr hsg hsb _ _ => ?_⟩
  have hd : Is12 cd := ⟨hdr, hdg, hdb⟩
  have hs : Is12 cs := ⟨hsr, hsg, hsb⟩
  refine ⟨fun k hk => ⟨component_blend hk .., component_blend hk .., component_blend hk ..⟩, fun m => is12_blend cd a cs g m,
    fun m => ?_, fun m => ?_, ?_, ?_⟩
  · exact blend_full hs cd (effAlpha_full m) (colFactor_full m)
  · exact blend_none hd cs (effAlpha_global_zero a m) (colFactor_global_zero a m)
  · exact blend_none hd cs (mul12_zero_left g) (mul12_zero_left g)
  · rintro rfl
    exact blend_full hs cd rfl rfl

end Sys2Proof.Proofs
end

section
/-! The events of a head's frame, reads of DRAM, a parity error of a slice; the requests of Age Guard, Plaza, the Arcade, the memory set
point, haptics and audio (R124, R125, R130, R150, R161, R162, R214, R371, R387, R388, R393, R433 to R435, R441). -/

namespace Sys2Proof.Proofs

open Sys2Proof Sys2Proof.Machine Sys2Proof.Laws

/-! Commands whose operands must be in range. -/

/-- Two operations that agree on the state found bring about the same. -/
theorem nxt_congr {t : Time} {s u : State} (hf : Finds t s u) {f g : State → State} (h : f u = g u) : nxt t f s = nxt t g s := by
  rw [nxt_finds hf, nxt_finds hf, h]

/-- A command that acts under a condition, where it holds. -/
theorem nxt_when {t : Time} {s u : State} (hf : Finds t s u) {c : Prop} [Decidable c] (hc : c) (f : State → State) :
    nxt t (fun x => if c then f x else x) s = .next (s.done (f u)) := by
  rw [nxt_finds hf, if_pos hc]

/-! Reads of DRAM (R387, R388, R393). -/

/-- A bitmap word that is good leaves the page-valid bits. -/
theorem mapLookup_good (r : MemReq) (a : Nat) (u : State) : u.mapLookup r a false = u := rfl

/-- An uncorrectable one is taken as 64 valid pages (R393). -/
theorem mapLookup_bad {r : MemReq} {a : Nat} {u : State} (hl : u.reqLive (blockOf a) r = true) (hc : blockOf a * 128 < u.capBytes) :
    u.mapLookup r a true = u.mapError (blockOf a) := by
  simp [State.mapLookup, hl, hc]

/-- The second attempt of a read whose requester still waits (R73, R387). -/
theorem exec_memReadRetryDone_live {t : Time} {s u : State} (hf : Finds t s u) {req : MemReq} {a : Nat} {x : Retry}
    (hx : u.memRetry.find? (fun r => r.req == req && r.blk == blockOf a) = some x)
    (hl : ({ u with memRetry := u.memRetry.erase x } : State).retryLive x = true) (errs : List (Nat × Nat)) :
    exec (.memReadRetryDone t req a errs) s = .next (s.done (if x.cancelled = true then
      ({ u with memRetry := u.memRetry.erase x }).readDeliver x.blk CANCELLED req
      else ({ u with memRetry := u.memRetry.erase x }).retryDone x errs)) := by
  change execMemReadRetryDone t req a errs s = _
  rw [execMemReadRetryDone, nxt_finds hf]
  simp only [hx, hl, Bool.not_true, Bool.false_eq_true, if_false]

/-! A parity error of a slice (R162). -/

/-- With no span in flight the record names none. -/
theorem sliceParity_idle {u : State} {n : Nat} (hn : n < 5) (hr : u.pstate (pgSlc n) = pRUN) :
    u.sliceParity n none = (((u.bump (pgSlc n) R.SLC_PARITY_ERRORS 1).raise (pgSlc n) 0
      { status := MEM_ERROR, d6 := 0xFFFFFFFF, d7 := 0xFFFFFFFF }).faultPage (pgSlc n) MEM_ERROR).dispatch := by
  have hrun : ¬(decide (5 ≤ n) || u.pstate (pgSlc n) != pRUN) = true := by simp [hr, hn]
  rw [State.sliceParity, if_neg hrun]
  rfl

/-- Settles O19: each event of a head below 8 is its operation on the state that it finds; a bad bitmap word comes before the read, and
a retry is answered while its requester waits. -/
theorem scanEvents : Obligations.ScanEvents := by
  intro t s u h hf hh
  have read (req : MemReq) (a : Nat) (errs : List (Nat × Nat)) (bad : Bool) :
      exec (.memReadDone t req a errs bad) s = .next (s.done ((u.mapLookup req a bad).readDone req a errs)) :=
    nxt_finds hf fun x => (x.mapLookup req a bad).readDone req a errs
  refine ⟨fun y => nxt_when hf hh _, fun y k n sram hn => nxt_when hf (by simp [hh, hn]) _, fun y d => nxt_when hf hh _,
    nxt_when hf hh _, nxt_when hf hh _, fun req a errs => ?_, fun req a errs hl hc => ?_,
    fun req a errs x hx hl => exec_memReadRetryDone_live hf hx hl errs, fun n hn hr => ?_⟩
  · rw [read, mapLookup_good]
  · rw [read, mapLookup_bad hl hc]
    rfl
  · rw [← sliceParity_idle hn hr]
    exact nxt_finds hf fun x => x.sliceParity n none

/-! Where each request is granted. -/

/-- PLZ_SUBST is granted for an ACTIVE slice while no substitution is pending and a spare runs (R161). -/
theorem plzSubstCode_none {w : State} {n k : Nat} (hn : n < 5) (hr : w.slcRole n = 0) (hp : w.tf PG_PLAZA R.PLZ_SUBST_PENDING = false)
    (hs : w.spareSlice = some k) : (plzSubstAct n).code w = none := by
  simp [plzSubstAct, refusal_eq_none_iff, hn, hr, hp, hs]

/-- MEM_FREQ.GO is granted for a trained set point while no group is busy and no switch runs (R371). -/
theorem memFreqCode_none {w : State} (hm : w.memBusy = false) (hb : w.tf 14 R.MEM_FREQ_BUSY = false)
    (hv : bit (w.gf 14 R.MEM_FREQ_VALID) (w.gf 14 R.MEM_FREQ_TARGET) = true) : memFreqAct.code w = none := by
  simp [memFreqAct, refusal_eq_none_iff, hm, hb, hv]

/-- A switch to another set point that nothing holds begins at once (R371). -/
theorem memFreqAct_go_switch {w : State} (hh : w.freqHeld = false) (hne : w.gf 14 R.MEM_FREQ_TARGET ≠ w.gf 14 R.MEM_FREQ_CURRENT) :
    memFreqAct.go w = w.freqGo (w.gf 14 R.MEM_FREQ_TARGET) := by
  simp [memFreqAct, hh, hne]

/-- PLAY is granted where neither the request nor R435 refuses it. -/
theorem hapPlayCode_none {w : State} {ch : Nat} (hp : w.playCode ch = none) (ht : w.trigCode ch = none) :
    (hapPlayAct ch).code w = none := by
  simp [hapPlayAct, hp, ht]

/-- CLEAR takes a channel in FAULT to IDLE (R433). -/
theorem hapClearAct_go_faulted {u : State} {ch : Nat} (h : u.hapSt ch = cFAULTED) :
    (hapClearAct ch).go u = (u.hapTo ch cIDLE).sf PG_HAP (R.HAP_CH_STATUS_FAULT ch) 0 := if_pos h

/-! Requests of the companion's pages, which may wait for the die-to-die link (R17). -/

/-- A request of a numbered part of a page, the number in range; the word held while the link is down may come from the state. -/
theorem requests_part {t : Time} {c : Instr} {s u : State} {p : Port} {page off n lim : Nat} {v : State → Word} {pre : State → State}
    {a : Act} (hf : Finds t s u) (hn : n < lim)
    (hc : exec c s = nxt t (fun x => if lim ≤ n then x else x.guardedW p page off (v x) fun y => a.run (pre y)) s) :
    Requests c s u p page off pre a :=
  requests_ofW (v := v u) hf (hc.trans (nxt_congr hf (if_neg (Nat.not_le.2 hn))))

/-- A request of a head's Age Guard page. -/
theorem requests_ageRelease {t : Time} {s u : State} (hf : Finds t s u) (p : Port) {h : Nat} (hh : h < 8) (lo hi : Word) :
    Requests (.ageRelease t p h lo hi) s u p (pgAge h) 0x6C id (ageReleaseAct h lo hi) := by
  have hpage : companionPage (pgAge h) = false := by
    have hlow : ¬96 ≤ 48 + h := by omega
    simp [companionPage, pgAge, hlow]
  have hexec : exec (.ageRelease t p h lo hi) s = nxt t (fun x => x.guarded p (pgAge h) 0x6C (ageReleaseAct h lo hi).run) s :=
    nxt_congr hf (f := fun x => if h < 8 then x.guarded p (pgAge h) 0x6C (ageReleaseAct h lo hi).run else x) (if_pos hh)
  exact requests_id (.inl hpage) hf hexec

/-- Settles O21: each row is a request of its register, granted where the lemmas above say. -/
theorem blockRequests : Obligations.BlockRequests := by
  intro t s u p hf
  have age {h : Nat} (hh : h < 8) (lo hi : Word) := requests_ageRelease hf p hh lo hi
  have subst (v : Word) : Requests (.plzSubstGo t p v) s u p PG_PLAZA 0x4C (State.plainWrite (portSecure p) PG_PLAZA 0x4C v)
    (plzSubstAct (bits v 0 3)) := requests_of (.inl rfl) hf rfl
  have flush (heads : Nat) : Requests (.arcFlush t p heads) s u p PG_ARCADE 0x40 id (arcFlushAct heads) := requests_id (.inl rfl) hf rfl
  have freq (v : Word) : Requests (.memFreqGo t p v) s u p 14 0x44 (State.plainWrite (portSecure p) 14 0x44 v) memFreqAct :=
    requests_of (.inl rfl) hf rfl
  have play {ch : Nat} (hch : ch < 4) (v : Word) : Requests (.hapPlay t p ch v) s u p PG_HAP (0x8C + 0x20 * ch)
    (State.plainWrite (portSecure p) PG_HAP (0x8C + 0x20 * ch) v) (hapPlayAct ch) :=
    requests_part (v := fun _ => v ||| 0x10000#32) hf hch rfl
  have stop {ch : Nat} (hch : ch < 4) : Requests (.hapStop t p ch) s u p PG_HAP (0x8C + 0x20 * ch) id (hapStopAct ch) :=
    requests_part (v := fun x => x.rd (regKey PG_HAP (0x8C + 0x20 * ch)) ||| 0x20000#32) hf hch rfl
  have clear {ch : Nat} (hch : ch < 4) : Requests (.hapClear t p ch) s u p PG_HAP (0x8C + 0x20 * ch) id (hapClearAct ch) :=
    requests_part (v := fun x => x.rd (regKey PG_HAP (0x8C + 0x20 * ch)) ||| 0x40000#32) hf hch rfl
  have strStop {n : Nat} (hn : n < 16) : Requests (.audStrStop t p n) s u p PG_AUD (0x104 + 0x10 * n) id (strStopAct n) :=
    requests_part (v := fun _ => 1#32) hf hn rfl
  refine ⟨fun h lo hi hh => age hh lo hi, subst, flush, freq, fun ch v hch => play hch v, fun ch hch => stop hch, fun ch hch => clear hch,
    fun n hn => strStop hn, fun h lo hi hh ha => (age hh lo hi).1 ha rfl, fun v w k ha hw hn hr hp hs => ?_,
    fun heads ha => (flush heads).1 ha rfl, fun v w ha hw hm hb hh hne hv => ?_, fun ch v w hch ha hw hp ht => ?_,
    fun ch hch ha => (stop hch).1 ha rfl, fun ch hch ha hst => ?_, fun n hn ha => (strStop hn).1 ha rfl⟩
  · subst hw
    exact (subst v).1 ha (plzSubstCode_none hn hr hp hs)
  · subst hw
    rw [(freq v).1 ha (memFreqCode_none hm hb hv), memFreqAct_go_switch hh hne]
  · subst hw
    exact (play hch v).1 ha (hapPlayCode_none hp ht)
  · rw [(clear hch).1 ha rfl, id, hapClearAct_go_faulted hst]

end Sys2Proof.Proofs
end

section
/-! The events of genlock: a lock that is late, a settled PLL, an edge, a source that is lost or has returned (R176 to R182). -/

namespace Sys2Proof.Proofs

open Sys2Proof Sys2Proof.Machine Sys2Proof.Laws

/-- A PLL that settles where FREE is in use may end LOCKING (R170, R179). -/
theorem exec_pllSettled_free {t : Time} {s u : State} (hf : Finds t s u) {h : Nat} (hh : h < 8)
    (hst : u.headSt h = hLOCKING ∨ u.headSt h = hRELOCK) (hfree : u.source h = 2) :
    exec (.pllSettled t h) s = .next (s.done ((u.setHead h fun x => { x with settled := true }).lockDone h)) := by
  change execPllSettled t h s = _
  have hc : (h < 8 && (u.headSt h = hLOCKING || u.headSt h = hRELOCK) && u.source h = 2) = true := by simp [hh, hst, hfree]
  rw [execPllSettled, nxt_finds hf, if_pos hc]

/-- Three expected intervals after its last edge a present source is absent (R176). -/
theorem exec_syncSourceLost_late {t : Time} {s u : State} (hf : Finds t s u) {h : Nat} (hh : h < 8) {chain : Bool} {k e : Nat}
    (hk : (if chain = true then 1 else 0) = k) (hlast : (u.sync h k).last = some e) (hpres : u.tf (pgAve h) (presentFld k) = true)
    (hlate : e + 3 * (u.sync h k).expect ≤ u.walltime) :
    exec (.syncSourceLost t h chain) s = .next (s.done (u.srcAbsent h k 0)) := by
  change execSyncSourceLost t h chain s = _
  have hc : (h < 8 && u.tf (pgAve h) (presentFld k) && e + 3 * (u.sync h k).expect ≤ u.walltime) = true := by simp [hh, hpres, hlate]
  rw [execSyncSourceLost, nxt_finds hf]
  simp only [hk, hlast, hc, if_true]

/-- In AUTO a head leaves its source for the first one before it that has been usable for 1 s (R178). -/
theorem exec_sourceReturnTimer_moves {t : Time} {s u : State} (hf : Finds t s u) {h k : Nat} (hh : h < 8) (hst : u.headSt h ≠ hIDLE)
    (hauto : u.gf (pgAve h) R.AVE_SYNC_SRC = 0)
    (hfirst : (List.range (u.source h)).find?
      (fun k => u.usableSrc h k && decide ((u.sync h k).since + 1000000000 ≤ u.walltime)) = some k) :
    exec (.sourceReturnTimer t h) s = .next (s.done (u.setSource h k 3)) := by
  change execSourceReturnTimer t h s = _
  have hc : ¬(8 ≤ h || u.headSt h = hIDLE || u.gf (pgAve h) R.AVE_SYNC_SRC != 0) = true := by simp [hh, hst, hauto]
  rw [execSourceReturnTimer, nxt_finds hf, if_neg hc, hfirst]

/-- Settles O20: a late lock and an edge are operations on the state found; the other three act under their rule's condition. -/
theorem syncEvents : Obligations.SyncEvents := by
  intro t s u h hf hh
  exact ⟨fun _ _ _ _ => nxt_when hf hh (State.lockLate h), exec_pllSettled_free hf hh, fun r => nxt_finds hf (State.genlockEdge r),
    fun c e => exec_syncSourceLost_late hf hh rfl, fun k => exec_sourceReturnTimer_moves hf hh⟩

end Sys2Proof.Proofs
end

section
/-! Messages of the chain: what a port sends is good (R237, R238); a received one is checked, answered and delivered once (R239). -/

namespace Sys2Proof.Proofs

open Sys2Proof Sys2Proof.Machine Sys2Proof.Laws

/-! A sealed message (R237, R238). -/

theorem length_leBytes (k n : Nat) : (leBytes k n).length = k := by
  induction k generalizing n with
  | zero => rfl
  | succ k ih => simp [leBytes, ih]

/-- What `sealMsg` puts before the CRC: the message with LSEQ in byte 1. -/
def numbered (seq : Nat) (m : List Byte) : List Byte := (m.take 1 ++ [BitVec.ofNat 8 seq]) ++ m.drop 2

theorem sealMsg_eq (seq : Nat) (m : List Byte) : sealMsg seq m = numbered seq m ++ leBytes 4 (crc32 (numbered seq m)) := rfl

theorem numbered_eq_set {m : List Byte} (h : 2 ≤ m.length) (seq : Nat) : numbered seq m = m.set 1 (BitVec.ofNat 8 seq) := by
  rw [List.set_eq_take_append_cons_drop, if_pos (by omega)]
  simp [numbered]

theorem length_numbered {m : List Byte} (h : 2 ≤ m.length) (seq : Nat) : (numbered seq m).length = m.length := by
  rw [numbered_eq_set h, List.length_set]

/-- LSEQ is byte 1; every other byte stays. -/
theorem mb_numbered {m : List Byte} (h : 2 ≤ m.length) (seq i : Nat) : mb (numbered seq m) i = if i = 1 then seq % 256 else mb m i := by
  have hlen : 1 < m.length := h
  rw [numbered_eq_set h, mb, mb, List.getD_eq_getElem?_getD, List.getElem?_set]
  by_cases hi : i = 1
  · simp [hi, hlen]
  · simp [hi, Ne.symm hi]

/-- The CRC lies after the message's own bytes. -/
theorem mb_sealMsg {m : List Byte} (h : 2 ≤ m.length) (seq : Nat) {i : Nat} (hi : i < m.length) :
    mb (sealMsg seq m) i = if i = 1 then seq % 256 else mb m i := by
  rw [sealMsg_eq, mb, List.getD_append _ _ _ _ (by rwa [length_numbered h]), ← mb, mb_numbered h]

theorem take_sealMsg {m : List Byte} (h : 2 ≤ m.length) (seq : Nat) : (sealMsg seq m).take m.length = numbered seq m := by
  rw [sealMsg_eq, ← length_numbered h seq, List.take_left]

/-- The last four bytes hold the CRC of those before them. -/
theorem mle_sealMsg_crc {m : List Byte} (h : 2 ≤ m.length) (seq : Nat) : mle (sealMsg seq m) m.length 4 = crc32 (numbered seq m) := by
  rw [mle, sealMsg_eq, ← length_numbered h seq, List.drop_left, List.take_of_length_le (length_leBytes _ _).le, ofLe_crc32]

/-- A message is good when the bytes that its type gives it are followed by their CRC, and by nothing else. -/
theorem msgGood_iff {m : List Byte} {n : Nat} (hn : n = if 0x40 ≤ mType m ∧ mType m ≤ 0x43 then 12 + mb m 7 else 24) :
    msgGood m = true ↔ m.length = n + 4 ∧ mle m n 4 = crc32 (m.take n) := by
  simp [msgGood, hn]

/-- Settles O56: LSEQ changes neither the type nor the payload's length, from which the receiver finds the length and the CRC. -/
theorem chainSeal : Obligations.ChainSeal := by
  intro seq m hm hlen
  have h2 : 2 ≤ m.length := by omega
  have type : mType (sealMsg seq m) = mType m := mb_sealMsg h2 seq (by omega)
  have count : mb (sealMsg seq m) 7 = mb m 7 := mb_sealMsg h2 seq (by omega)
  have total : (sealMsg seq m).length = m.length + 4 := by rw [sealMsg_eq, List.length_append, length_numbered h2, length_leBytes]
  refine ⟨?_, type, mb_sealMsg h2 seq (by omega), ?_⟩
  · rw [msgGood_iff (n := m.length) (by rw [type, count, hlen])]
    exact ⟨total, by rw [take_sealMsg h2, mle_sealMsg_crc h2]⟩
  · rw [take_sealMsg h2, numbered_eq_set h2, List.drop_set_of_lt (by decide)]

/-! A received message (R239). -/

theorem recvMsg_unheard {u : State} {b : Bool} {ty : Nat} {m : List Byte} (h : u.portUp b = false ∨ mType m ≠ ty)
    (go : State → State) : u.recvMsg b ty m go = u := by
  have hc : (!u.portUp b || mType m != ty) = true := by simpa using h
  rw [State.recvMsg, if_pos hc]

section Arrived

variable {u : State} {b : Bool} {ty : Nat} {m : List Byte} (hp : u.portUp b = true) (ht : mType m = ty) (go : State → State)

include hp ht

theorem recvMsg_damaged (hn : ty ≠ 0x30 ∧ ty ≠ 0x31) (hg : msgGood m = false) :
    u.recvMsg b ty m go = u.chSend b (u.ctl 0x31 0 false 0 (leBytes 1 (mSeq m))) := by
  simp [State.recvMsg, hp, ht, hn, hg]

theorem recvMsg_copy (hn : ty ≠ 0x30 ∧ ty ≠ 0x31) (hg : msgGood m = true) (hs : (u.port b).rxSeq = some (mSeq m)) :
    u.recvMsg b ty m go = u.chSend b (u.ctl 0x30 0 false 0 (leBytes 1 (mSeq m))) := by
  simp [State.recvMsg, hp, ht, hn, hg, hs]

/-- ACK and NAK are acted on when they are good, and not answered. -/
theorem recvMsg_link (hl : ty = 0x30 ∨ ty = 0x31) : u.recvMsg b ty m go = if msgGood m = true then go u else u := by
  simp [State.recvMsg, hp, ht, hl]

end Arrived

/-- ACK or NAK that is damaged, of another type, or not through a port that is UP has no effect. -/
theorem recvMsg_link_dropped {u : State} {b : Bool} {ty : Nat} {m : List Byte} (hl : ty = 0x30 ∨ ty = 0x31)
    (h : u.portUp b = false ∨ msgGood m = false ∨ mType m ≠ ty) (go : State → State) : u.recvMsg b ty m go = u := by
  by_cases hu : u.portUp b = false ∨ mType m ≠ ty
  · exact recvMsg_unheard hu go
  · obtain ⟨hp, ht⟩ : u.portUp b = true ∧ mType m = ty := by simpa using hu
    have hg : msgGood m = false := by simpa [hp, ht] using h
    simp [recvMsg_link hp ht go hl, hg]

/-- The command receives messages of its type through port `b`, and answers them (R239). -/
def Receives (t : Time) (b : Bool) (m : List Byte) (x : Instr × Nat) : Prop :=
  (x.2 ≠ 0x30 ∧ x.2 ≠ 0x31) ∧ ∃ go, ∀ s, exec x.1 s = nxt t (State.recvMsg b x.2 m go) s

theorem receives_chainMessages (t : Time) (b : Bool) (m : List Byte) : ∀ x ∈ chainMessages t b m, Receives t b m x := by
  have row {c : Instr} {ty : Nat} {go : State → State} (hn : ty ≠ 0x30 ∧ ty ≠ 0x31)
      (hc : ∀ s, exec c s = nxt t (State.recvMsg b ty m go) s) : Receives t b m (c, ty) := ⟨hn, go, hc⟩
  simp only [chainMessages, List.forall_mem_cons, List.not_mem_nil, false_imp_iff, implies_true, and_true]
  refine ⟨?_, ?_, ?_, ?_, ?_, ?_, ?_, ?_, ?_, ?_, ?_, ?_, ?_, ?_, ?_, ?_, ?_, ?_, ?_, ?_⟩ <;> exact row (by decide) fun _ => rfl

/-- Settles O23: every answered message is received alike; ACK and NAK are not answered. -/
theorem chainLinkRules : Obligations.ChainLinkRules := by
  intro t s u b m c ty hf hc
  obtain ⟨hn, go, hgo⟩ := receives_chainMessages t b m _ hc
  have recv : exec c s = .next (s.done (u.recvMsg b ty m go)) := (hgo s).trans (nxt_finds hf _)
  have ack : exec (.ackMsg t b m) s = .next (s.done (u.recvMsg b 0x30 m fun x => x.ackSeq b (mb m 8))) := nxt_finds hf _
  have nak : exec (.nakMsg t b m) s = .next (s.done (u.recvMsg b 0x31 m fun x => x.noAck b (some (mb m 8)))) := nxt_finds hf _
  refine ⟨fun h => ?_, fun hp ht hg => ?_, fun hp hg ht hs => ?_, fun hp ht hg => ?_, fun hp ht hg => ?_, fun h => ?_, fun h => ?_,
    nxt_finds hf (State.noAck b none)⟩
  · rw [recv, recvMsg_unheard h]
  · rw [recv, recvMsg_damaged hp ht go hn hg]
  · rw [recv, recvMsg_copy hp ht go hn hg hs]
  · rw [ack, recvMsg_link hp ht _ (.inl rfl), if_pos hg]
  · rw [nak, recvMsg_link hp ht _ (.inr rfl), if_pos hg]
  · rw [ack, recvMsg_link_dropped (.inl rfl) h]
  · rw [nak, recvMsg_link_dropped (.inr rfl) h]

end Sys2Proof.Proofs
end

section
/-! Messages of time, addresses and topology, the wall's messages, management messages and mailboxes (R231 to R238, R242, R245, R249 to
R261). -/

namespace Sys2Proof.Proofs

open Sys2Proof Sys2Proof.Machine Sys2Proof.Laws

/-! What a command that receives a message does with one that it hears (R236, R239). -/

section Heard

variable {t : Time} {c : Instr} {s u : State} {b : Bool} {ty : Nat} {m : List Byte} (hf : Finds t s u) (h : u.hears b ty m)
  (hn : ty ≠ 0x30 ∧ ty ≠ 0x31)

include hf h hn

theorem exec_recvMsg {go : State → State} (hc : exec c s = nxt t (State.recvMsg b ty m go) s) :
    exec c s = .next (s.done (go (u.heard b m))) := by
  rw [hc, nxt_finds hf, recvMsg_hears go h hn]

theorem exec_bcastMsg {go : State → State} (hup : (u.heard b m).upPort = some b)
    (hc : exec c s = nxt t (State.bcastMsg b ty m go) s) : exec c s = .next (s.done (go ((u.heard b m).forward b m))) := by
  rw [hc, nxt_finds hf, bcastMsg_heard go h hn hup]

theorem exec_unicastMsg {go : State → State} (hd : (u.heard b m).destined m)
    (hc : exec c s = nxt t (State.unicastMsg b ty m go) s) : exec c s = .next (s.done (go (u.heard b m))) := by
  rw [hc, nxt_finds hf, unicastMsg_destined go h hn hd]

/-- A message for another unit goes on (R236). -/
theorem exec_unicastMsg_passed {go : State → State} (hd : ¬(u.heard b m).destined m)
    (hc : exec c s = nxt t (State.unicastMsg b ty m go) s) : exec c s = .next (s.done ((u.heard b m).forward b m)) := by
  have hd' : ¬((u.heard b m).addrValid && mDst m = (u.heard b m).ownAddr) = true := by simpa [State.destined] using hd
  rw [hc, nxt_finds hf, State.unicastMsg, recvMsg_hears _ h hn, if_neg hd']

theorem exec_forMaster {go : State → State} (hd : (u.heard b m).destined m) (hm : (u.heard b m).isMaster = true)
    (hc : exec c s = nxt t (State.forMaster b ty m go) s) : exec c s = .next (s.done (go (u.heard b m))) := by
  rw [exec_unicastMsg hf h hn hd hc, if_pos hm]

theorem exec_forMember {go : Nat → State → State} (hd : (u.heard b m).destined m) (hh : (u.heard b m).namesHead m)
    (hc : exec c s = nxt t (State.forMember b ty m go) s) :
    exec c s = .next (s.done (go (wMember m % 8) (u.heard b m))) := by
  obtain ⟨hunit, hmem, hgrp⟩ := hh
  have hh' : (wMember m / 8 = (u.heard b m).ownAddr && (u.heard b m).isMember (wMember m % 8) &&
      (u.heard b m).headGroup (wMember m % 8) = wGroup m) = true := by simp [hunit, hmem, hgrp]
  rw [exec_unicastMsg hf h hn hd hc]
  exact congrArg (fun x => Host.Outcome.next (s.done x)) (if_pos hh')

end Heard

/-! Time, enumeration and topology. -/

/-- Settles O24: once heard, each row does what its message brings; STEP, ADDR_REQ and TOPO decide by the state in which they act. -/
theorem chainControl : Obligations.ChainControl := by
  intro t s u b m v hf hv
  subst hv
  refine ⟨fun h hup => exec_bcastMsg hf h (by decide) hup rfl, fun h hup hs => ?_, fun h hup hs => ?_,
    fun h => exec_recvMsg hf h (by decide) rfl, fun h hm => ?_, fun e h hm he hne => ?_, fun h hm he => ?_,
    fun h => exec_recvMsg hf h (by decide) rfl, fun x h hup hx => ?_, fun h hd => exec_unicastMsg hf h (by decide) hd rfl,
    fun h hd => exec_unicastMsg_passed hf h (by decide) hd rfl⟩
  · refine (exec_bcastMsg hf h (by decide) hup rfl).trans ?_
    rw [if_pos hs]
  · refine (exec_bcastMsg hf h (by decide) hup rfl).trans ?_
    rw [if_neg (by simp [hs])]
  · refine (exec_recvMsg hf h (by decide) rfl).trans ?_
    rw [if_pos hm]
  · refine (exec_recvMsg hf h (by decide) rfl).trans ?_
    simp only [hm, he, hne, Bool.false_eq_true, if_false]
  · refine (exec_recvMsg hf h (by decide) rfl).trans ?_
    simp only [hm, he, Bool.false_eq_true, if_false]
  · have topo : exec (.topo t b m) s = .next (s.done (if mb m 8 % 4 = 2 then x.ringRoutes x.topoUnits
        else if x.topoBrk = (0, 0) then { x with cutOff := [] } else x.cutRoutes x.topoBrk.1 x.topoBrk.2)) := by
      rw [hx]
      exact (exec_bcastMsg hf h (by decide) hup rfl).trans rfl
    refine ⟨fun hring => ?_, fun hline hb => ?_, fun hline hb => ?_⟩
    · rw [topo, if_pos hring]
    · rw [topo, if_neg hline, if_pos hb]
    · rw [topo, if_neg hline, if_neg hb]

/-! The wall. -/

/-- Settles O25: once heard, each row acts on the master, or on the member head that it names; LATE_COMMIT acts on that head while it
holds the READY that the message answers. -/
theorem wallMessages : Obligations.WallMessages := by
  intro t s u b m v hf hv
  subst hv
  refine ⟨fun h hd hm => exec_forMaster hf h (by decide) hd hm rfl, fun h hup => exec_bcastMsg hf h (by decide) hup rfl,
    fun h hup => exec_bcastMsg hf h (by decide) hup rfl,
    fun h hd hh => exec_forMember (go := fun x w => w.excludeHere x (wGroup m) 0 false) hf h (by decide) hd hh rfl,
    fun h hd hh => exec_forMember (go := fun x w => w.readmitHere x (wGroup m)) hf h (by decide) hd hh rfl,
    fun h hd hm => exec_forMaster hf h (by decide) hd hm rfl, fun h hd hm => exec_forMaster hf h (by decide) hd hm rfl,
    fun h hd hh hr => ?_, fun h hd hh hr => ?_, fun h hd hm => exec_forMaster hf h (by decide) hd hm rfl⟩
  · refine (exec_forMember hf h (by decide) hd hh rfl).trans ?_
    rw [if_pos hr]
  · refine (exec_forMember hf h (by decide) hd hh rfl).trans ?_
    rw [if_neg hr]

/-! Management messages and mailboxes. -/

/-- A request of the secure world that does not come from address 0 is refused, and waits for nothing (R250). -/
theorem serveMsg_denied {v : State} {m : List Byte} (hw : mTop m = true) (hsrc : mSrc m ≠ 0) :
    v.serveMsg m = (v.err PG_CHN SECURE_DENIED).unicast (v.mgmtRsp m SECURE_DENIED 0 []) := by
  simp [State.serveMsg, State.serveNow, hw, hsrc]

/-- A response that answers no request of a mailbox is discarded (R249, R251). -/
theorem takeRsp_late {v : State} {m : List Byte} (h : v.mbOf (mb m 6) (mTop m) = false) : v.takeRsp m = v := by
  simp [State.takeRsp, h]

theorem takeRsp_read {v : State} {m : List Byte} (h : v.mbOf (mb m 6) (mTop m) = true) (ht : mType m = 0x42) :
    v.takeRsp m = (v.mbStore (mTop m) (bytesWords (mb m 7 / 4) (m.drop 12))).mbDone (mTop m) (mb m 8) (mb m 9) := by
  simp [State.takeRsp, h, ht]

theorem takeRsp_write {v : State} {m : List Byte} (h : v.mbOf (mb m 6) (mTop m) = true) (ht : mType m ≠ 0x42) :
    v.takeRsp m = v.mbDone (mTop m) (mb m 8) (mb m 9) := by
  simp [State.takeRsp, h, ht]

/-- A request of a mailbox that has waited for 10 ms ends TIMEOUT (R251). -/
theorem exec_mbTimeout_due {t : Time} {s u : State} (hf : Finds t s u) {sec : Bool} {x : Nat × Nat × Time}
    (hx : u.mbReq.find? (fun p => p.1 == (if sec then 1 else 0)) = some x) (hlate : x.2.2 + 10000000 ≤ u.walltime) :
    exec (.mbTimeout t sec) s = .next (s.done (u.mbDone sec TIMEOUT 0)) := by
  change execMbTimeout t sec s = _
  rw [execMbTimeout, nxt_finds hf]
  simp only [hx, hlate, if_true]

/-- Settles O26: a message for this unit is served or completes the mailbox request that it answers. -/
theorem management : Obligations.Management := by
  intro t s u b m v hf hv
  subst hv
  refine ⟨fun h hd => exec_unicastMsg hf h (by decide) hd rfl, fun h hd => exec_unicastMsg hf h (by decide) hd rfl,
    fun h hd hw hsrc => ?_, fun h hd hr => ?_, fun h hd hr => ?_, fun h hd hr => ?_, fun p sec w => ?_,
    fun sec x hx hlate => exec_mbTimeout_due hf hx hlate⟩
  · rw [← serveMsg_denied hw hsrc]
    exact exec_unicastMsg hf h (by decide) hd rfl
  · refine (exec_unicastMsg hf h (by decide) hd rfl).trans ?_
    rw [takeRsp_late hr]
  · rw [← takeRsp_read hr h.2.1]
    exact exec_unicastMsg hf h (by decide) hd rfl
  · have ht : mType m ≠ 0x42 := by simp [h.2.1]
    rw [← takeRsp_write hr ht]
    exact exec_unicastMsg hf h (by decide) hd rfl
  · exact requests_of (.inl rfl) hf rfl

end Sys2Proof.Proofs
end

section
/-! The ports of the chain (R226); its timers, steps of time and marks, TIME_SET, TIME_PPS_IN and the readmission request of the wall
(R28, R231, R240 to R246, R255, R258, R261). -/

namespace Sys2Proof.Proofs

open Sys2Proof Sys2Proof.Machine Sys2Proof.Laws

/-! A change of a port's state does not move the clock. -/

theorem walltime_raise (p b : Nat) (ev : Ev) (s : State) : (s.raise p b ev).walltime = s.walltime :=
  (calm_raise (d := false) (k := 0) (by simp [Quiet]) p b ev nofun s).walltime

theorem walltime_takeRole (up fresh : Option Bool) (b : Bool) (s : State) : (s.takeRole up fresh b).walltime = s.walltime := by
  rw [State.takeRole]
  split
  · exact walltime_raise _ _ _ _
  · rfl

theorem walltime_sendTrain (b : Bool) (s : State) : (s.sendTrain b).walltime = s.walltime := by
  rw [State.sendTrain]
  split <;> rfl

theorem walltime_timeLost (s : State) : s.timeLost.walltime = s.walltime := by
  rw [State.timeLost]
  split
  · exact walltime_raise _ _ _ _
  · rfl

/-- The first part of `State.roles`: the ports take their roles, UP_PORT and HOPS show them, TRAIN tells them (R227). -/
def tellRoles (fresh : Option Bool) (s : State) : State :=
  let up := s.pickUp
  let s := (s.takeRole up fresh false).takeRole up fresh true
  let s := s.sf PG_CHN R.CHN_STATUS_UP_PORT (if s.isMaster then 2 else match up with | some b => pnum b | none => 3)
  let s := s.sf PG_CHN R.CHN_STATUS_HOPS (match up with | some b => (s.port b).peerHops.getD 0 + 1 | none => 0)
  (s.sendTrain false).sendTrain true

/-- The second part: a port that is the upstream one no longer leads to the master no longer (R236). -/
def leaveUp (was up : Option Bool) (s : State) : State :=
  match was with
  | some b => if up = was then s else { s.endReach b with lastUp := b }
  | none => s

theorem roles_eq (fresh : Option Bool) (s : State) : s.roles fresh =
    if s.upPort.isSome && s.pickUp.isNone then (leaveUp s.upPort s.pickUp (tellRoles fresh s)).timeLost
    else leaveUp s.upPort s.pickUp (tellRoles fresh s) := rfl

theorem walltime_tellRoles (fresh : Option Bool) (s : State) : (tellRoles fresh s).walltime = s.walltime := by
  simp only [tellRoles, walltime_sendTrain, sf_walltime, walltime_takeRole]

theorem walltime_leaveUp (was up : Option Bool) (s : State) : (leaveUp was up s).walltime = s.walltime := by
  cases was with
  | none => rfl
  | some b =>
    rw [leaveUp]
    split <;> rfl

theorem walltime_roles (fresh : Option Bool) (s : State) : (s.roles fresh).walltime = s.walltime := by
  rw [roles_eq]
  split
  · rw [walltime_timeLost, walltime_leaveUp, walltime_tellRoles]
  · rw [walltime_leaveUp, walltime_tellRoles]

/-- A port that was not UP changes state without the loss of a link (R226). -/
theorem walltime_portTo {b : Bool} {s : State} (h : s.portSt b ≠ cUP) (new fault : Nat) :
    (s.portTo b new fault).walltime = s.walltime := by
  have hc : ¬(s.portSt b = cUP && new != cUP) = true := by simp [h]
  rw [State.portTo, if_neg hc, walltime_roles]
  split <;> rfl

/-! Ports. -/

/-- While a training that failed is less than 10 ms old the port does not train (R226). -/
theorem portWake_early {u : State} {b : Bool} {d : Time} (hd : (u.port b).retry = some d) (h : u.walltime < d) : u.portWake b = u := by
  have hc : ¬(u.port b).retry.all (fun d => decide (d ≤ u.walltime)) = true := by simp [hd, h]
  rw [State.portWake, if_neg]
  simp [hc]

theorem portWake_trains {u : State} {b : Bool} (hst : u.portSt b = cDOWN) (hsig : (u.port b).signal = true) (hen : u.portEn b = true)
    (hrun : u.pstate PG_CHN = pRUN) (htest : u.portTested b = false)
    (hretry : (u.port b).retry.all (fun d => decide (d ≤ u.walltime)) = true) : u.portWake b = u.portTo b cTRAINING 0 := by
  rw [State.portWake, if_pos]
  simp [hst, hsig, hen, hrun, htest, hretry]

section Ports

variable {t : Time} {s u : State} (hf : Finds t s u) {b : Bool}

include hf

/-- A training that succeeds on a port that does not become the upstream one leaves TIME alone (R226, R241). -/
theorem exec_chainTrainDone_trained {inv : Bool} {d : Nat} {o : Int} {v : State} (hst : u.portSt b = cTRAINING)
    (hid : (u.port b).peerId.isSome = true)
    (hv : ((u.sf PG_CHN (pfld b R.CHN_PORT_STATUS_A_RX_INVERTED) (if inv then 1 else 0)).sf PG_CHN
      (pfld b R.CHN_DELAY_A_DELAY) (min d 0xFFFFF)).portGoesUp b = v) (hup : v.upPort ≠ some b) :
    exec (.chainTrainDone t b inv d o) s = .next (s.done v) := by
  change execChainTrainDone t b inv d o s = _
  have hc : ¬(u.portSt b != cTRAINING || (u.port b).peerId.isNone) = true := by simp [hst, Option.isSome_iff_ne_none.1 hid]
  rw [execChainTrainDone, nxt_finds hf, if_neg hc]
  simp only [hv, if_neg hup]

/-- A training that has lasted 1 ms ends in DOWN, and is tried again 10 ms later (R226). -/
theorem exec_chainTrainTimeout_late (hst : u.portSt b = cTRAINING) (hlate : (u.port b).since + 1000000 ≤ u.walltime) :
    exec (.chainTrainTimeout t b) s = .next (s.done
      ((u.portTo b cDOWN 0).setPort b fun x => { x with retry := some ((u.portTo b cDOWN 0).walltime + 10000000) })) := by
  change execChainTrainTimeout t b s = _
  have hc : (u.portSt b = cTRAINING && decide ((u.port b).since + 1000000 ≤ u.walltime)) = true := by simp [hst, hlate]
  rw [execChainTrainTimeout, nxt_finds hf, if_pos hc, walltime_portTo (by rw [hst]; decide)]

theorem exec_chainTrainTimeout_early (h : u.walltime < (u.port b).since + 1000000) :
    exec (.chainTrainTimeout t b) s = .next (s.done u) := by
  change execChainTrainTimeout t b s = _
  have hc : ¬(u.portSt b = cTRAINING && decide ((u.port b).since + 1000000 ≤ u.walltime)) = true := by simp [h]
  rw [execChainTrainTimeout, nxt_finds hf, if_neg hc]

/-- A port leaves FAULT for DOWN after 100 ms (R226). -/
theorem exec_chainFaultClear_late (hst : u.portSt b = cFAULT) (hlate : (u.port b).since + 100000000 ≤ u.walltime) :
    exec (.chainFaultClear t b) s =
      .next (s.done ((u.setPort b fun x => { x with signal := false }).portTo b cDOWN 0)) := by
  change execChainFaultClear t b s = _
  have hc : (u.portSt b = cFAULT && decide ((u.port b).since + 100000000 ≤ u.walltime)) = true := by simp [hst, hlate]
  rw [execChainFaultClear, nxt_finds hf, if_pos hc]

theorem exec_chainFaultClear_idle (h : u.portSt b ≠ cFAULT ∨ u.walltime < (u.port b).since + 100000000) :
    exec (.chainFaultClear t b) s = .next (s.done u) := by
  change execChainFaultClear t b s = _
  have hc : ¬(u.portSt b = cFAULT && decide ((u.port b).since + 100000000 ≤ u.walltime)) = true := by
    simpa [imp_iff_not_or] using h
  rw [execChainFaultClear, nxt_finds hf, if_neg hc]

end Ports

/-- Settles O22: the rows of a port, each under its condition on the port's state and on how long the port has been in it. -/
theorem chainPorts : Obligations.ChainPorts := by
  intro t s u b hf
  have wake : exec (.chainTrainRetry t b) s = .next (s.done (u.portWake b)) := nxt_finds hf (State.portWake b)
  refine ⟨nxt_finds hf fun x => (x.setPort b fun y => { y with signal := true }).portWake b,
    fun inv d o hst hid hup => exec_chainTrainDone_trained hf hst hid rfl hup, exec_chainTrainTimeout_late hf,
    fun _ h => exec_chainTrainTimeout_early hf h, fun d hd h => ?_, fun hst hsig hen hrun htest hretry => ?_,
    fun inv id m h d a => nxt_finds hf fun x => x.trainMsg b inv id m h d a,
    fun sup => nxt_finds hf fun x => x.portTo b cFAULT (if sup then 2 else 1), exec_chainFaultClear_late hf,
    exec_chainFaultClear_idle hf, nxt_finds hf fun x => (x.setPort b fun y => { y with signal := false, retry := none }).portDrop b 3,
    fun p => requests_id (.inl rfl) hf rfl⟩
  · rw [wake, portWake_early hd h]
  · rw [wake, portWake_trains hst hsig hen hrun htest hretry]

/-! Probes (R240). -/

section Timers

variable {t : Time} {s u : State} (hf : Finds t s u)

include hf

theorem exec_delayProbe_sent {b : Bool} (hup : u.portUp b = true) (hrole : u.portRole b = 1 ∨ u.portRole b = 3) (t1 : Int) :
    exec (.delayProbe t b t1) s = .next (s.done
      { u.setPort b fun x => { x with probe := some t1 } with probeOut := u.probeOut ++ [(pnum b, [t1])] }) := by
  change execDelayProbe t b t1 s = _
  have hc : (u.portUp b && (u.portRole b = 1 || u.portRole b = 3)) = true := by simp [hup, hrole]
  rw [execDelayProbe, nxt_finds hf, if_pos hc]

theorem exec_probeReceived_answered {b : Bool} (hst : u.portUp b = true ∨ u.portSt b = cTRAINING ∨ u.portSt b = cHELD) (rx tx : Int) :
    exec (.probeReceived t b rx tx) s = .next (s.done { u with probeOut := u.probeOut ++ [(pnum b, [rx, tx])] }) := by
  change execProbeReceived t b rx tx s = _
  have hc : (u.portUp b || u.portSt b = cTRAINING || u.portSt b = cHELD) = true := by simpa [or_assoc] using hst
  rw [execProbeReceived, nxt_finds hf, if_pos hc]

/-! Marks and votes (R245, R246, R255, R261). -/

/-- A mark is sent once its time is at most 250 µs away (R245). -/
theorem exec_markSend_due {n : Nat} (hn : u.markNext = some n) (hdue : u.markNs n ≤ u.walltime + 250000) :
    exec (.markSend t) s = .next (s.done { u.sendMark n (u.markNs n) with markNext := some (n + 1) }) := by
  change execMarkSend t s = _
  rw [execMarkSend, nxt_finds hf]
  simp only [hn, Option.isNone_some, Bool.false_eq_true, if_false, if_neg (Nat.not_lt.2 hdue)]

/-- The only mark that is scheduled fires at its time (R246). -/
theorem exec_chainMarkFire_due {k : Mark} (hk : u.marks = [k]) (hdue : k.time ≤ u.walltime) :
    exec (.chainMarkFire t) s = .next (s.done (u.fireMark k)) := by
  change execChainMarkFire t s = _
  rw [execChainMarkFire, nxt_finds hf]
  simp only [hk, List.foldl_cons, List.foldl_nil, hdue, if_true]

/-- At the vote line of a mark that has fired the master votes, once for a group (R255). -/
theorem exec_wallVoteLine_votes {g n fired : Nat} (hg : g < 64) (hm : u.isMaster = true)
    (hn : u.g64 PG_CHN R.CHN_MARK_SEQ_LO_SEQ R.CHN_MARK_SEQ_HI_SEQ = n)
    (hfired : u.g64 PG_CHN R.CHN_MARK_TIME_LO_TIME R.CHN_MARK_TIME_HI_TIME = fired) (h0 : 0 < fired)
    (hline : fired + u.gf PG_CHN R.CHN_WALL_CFG_VOTE_US * 1000 ≤ u.walltime) (hv : (u.group g).voted ≠ some n) :
    exec (.wallVoteLine t g) s = .next (s.done (u.voteGroup g n)) := by
  change execWallVoteLine t g s = _
  have hc : ¬(!u.isMaster || fired = 0 || u.walltime < fired + u.gf PG_CHN R.CHN_WALL_CFG_VOTE_US * 1000 ||
      (u.group g).voted = some n || 64 ≤ g) = true := by
    simp [hm, hv, hg, hline, Nat.ne_of_gt h0]
  rw [execWallVoteLine, nxt_finds hf]
  simp only [hn, hfired, if_neg hc]

/-- A member with a standing READY that has lost the master excludes itself (R261). -/
theorem exec_selfExclude_alone {h g tag : Nat} (hh : h < 8) (hr : (u.wallOf h).ready = some (g, tag)) (hp : u.hasPath = false) :
    exec (.selfExclude t h) s = .next (s.done ((u.excludeHere h g 1 false).toMaster 0x18 h g 0 0)) := by
  change execSelfExclude t h s = _
  rw [execSelfExclude, nxt_finds hf]
  simp [hr, hh, hp]

/-- A mark of MARK_OUT is due at each whole second reached (R244). -/
theorem exec_timeMarkOutPulse_due (hen : u.tf PG_TIME R.TIME_MARK_OUT_EN = true)
    (hdue : u.markOutNext < u.walltime / 1000000000 * 1000000000) :
    exec (.timeMarkOutPulse t) s = .next (s.done { u with
      markOutNext := u.walltime / 1000000000 * 1000000000
      markHigh := some (u.gf PG_TIME R.TIME_MARK_OUT_PIN, u.walltime + 10000) }) := by
  change execTimeMarkOutPulse t s = _
  have hc : (u.tf PG_TIME R.TIME_MARK_OUT_EN && decide (u.markOutNext < u.walltime / 1000000000 * 1000000000)) = true := by
    simp [hen, hdue]
  rw [execTimeMarkOutPulse, nxt_finds hf]
  exact congrArg (fun x => Host.Outcome.next (s.done x)) (if_pos hc)

/-! Steps of time, TIME_PPS_IN (R242, R243). -/

/-- A step announced by STEP is taken at its time, in a mode that allows it (R28, R242). -/
theorem exec_timeStepApply_due {at_ new : Nat} (hs : u.stepAt = some (at_, new)) (hdue : at_ ≤ u.walltime) (hm : u.mayStep = true) :
    exec (.timeStepApply t) s = .next (s.done ({ u with stepAt := none }.stepTime (new + (u.walltime - at_)))) := by
  have hm' : ({ u with stepAt := none } : State).mayStep = true := hm
  change execTimeStepApply t s = _
  rw [execTimeStepApply, nxt_finds hf]
  simp only [hs, hm', if_neg (Nat.not_lt.2 hdue), if_true]

/-- TIME_PPS_IN is lost 3 s after its last edge (R243). -/
theorem exec_ppsLost_late {l : Time} (hl : u.ppsLast = some l) (hm : u.isMaster = true) (hen : u.tf PG_TIME R.TIME_PPS_CTRL_EN = true)
    (hlate : l + 3000000000 ≤ u.walltime) :
    exec (.ppsLost t) s = .next (s.done (({ u with ppsLast := none }.sf PG_TIME R.TIME_STATUS_PPS_PRESENT 0).raise PG_TIME 3 {})) := by
  have hc : (u.isMaster && u.tf PG_TIME R.TIME_PPS_CTRL_EN && decide (l + 3000000000 ≤ u.walltime)) = true := by simp [hm, hen, hlate]
  change execPpsLost t s = _
  rw [execPpsLost, nxt_finds hf]
  simp only [hl, hc, if_true]

end Timers

/-- The mode is not changed by a field of another register. -/
theorem mode_sf (s : State) {p : Nat} {f : Fld} (v : Nat) (h : pageBase PG_SYS + R.SYS_STATE_MODE.off ≠ pageBase p + f.off) :
    (s.sf p f v).mode = s.mode := gf_sf_elsewhere s p v f PG_SYS R.SYS_STATE_MODE h

/-- What an edge of TIME_PPS_IN shows: its error, that the pulse is present, and when it came (R243). -/
def showPps (e : Nat) (u : State) : State :=
  { (u.sf PG_TIME R.TIME_PPS_ERR_ERR e).sf PG_TIME R.TIME_STATUS_PPS_PRESENT 1 with ppsLast := some u.walltime }

theorem mayStep_showPps (e : Nat) (u : State) : (showPps e u).mayStep = u.mayStep := by
  have mode : (showPps e u).mode = u.mode := (mode_sf _ 1 (by decide)).trans (mode_sf u e (by decide))
  rw [State.mayStep, mode, State.mayStep]

/-- In a mode that allows no step of WALLTIME an edge does nothing more (R28, R243). -/
theorem ppsEdge_measures {u : State} (hm : u.isMaster = true) (hen : u.tf PG_TIME R.TIME_PPS_CTRL_EN = true) (hs : u.mayStep = false) :
    u.ppsEdge = showPps (ofInt 32 (secondErr ((u.walltime : Int) - (u.gf PG_TIME R.TIME_PPS_CTRL_DELAY_NS : Int)))) u := by
  rw [State.ppsEdge, if_neg (by simp [hm, hen])]
  refine if_neg fun hstep => ?_
  simp only [Bool.and_eq_true] at hstep
  obtain ⟨⟨⟨-, hmay⟩, -⟩, -⟩ := hstep
  exact Bool.false_ne_true (hs.symm.trans ((mayStep_showPps _ u).symm.trans hmay))

/-! Walks (R231, R233). -/

theorem enumWalk_member {u : State} (h : u.isMaster = false) (b : Bool) : u.enumWalk b = u := by
  simp [State.enumWalk, h]

/-- A walk through port A starts 100 ms after the last. -/
theorem enumWalk_first {u : State} (h : u.isMaster = true) (hdue : ∀ d, u.walkAt = some d → d + 100000000 ≤ u.walltime) :
    u.enumWalk false = { u with walkRing := false, walkDue := true, walkAt := some u.walltime }.sendEnum false u.unitCount 0 := by
  have hc : (u.walkAt.all fun d => decide (d + 100000000 ≤ u.walltime)) = true := by
    simpa [Option.all_eq_true] using hdue
  simp [State.enumWalk, h, hc]

/-- The walk through port B follows, unless ENUM has come back by it (log entry 159). -/
theorem enumWalk_second {u : State} (h : u.isMaster = true) (hdue : u.walkDue = true) :
    u.enumWalk true = if u.walkRing = true then { u with walkDue := false }
      else { u with walkDue := false }.sendEnum true u.unitCount 1 := by
  simp only [State.enumWalk, h, hdue, Bool.not_true, Bool.false_eq_true, if_false, if_true]
  rfl

/-- Settles O27: the rows of the chain's timers, each once it is due; a second of MARK_OUT is due as log entry 78 has it. -/
theorem chainTimers : Obligations.ChainTimers := by
  intro t s u b hf
  have walk (b : Bool) : exec (.enumWalk t b) s = .next (s.done (u.enumWalk b)) := nxt_finds hf (State.enumWalk b)
  have edge : exec (.ppsEdge t) s = .next (s.done u.ppsEdge) := nxt_finds hf State.ppsEdge
  refine ⟨fun t1 hup hrole => exec_delayProbe_sent hf hup hrole t1, fun rx tx hst => exec_probeReceived_answered hf hst rx tx,
    fun t1 t2 t3 t4 avg freq => nxt_finds hf fun x => x.probeReply b t1 t2 t3 t4 avg freq, fun hm hdue => ?_, fun hm hdue hring => ?_,
    fun hm hdue hring => ?_, fun hm => ?_, fun n => exec_markSend_due hf, fun k => exec_chainMarkFire_due hf,
    fun g n hg hm hn h0 hline hv => exec_wallVoteLine_votes hf hg hm hn rfl h0 hline hv, fun h g tag => exec_selfExclude_alone hf,
    fun at_ new => exec_timeStepApply_due hf, exec_timeMarkOutPulse_due hf, fun p => requests_id (.inl rfl) hf rfl,
    fun p v => requests_of (.inl rfl) hf rfl, fun hm hen hs => ?_, fun l => exec_ppsLost_late hf⟩
  · rw [walk, enumWalk_first hm hdue]
  · rw [walk, enumWalk_second hm hdue, if_pos hring]
  · rw [walk, enumWalk_second hm hdue, if_neg (by simp [hring])]
  · rw [walk, enumWalk_member hm]
  · rw [edge, ppsEdge_measures hm hen hs]
    rfl

end Sys2Proof.Proofs
end

section
/-! When GO of a mailbox and an operation of INST_CMD are accepted (R249, R302). -/

namespace Sys2Proof.Proofs

open Sys2Proof Sys2Proof.Machine Sys2Proof.Laws

/-- In RUN only a request's own checks refuse it (R61). -/
theorem reqCode_run {s : State} {p : Nat} (h : s.pstate p = pRUN) (l : List (Bool × Nat)) : s.reqCode p l = refusal l := by
  have hp : s.pageCode p = none := if_pos h
  rw [State.reqCode, hp]
  simp only [List.append_nil]
  cases refusal l <;> rfl

/-- The codes of R75 that these requests are refused with. -/
theorem mem_r75 : LINK_ERROR ∈ r75 ∧ BAD_ARG ∈ r75 ∧ IN_SERVICE ∈ r75 ∧ WRONG_STATE ∈ r75 := by decide

/-- A mailbox accepts a request to the own address while it is not BUSY and the range lies in a register page (R249). -/
theorem mbCode_own {s : State} {sec : Bool} (hrun : s.pstate PG_CHN = pRUN) (hv : s.addrValid = true)
    (hdst : s.gf PG_CHN (mbFld sec R.MB_CMD_DST) = s.ownAddr) :
    s.mbCode sec = none ↔ s.tf PG_CHN (mbFld sec R.MB_STATUS_BUSY) = false ∧
      1 ≤ s.gf PG_CHN (mbFld sec R.MB_CMD_COUNT) ∧ s.gf PG_CHN (mbFld sec R.MB_CMD_COUNT) ≤ 16 ∧
      0x100000 ≤ s.gf PG_CHN (mbFld sec R.MB_OFFSET_OFFSET) ∧ s.gf PG_CHN (mbFld sec R.MB_OFFSET_OFFSET) < 0x200000 ∧
      s.gf PG_CHN (mbFld sec R.MB_OFFSET_OFFSET) % 4 = 0 ∧
      s.gf PG_CHN (mbFld sec R.MB_OFFSET_OFFSET) % 0x1000 + 4 * s.gf PG_CHN (mbFld sec R.MB_CMD_COUNT) ≤ 0x1000 := by
  have away : (s.addrValid && s.gf PG_CHN (mbFld sec R.MB_CMD_DST) != s.ownAddr) = false := by simp [hdst]
  simp only [State.mbCode, reqCode_run hrun, refusal_eq_none_iff, List.forall_mem_cons, mem_r75, away]
  generalize s.gf PG_CHN (mbFld sec R.MB_CMD_COUNT) = cnt
  generalize s.gf PG_CHN (mbFld sec R.MB_OFFSET_OFFSET) = off
  refine Iff.trans ?_ and_comm
  simp [hv, and_assoc, Nat.one_le_iff_ne_zero]

/-- An operation of INST_CMD is accepted when its code is defined, the address of operations 6 and 7 is aligned, the state found allows
it, and ACTIVATE passes its own checks (R301, R302). -/
theorem instCmdCode_eq_none_iff {s : State} (hrun : s.pstate PG_INST = pRUN) {i op : Nat} (hi : s.gf PG_INST R.INST_CMD_INSTANCE = i)
    (hop : s.gf PG_INST R.INST_CMD_OP = op) : instCmdAct.code s = none ↔
      (op ≤ 7 ∧ (op = 6 ∨ op = 7 → s.g64 PG_INST R.INST_CMD_ARG_LO_ADDR R.INST_CMD_ARG_HI_ADDR % 4096 = 0)) ∧
      s.opLegal i op = true ∧ (op = 1 → ∀ x ∈ s.activateChecks i, x.2 ∈ r75 → x.1 = false) := by
  subst hi
  simp only [instCmdAct, reqCode_run hrun, refusal_eq_none_iff, hop, List.forall_mem_append, List.forall_mem_cons, mem_r75]
  cases hl : s.opLegal (s.gf PG_INST R.INST_CMD_INSTANCE) op with
  | false => simp
  | true =>
    by_cases h1 : op = 1
    · simp [h1]
    · simp [h1]

/-- Settles O53: the first five operations without checks of their own are accepted exactly where they are legal; the other three only
there. -/
theorem requestCodes : Obligations.RequestCodes := by
  refine ⟨fun s sec => mbCode_own, fun s i op hrun hi hop => ?_⟩
  have code := instCmdCode_eq_none_iff hrun hi hop
  have plain (h : op ≠ 1 ∧ op < 6) : instCmdAct.code s = none ↔ s.opLegal i op = true := by
    have hne : op ≤ 7 ∧ op ≠ 6 ∧ op ≠ 7 := by omega
    simp [code, h.1, hne]
  have legal (h : instCmdAct.code s = none) : s.opLegal i op = true := (code.1 h).2.1
  refine ⟨fun h => ?_, fun h hc => ?_, fun h => ?_, fun h => ?_, fun h => ?_, fun h => ?_, fun h hc => ?_, fun h hc => ?_⟩
  · simp [plain (by omega), h, State.opLegal]
  · simpa [h, State.opLegal] using legal hc
  · simp [plain (by omega), h, State.opLegal, or_assoc]
  · simp [plain (by omega), h, State.opLegal]
  · simp [plain (by omega), h, State.opLegal]
  · simp [plain (by omega), h, State.opLegal]
  · have hl := legal hc
    simp only [h, State.opLegal, Bool.and_eq_true, decide_eq_true_eq] at hl
    exact hl.1.1
  · have hl := legal hc
    simp only [h, State.opLegal, Bool.and_eq_true, decide_eq_true_eq] at hl
    exact hl.1

end Sys2Proof.Proofs
end

section
/-! DisplayPort: hot plug, capability reads and the retry of a link that has failed; AUX requests, and shorts on AUX and the lanes
(R266 to R269, R275, R276, R278, R280 to R282, R284). -/

namespace Sys2Proof.Proofs

open Sys2Proof Sys2Proof.Machine Sys2Proof.Laws

/-! Hot plug (R268, R278, R280). -/

/-- HPD that goes high while a link is connected, and not held stuck low, is shown and starts nothing (R268, R280). -/
theorem hpdPlug_connected {u : State} {h : Nat} (hwatch : u.hpdWatched h = true) (hst : u.linkSt h ≠ lNO_SINK)
    (hstuck : u.gf (pgDpl h) R.DPL_STATUS_HPD_STUCK ≠ 1) (terms : Nat) :
    u.hpdPlug h terms =
      (u.sf (pgDpl h) R.DPL_STATUS_HPD 1).setDp h fun x => { x with hpdLow := false, stuckSince := none } := by
  have stuck (f : Dp → Dp) : ((u.sf (pgDpl h) R.DPL_STATUS_HPD 1).setDp h f).gf (pgDpl h) R.DPL_STATUS_HPD_STUCK ≠ 1 := by
    change (u.sf (pgDpl h) R.DPL_STATUS_HPD 1).gf (pgDpl h) R.DPL_STATUS_HPD_STUCK ≠ 1
    rwa [gf_sf_ne (by decide) (by decide) (by decide)]
  have link (f : Dp → Dp) : ((u.sf (pgDpl h) R.DPL_STATUS_HPD 1).setDp h f).linkSt h ≠ lNO_SINK := by
    change (u.sf (pgDpl h) R.DPL_STATUS_HPD 1).gf (pgDpl h) R.DPL_STATUS_LINK_STATE ≠ lNO_SINK
    rwa [gf_sf_ne (by decide) (by decide) (by decide), ← State.linkSt]
  rw [State.hpdPlug, if_neg (by simp [hwatch])]
  simp only [if_neg (stuck _), if_neg (link _)]

/-- An IRQ_HPD that comes during a training waits for its end (R278). -/
theorem hpdIrq_training {u : State} {h : Nat} (hwatch : u.hpdWatched h = true) (hst : u.linkSt h = lTRAINING) (d : List Byte) :
    u.hpdIrq h d = u.setDp h fun x => { x with irq := some d } := by
  simp [State.hpdIrq, hwatch, hst, lTRAINING, lNO_SINK]

/-- On a link that is UP, with AUX working, it is acted on at once (R278). -/
theorem hpdIrq_up {u : State} {h : Nat} (hwatch : u.hpdWatched h = true) (hst : u.linkSt h = lUP)
    (haux : u.tf (pgDpl h) R.DPL_STATUS_AUX_FAULT = false) (d : List Byte) : u.hpdIrq h d = u.irqService h d := by
  simp [State.hpdIrq, State.irqActs, hwatch, hst, haux, lUP, lNO_SINK, lREAD_CAPS, lTRAINING]

/-! Capabilities and the retry (R268). -/

theorem capsDone_failed {u : State} {h : Nat} (hh : h < 8) (hst : u.linkSt h = lREAD_CAPS) (terms : Nat) :
    u.capsDone h terms none = (u.setDp h fun x => { x with terms }).capsFail h := by
  simp [State.capsDone, hh, hst]

/-- A link that has failed is read again 1 s later, unless only a plug or a lane can help it (R268, R280). -/
theorem exec_linkFailRetry_due {t : Time} {s u : State} (hf : Finds t s u) {h : Nat} (hh : h < 8) (hst : u.linkSt h = lFAILED)
    (hdue : (u.dp h).failAt + 1000000000 ≤ u.walltime) (hreason : u.gf (pgDpl h) R.DPL_STATUS_FAIL_REASON ≠ NO_RESOURCE)
    (hstuck : u.gf (pgDpl h) R.DPL_STATUS_HPD_STUCK ≠ 2) :
    exec (.linkFailRetry t h) s = .next (s.done (u.readCaps h)) := by
  change execLinkFailRetry t h s = _
  have hc : (h < 8 && u.linkSt h = lFAILED && (u.dp h).failAt + 1000000000 ≤ u.walltime &&
      u.gf (pgDpl h) R.DPL_STATUS_FAIL_REASON != NO_RESOURCE && u.gf (pgDpl h) R.DPL_STATUS_HPD_STUCK != 2) = true := by
    simp [hh, hst, hdue, hreason, hstuck]
  rw [execLinkFailRetry, nxt_finds hf, if_pos hc]

/-- The pages of the outputs are the controller's, so that their registers never wait for the die-to-die link (R17). -/
theorem companionPage_pgDpl {h : Nat} (hh : h < 8) : companionPage (pgDpl h) = false := by
  have hlow : ¬96 ≤ 56 + h := by omega
  simp [companionPage, pgDpl, hlow]

theorem requests_dplRetrain {t : Time} {s u : State} (hf : Finds t s u) (p : Port) {h : Nat} (hh : h < 8) :
    Requests (.dplRetrain t p h) s u p (pgDpl h) 0x40 id (dplRetrainAct h) := by
  have hexec : exec (.dplRetrain t p h) s = nxt t (fun x => x.guarded p (pgDpl h) 0x40 (dplRetrainAct h).run) s :=
    nxt_congr hf (f := fun x => if h < 8 then x.guarded p (pgDpl h) 0x40 (dplRetrainAct h).run else x) (if_pos hh)
  exact requests_id (.inl (companionPage_pgDpl hh)) hf hexec

/-- Settles O28: each event is its operation on the state that it finds, which the lemmas above give for a link's state; the retry acts
once it is due, and RETRAIN is a request of its register. -/
theorem dpLink : Obligations.DpLink := by
  intro t s u h hf hh
  have plug (terms : Nat) : exec (.hpdPlug t h terms) s = .next (s.done (u.hpdPlug h terms)) := nxt_finds hf (State.hpdPlug h terms)
  have irq (d : List Byte) : exec (.hpdIrq t h d) s = .next (s.done (u.hpdIrq h d)) := nxt_finds hf (State.hpdIrq h d)
  have caps (terms : Nat) (bs : Option (List Byte)) : exec (.capsReadDone t h terms bs) s = .next (s.done (u.capsDone h terms bs)) :=
    nxt_finds hf (State.capsDone h terms bs)
  refine ⟨fun terms hwatch hst hstuck => ?_, plug, fun d hwatch hst => ?_, fun d hwatch hst haux => ?_, nxt_finds hf (State.hpdGone h),
    fun terms => nxt_finds hf (State.termSense h terms), fun terms hst => ?_, caps,
    fun cr1 cr2 eq => nxt_finds hf (State.trainConfig h cr1 cr2 eq), exec_linkFailRetry_due hf hh,
    fun p => requests_dplRetrain hf p hh, fun hpd => nxt_when hf hh (State.panelTimer h hpd)⟩
  · rw [plug, hpdPlug_connected hwatch hst hstuck]
  · rw [irq, hpdIrq_training hwatch hst]
  · rw [irq, hpdIrq_up hwatch hst haux]
  · rw [caps, capsDone_failed hh hst]

/-! AUX (R275, R276, R281). -/

/-- A write of DPL_AUX_CMD that reaches the register stores its word and asks for the transaction (R275). -/
theorem auxGo_admits {u : State} {p : Port} {h : Nat} (ha : u.admits p (pgDpl h) 0x60) (v : Word) :
    u.auxGo p h v = (auxAct (portSecure p) h v).run (u.plainWrite (portSecure p) (pgDpl h) 0x60 v) := by
  have ⟨_, hcode, _⟩ := ha
  have hc : ¬(u.portServed p && u.writeCode (portSecure p) (pgDpl h) 0x60 15 = some (SECURE_DENIED, pgDpl h)) = true := by
    simp [hcode]
  simp only [State.auxGo, if_neg hc, guarded_admits _ ha]

/-- A normal-world writer on a secure-owned page is refused, and finds the code in STATUS too (R275). -/
theorem auxGo_secureDenied {u : State} {p : Port} {h : Nat} (hp : u.portServed p = true)
    (hw : u.writeCode (portSecure p) (pgDpl h) 0x60 15 = some (SECURE_DENIED, pgDpl h)) (v : Word) :
    u.auxGo p h v = (u.err (pgDpl h) SECURE_DENIED).sf (pgDpl h) R.DPL_AUX_STATUS_STATUS SECURE_DENIED := by
  have hc : (u.portServed p && u.writeCode (portSecure p) (pgDpl h) 0x60 15 = some (SECURE_DENIED, pgDpl h)) = true := by
    simp [hp, hw]
  simp only [State.auxGo, if_pos hc, guarded_refused hp hw]

/-- A reply on a working AUX is the software request's, or the link layer's (R276). -/
theorem exec_auxTransactionDone_working {t : Time} {s u : State} (hf : Finds t s u) {h : Nat} (hh : h < 8)
    (haux : u.tf (pgDpl h) R.DPL_STATUS_AUX_FAULT = false) (sw : Bool) (a r : Nat) (y : AuxReply) :
    exec (.auxTransactionDone t h sw a r y) s =
      .next (s.done (if sw = true then u.swReply h a r y else u.llReply h a r y)) := by
  change execAuxTransactionDone t h sw a r y s = _
  rw [execAuxTransactionDone, nxt_finds hf, if_neg (by simp [haux, hh])]

/-- While AUX is in FAULT no transaction is sent, and none ends (R281). -/
theorem exec_auxTransactionDone_fault {t : Time} {s u : State} (hf : Finds t s u) {h : Nat}
    (haux : u.tf (pgDpl h) R.DPL_STATUS_AUX_FAULT = true) (sw : Bool) (a r : Nat) (y : AuxReply) :
    exec (.auxTransactionDone t h sw a r y) s = .next (s.done u) := by
  change execAuxTransactionDone t h sw a r y s = _
  rw [execAuxTransactionDone, nxt_finds hf, if_pos (by simp [haux])]

/-- A transaction without a reply is a transaction error (R276). -/
theorem exec_auxReplyTimeout_working {t : Time} {s u : State} (hf : Finds t s u) {h : Nat} (hh : h < 8)
    (haux : u.tf (pgDpl h) R.DPL_STATUS_AUX_FAULT = false) (sw : Bool) (a r : Nat) :
    exec (.auxReplyTimeout t h sw a r) s = .next (s.done (u.auxError h sw a r)) := by
  change execAuxReplyTimeout t h sw a r s = _
  rw [execAuxReplyTimeout, nxt_finds hf, if_neg (by simp [haux, hh])]

/-! Shorts (R281, R282). -/

/-- A short of the AUX pair is seen in every state of the page but OFF (R281). -/
theorem exec_auxShort_seen {t : Time} {s u : State} (hf : Finds t s u) {h k : Nat} (hh : h < 8) (hk : k = 1 ∨ k = 2)
    (hp : u.pstate (pgDpl h) ≠ pOFF) : exec (.auxShort t h k) s = .next (s.done (u.auxShorts h k)) := by
  change execAuxShort t h k s = _
  have hc : (h < 8 && (k = 1 || k = 2) && u.pstate (pgDpl h) != pOFF) = true := by simp [hh, hk, hp]
  rw [execAuxShort, nxt_finds hf, if_pos hc]

/-- What a short of a lane shows: LANE_SHORT of the lane, and LANE_FAULT with its kind (R282). -/
def showLaneShort (h l k : Nat) (u : State) : State :=
  (u.sf (pgDpl h) R.DPL_STATUS_LANE_SHORT (setBit (u.gf (pgDpl h) R.DPL_STATUS_LANE_SHORT) l true)).dplRaise h 10 { d6 := l, d7 := k }

/-- A new short of a lane is shown, and retrains a link that uses the lane (R268, R282). -/
theorem exec_laneShortDetect_new {t : Time} {s u : State} (hf : Finds t s u) {h l k : Nat} (hh : h < 8) (hl : l < 4)
    (hk : k = 1 ∨ k = 2) (hp : u.pstate (pgDpl h) ≠ pOFF) (hb : bit (u.gf (pgDpl h) R.DPL_STATUS_LANE_SHORT) l = false) :
    exec (.laneShortDetect t h l k) s = .next (s.done
      (if (showLaneShort h l k u).laneUsed h l = true then (showLaneShort h l k u).retrain h 1 else showLaneShort h l k u)) := by
  change execLaneShortDetect t h l k s = _
  have hkind : (k != 1 && k != 2) = false := by rcases hk with rfl | rfl <;> rfl
  have hc : ¬(8 ≤ h || 4 ≤ l || (k != 1 && k != 2) || u.pstate (pgDpl h) = pOFF ||
      bit (u.gf (pgDpl h) R.DPL_STATUS_LANE_SHORT) l) = true := by
    simp [hkind, hh, hl, hp, hb]
  rw [execLaneShortDetect, nxt_finds hf, if_neg hc]
  rfl

/-- Settles O29: GO by its two ends, replies while AUX works and while it is in FAULT, shorts where they are seen; whether a short of a
lane retrains the link is decided by the lane's use. -/
theorem dpAux : Obligations.DpAux := by
  intro t s u h hf hh
  have go (p : Port) (v : Word) : exec (.auxGo t p h v) s = .next (s.done (u.auxGo p h (putBits v 31 1 1))) :=
    nxt_when hf hh (State.auxGo p h (putBits v 31 1 1))
  have retry (sw : Bool) : exec (.auxDeferRetry t h sw) s = .next (s.done
      (u.setDp h fun x => if sw = true then { x with swWait := false } else { x with llWait := false })) := nxt_when hf hh _
  refine ⟨fun p v ha => ?_, fun p v hp hw => ?_, fun a r y haux => exec_auxTransactionDone_working hf hh haux true a r y,
    fun a r y haux => exec_auxTransactionDone_working hf hh haux false a r y,
    fun sw a r y haux => exec_auxTransactionDone_fault hf haux sw a r y,
    fun sw a r haux => exec_auxReplyTimeout_working hf hh haux sw a r, retry true, retry false,
    fun k hk hp => exec_auxShort_seen hf hh hk hp, nxt_when hf hh (State.auxClears h), fun l k hl hk hp hb => ?_,
    fun l hl hb hst => exec_laneShortClear_flag hf hh hl hb hst⟩
  · rw [go, auxGo_admits ha]
  · rw [go, auxGo_secureDenied hp hw]
  · refine ⟨_, exec_laneShortDetect_new hf hh hl hk hp hb, ?_⟩
    split
    · exact .inr rfl
    · exact .inl rfl

end Sys2Proof.Proofs
end

section
/-! Command lists: a list is taken; END, NOP, the waits, the stamps and the fences run at their list's position (R97 to R103, R112, R113,
R118, R304, R463). -/

namespace Sys2Proof.Proofs

open Sys2Proof Sys2Proof.Machine Sys2Proof.Laws

/-- A command that no check refuses executes (R99). -/
theorem checked_passed {checks : List (Bool × Nat)} (h : refusal checks = none) (q : Nat) (go : State → State) (s : State) :
    s.checked q checks go = go s := by
  simp only [State.checked, h]

/-! The wait of a list and the reply that ends it (R101, R119, R336). -/

/-- A failure that reaches a list at its wait halts the list there (R101). -/
theorem replyTo_waiting_failed {s : State} {q code : Nat} (hst : (s.lr q).st = .wait) (hc : okCode code = false) (v : Nat) :
    s.replyTo q code v = s.waitFail q code := by
  simp [State.replyTo, hst, hc]

/-- The first reply to a wait that is set aside is kept for RESUME (R317, R336). -/
theorem replyTo_aside_first {s : State} {q : Nat} (hst : (s.lr q).st = .aside) (hr : (s.lr q).resume = none) (code v : Nat) :
    s.replyTo q code v = s.setLr q fun x => { x with resume := some code, result := v } := by
  simp [State.replyTo, hst, hr]

/-- TIMEOUT is a failure. -/
theorem okCode_timeout : okCode TIMEOUT = false := by decide

/-- The end of a list's own timeout answers its wait: one for a fence, and one for the Gatehouse also while it is set aside (R101,
R119). -/
theorem exec_waitTimeout_due {t : Time} {s u : State} (hf : Finds t s u) {q d : Nat}
    (hw : (u.lr q).st = .wait ∧ (∃ k x, (u.lr q).wait = .fence k x) ∨ (u.lr q).st = .aside ∧ ∃ k, (u.lr q).wait = .gatehouse k)
    (hd : (u.lr q).deadline = some d) (hdue : d ≤ u.walltime) :
    exec (.waitTimeout t q) s = .next (s.done (u.replyTo q TIMEOUT 0)) := by
  change execWaitTimeout t q s = _
  rw [execWaitTimeout, nxt_finds hf]
  rcases hw with ⟨hst, k, x, hk⟩ | ⟨hst, k, hk⟩
  · simp [hst, hk, hd, hdue]
  · simp [hst, hk, hd, hdue]

/-- The target of a WAIT_TIME ends the wait with success (R112). -/
theorem exec_waitTimeReached_due {t : Time} {s u : State} (hf : Finds t s u) {q target : Nat} (hw : (u.lr q).wait = .time target)
    (hst : (u.lr q).st = .wait) (hdue : target ≤ u.localTime 3) :
    exec (.waitTimeReached t q) s = .next (s.done (u.waitDone q OK 0)) := by
  change execWaitTimeReached t q s = _
  rw [execWaitTimeReached, nxt_finds hf]
  simp [hw, hst, hdue]

/-! END (R103). -/

/-- What END does once its header has passed: CMD_NOTE where NOTIFY asks for it, and the list's end. -/
def endBody (q : Nat) (l : ListRun) (w : Word) (s : State) : State :=
  (if hNotify w = true then s.cmdNote q l.cnd l.pc OK 0 else s).listEnd q OK l.pc

theorem exec_endList_atOp {t : Time} {s u : State} {q : Nat} (hf : Finds t s u) (h : u.atOp q 0x01)
    (hp : refusal (hdrChecks q ((u.cmdTaken q).lr q) (u.cmdWord q) 1 []) = none) :
    exec (.endList t q) s = .next (s.done (endBody q ((u.cmdTaken q).lr q) (u.cmdWord q) (u.cmdTaken q))) :=
  (exec_atOp (fun l w x => x.checked q (hdrChecks q l w 1 []) (endBody q l w)) hf rfl h).trans (by rw [checked_passed hp])

theorem exec_nop_atOp {t : Time} {s u : State} {q : Nat} (hf : Finds t s u) (h : u.atOp q 0x00)
    (hp : refusal (hdrChecks q ((u.cmdTaken q).lr q) (u.cmdWord q) (max 1 (hLen (u.cmdWord q))) []) = none) :
    exec (.nop t q) s = .next (s.done ((u.cmdTaken q).cmdNow q OK 0)) :=
  (exec_atOp (fun l w x => x.checked q (hdrChecks q l w (max 1 (hLen w)) []) fun x => x.cmdNow q OK 0) hf rfl h).trans
    (by rw [checked_passed hp])

/-- Settles O16: each row of a list runs its own body at the list's position, END by its NOTIFY bit; a timeout is a failed reply, which
halts a list at its wait and is kept for one whose wait is set aside. -/
theorem listCommands : Obligations.ListCommands := by
  intro t s u q hf
  refine ⟨fun c slot ws _ => nxt_finds hf fun x => x.listStart c q slot ws, exec_nop_atOp hf, fun h hp hn => ?_, fun h hp hn => ?_,
    exec_atOp (State.waitFrame q) hf rfl, exec_atOp (State.waitTime q) hf rfl, exec_atOp (State.writeStamp q) hf rfl,
    exec_atOp (State.fenceSignal q) hf rfl, exec_atOp (State.fenceWait q) hf rfl,
    fun target hw hst hdue => exec_waitTimeReached_due hf hw hst hdue, fun k x d hw hst hd hdue => ?_,
    fun k d hw hst hr hd hdue => ?_⟩
  · rw [exec_endList_atOp hf h hp, endBody, if_neg (by simp [hn])]
  · rw [exec_endList_atOp hf h hp, endBody, if_pos hn]
  · rw [exec_waitTimeout_due hf (.inl ⟨hst, k, x, hw⟩) hd hdue, replyTo_waiting_failed hst okCode_timeout]
  · rw [exec_waitTimeout_due hf (.inr ⟨hst, k, hw⟩) hd hdue, replyTo_aside_first hst hr]

end Sys2Proof.Proofs
end

section
/-! The Gatehouse's vendor services, the end of a customer call, and reads of host memory (R293, R334, R335, R337). -/

namespace Sys2Proof.Proofs

open Sys2Proof Sys2Proof.Machine Sys2Proof.Laws

/-! Commands that act under a condition on the state they find. -/

theorem nxt_pos {t : Time} {s u : State} (hf : Finds t s u) {c : State → Prop} [DecidablePred c] (hc : c u) (f g : State → State) :
    nxt t (fun x => if c x then f x else g x) s = .next (s.done (f u)) := by
  rw [nxt_finds hf, if_pos hc]

theorem nxt_neg {t : Time} {s u : State} (hf : Finds t s u) {c : State → Prop} [DecidablePred c] (hc : ¬c u) (f g : State → State) :
    nxt t (fun x => if c x then f x else g x) s = .next (s.done (g u)) := by
  rw [nxt_finds hf, if_neg hc]

/-! Vendor services (R337). -/

/-- The answer to QUERY_BLOCK: the block's VALUE where its number names a block. -/
theorem exec_queryBlock_waiting {t : Time} {s u : State} (hf : Finds t s u) {q : Nat} (hw : u.waitsGate q 1 = true) :
    exec (.queryBlock t q) s = .next (s.done
      (if (decide ((u.wordAt (u.lr q).argAt).toNat < 65536) && blkOk (u.wordAt (u.lr q).argAt).toNat) = true
        then u.replyTo q OK (u.blockValue (u.wordAt (u.lr q).argAt).toNat) else u.replyTo q BAD_ARG 0)) := by
  change execQueryBlock t q s = _
  rw [execQueryBlock, nxt_finds hf, if_neg (by simp [hw])]

/-- QUERY_WATERMARKS writes the three watermarks and LOCKED to the argument block, and answers OK. -/
theorem exec_queryWatermarks_waiting {t : Time} {s u : State} (hf : Finds t s u) {q : Nat} (hw : u.waitsGate q 3 = true) :
    exec (.queryWatermarks t q) s = .next (s.done ((u.gatePut (u.lr q).argAt
      ([u.gf PG_WMARK R.WM_DRAM_LEVEL, u.wmSdt, u.gf PG_WMARK R.WM_SRAM_LEVEL, u.gf PG_WMARK R.LOCK_LOCKED].flatMap
        fun w => leBytes 4 w)).replyTo q OK 0)) := by
  change execQueryWatermarks t q s = _
  rw [execQueryWatermarks, nxt_finds hf, if_neg (by simp [hw])]

/-! A customer call at its deadline (R335). -/

/-- A call that is still open at its deadline ends, MCALL_TIMEOUT is raised, and its list is answered with TIMEOUT. -/
theorem exec_mcallTimeout_due {t : Time} {s u : State} (hf : Finds t s u) {id : Nat} {c : Call} (hc : fget {} u.calls id = c)
    (hh : fhas u.calls id = true) (ho : c.open_ = true) (hdue : c.deadline ≤ u.localTime 2) :
    exec (.mcallTimeout t id) s = .next (s.done
      (((u.closeCall id).raise PG_SEC 3 { status := TIMEOUT, d6 := id, d7 := c.q / 4, inst := some (c.q / 4) }).replyTo c.q
        TIMEOUT 0)) := by
  change execMcallTimeout t id s = _
  subst hc
  rw [execMcallTimeout, nxt_finds hf, if_neg (by simp [hh, ho, Nat.not_lt.2 hdue])]

/-- Settles O18: each service answers the list that waits for it, a reply is a request of its register, a call ends at its
deadline; of the host reads only a failed one acts, as a good one's data are operands of the command that takes them (log entry 34). -/
theorem gatehouseEvents : Obligations.GatehouseEvents := by
  intro t s u hf
  refine ⟨fun q hw => nxt_pos hf (c := fun x => x.waitsGate q 0 = true) hw
      (fun x => x.replyTo q OK (0xB0 + x.ghVersion % 65536 * 65536)) id, fun q hw hlt hb => ?_, fun q hw hb => ?_,
    fun q hw => nxt_pos hf (c := fun x => x.waitsGate q 2 = true) hw
      (fun x => x.replyTo q OK ((if bit x.dbgEffective 3 then 1 else 0) + (if bit x.dbgEffective 2 then 2 else 0))) id, fun q hw => ?_,
    fun q _ => nxt_finds hf (State.askBlock q 0x10), fun q _ => nxt_finds hf (State.askBlock q 0x11),
    fun p v => requests_of (.inl rfl) hf rfl, fun id c _ hc hh ho hdue => exec_mcallTimeout_due hf hc hh ho hdue,
    fun who a => nxt_finds hf id, fun who a => nxt_finds hf (State.hostReadFails who a NO_RIGHT),
    fun who a => nxt_finds hf (State.hostReadFails who a TIMEOUT)⟩
  · rw [exec_queryBlock_waiting hf hw, if_pos (by simp [hlt, hb])]
  · rw [exec_queryBlock_waiting hf hw, if_neg (by simp [hb])]
  · rw [exec_queryWatermarks_waiting hf hw]
    simp only [List.flatMap_cons, List.flatMap_nil, List.append_nil, List.append_assoc]

end Sys2Proof.Proofs
end

section
/-! The PCIe link, PERST_N, FLR and configuration requests; guest windows and the aperture (R33, R290, R294, R295, R297, R298, R304,
R305). -/

namespace Sys2Proof.Proofs

open Sys2Proof Sys2Proof.Machine Sys2Proof.Laws

/-! The link and the function (R294, R295). -/

/-- PERST_N that falls takes the link down where it is up, and resets the function (R294). -/
theorem exec_perstNAssert_high {t : Time} {s u : State} (hf : Finds t s u) (hp : u.perstLow = false) :
    exec (.perstNAssert t) s =
      .next (s.done { (if u.linkUp = true then u.linkDrop else u).pciReset with perstLow := true }) :=
  nxt_neg hf (c := fun x => x.perstLow = true) (by simp [hp]) id
    fun x => { (if x.linkUp = true then x.linkDrop else x).pciReset with perstLow := true }

/-! Configuration requests (R33, R291). -/

/-- In ENUMERATE the answer is Configuration Request Retry Status, shown as no data (R33). -/
theorem cfgRequest_retried {u : State} (hl : u.linkUp = true) (hm : u.mode = ENUMERATE) (w : Bool) (reg be : Nat) (v : Word) :
    u.cfgRequest w reg be v = { u with reply := [] } := by
  simp [State.cfgRequest, hl, hm]

/-- Later a read answers one word, whose unspecified bits use up a free value. -/
theorem cfgRequest_read {u : State} (hl : u.linkUp = true) (hm : u.mode ≠ ENUMERATE) (reg be : Nat) (v : Word) :
    u.cfgRequest false reg be v = { u with reply := [u.cfgRead (reg % 4096 / 4 * 4)], freeCtr := u.freeCtr + 1 } := by
  simp [State.cfgRequest, State.useFree, hl, hm]

/-- Settles O30: the link's own events by its state, PERST_N and FLR as a reset of the function whose events come where log
entry 87 puts them, a configuration request by the mode (log entry 28 for what it reads). -/
theorem pcieEvents : Obligations.PcieEvents := by
  intro t s u hf
  have config (w : Bool) (reg be : Nat) (v : Word) :
      exec (.pcieConfigurationRequest t w reg be v) s = .next (s.done (u.cfgRequest w reg be v)) :=
    nxt_finds hf (State.cfgRequest w reg be v)
  refine ⟨fun hl => nxt_pos hf (c := fun x => x.linkUp = true) hl State.linkDrop id, fun g w => nxt_finds hf (State.linkRise g w),
    fun hp hl => ?_, fun hp hl => ?_,
    fun hp => nxt_pos hf (c := fun x => x.perstLow = true) hp
      (fun x => ({ x with perstLow := false } : State).raise PG_PCI 2 { d6 := 1 }) id,
    fun hl hm => nxt_pos hf (c := fun x => (x.linkUp && x.mode != ENUMERATE) = true) (by simp [hl, hm])
      (fun x => x.pciReset.raise PG_PCI 2 {}) id,
    fun reg be v hl hm => ⟨u.cfgRead (reg % 4096 / 4 * 4), ?_⟩, fun w reg be v hl hm => ?_⟩
  · rw [exec_perstNAssert_high hf hp, if_pos hl]
  · rw [exec_perstNAssert_high hf hp, if_neg (by simp [hl])]
  · rw [config, cfgRequest_read hl hm]
  · rw [config, cfgRequest_retried hl hm]

/-! The doorbell (R304). -/

section Doorbell

variable {u : State} {i r : Nat} {v : Word} (hi : i < 256) (hr : r < 4) (he : u.mode ≠ ENUMERATE) (hb : u.mode ≠ FALLBACK)
  (ha : u.instState i = iACTIVE)

include hi hr he hb ha

/-- For an ACTIVE guest a tail is decided by the ring's size and its EN alone. -/
theorem doorbell_active : u.doorbell i r v =
    if (decide (u.subSlots (4 * i + r) ≤ bits v 0 14) || !u.subEn (4 * i + r)) = true then
      (u.winError i BAD_ARG).raise PG_INST 7 { status := BAD_ARG, d6 := i, d7 := r, inst := some i }
    else (u.setWin i (0x20 + 8 * r) (BitVec.ofNat 32 (bits v 0 14))).perf 0x0E 1 (some i) false := by
  have served : ¬(decide (256 ≤ i) || decide (4 ≤ r) || decide (u.mode = ENUMERATE) || decide (u.mode = FALLBACK)) = true := by
    simp [hi, hr, he, hb]
  have opened : ¬(u.instState i != iSETUP && u.instState i != iACTIVE && u.instState i != iSUSPENDED) = true := by simp [ha]
  simp only [State.doorbell, if_neg served, if_neg opened]

theorem doorbell_rung (hs : bits v 0 14 < u.subSlots (4 * i + r)) (hen : u.subEn (4 * i + r) = true) : u.doorbell i r v =
    (u.setWin i (0x20 + 8 * r) (BitVec.ofNat 32 (bits v 0 14))).perf 0x0E 1 (some i) false := by
  rw [doorbell_active hi hr he hb ha, if_neg (by simp [hs, hen])]

theorem doorbell_beyond (hs : u.subSlots (4 * i + r) ≤ bits v 0 14) : u.doorbell i r v =
    (u.winError i BAD_ARG).raise PG_INST 7 { status := BAD_ARG, d6 := i, d7 := r, inst := some i } := by
  rw [doorbell_active hi hr he hb ha, if_pos (by simp [hs])]

end Doorbell

/-! The aperture (R298). -/

theorem exec_winApertureWrite_beyond {t : Time} {s u : State} (hf : Finds t s u) {i : Nat} {v : Word} (hi : i < 256)
    (hm : u.mode ≠ ENUMERATE) (hv : u.ent i 2 16 15 * 2 ≤ bits v 0 15) :
    exec (.winApertureWrite t i v) s = .next (s.done ((u.winError i BAD_ARG).err PG_INST BAD_ARG)) := by
  change execWinApertureWrite t i v s = _
  rw [execWinApertureWrite, nxt_finds hf, if_neg (by simp [hi, hm]), if_pos hv]

section Aperture

variable {u : State} {i off len : Nat} (hi : i < 256) (hm : u.mode ≠ ENUMERATE) (hl : off + len ≤ 1048576)

include hi hm hl

theorem aperture_inside : ¬(decide (256 ≤ i) || decide (1048576 < off + len) || decide (u.mode = ENUMERATE)) = true := by
  simp [hi, hm, hl]

/-- A guest that is not ACTIVE reads zeros. -/
theorem aperture_read_inactive (ha : u.instState i ≠ iACTIVE) :
    u.aperture i off len none = { u with reply := List.replicate ((len + 3) / 4) 0#32 } := by
  simp only [State.aperture, if_neg (aperture_inside hi hm hl), ha, decide_false, Bool.false_and, Bool.not_false, if_true]

/-- A write of an ACTIVE guest within its grant goes to device DRAM. -/
theorem aperture_write_active (ha : u.instState i = iACTIVE)
    (hg : u.apertureAt i off + len ≤ (u.ent i 2 0 14 + u.ent i 2 16 15) * 2097152) (bs : List Byte) :
    u.aperture i off len (some bs) = u.memWrite { code := 1, inst := some i } (u.apertureAt i off)
      ((List.range len).map fun k => bs.getD k 0#8) := by
  simp only [State.aperture, if_neg (aperture_inside hi hm hl), ha, hg, decide_true, Bool.and_self, if_true]

end Aperture

/-- Settles O31: each window write by its bound, and an aperture access by the guest's state and grant. -/
theorem guestWindows : Obligations.GuestWindows := by
  intro t s u i hf hi hm
  have bell (r : Nat) (v : Word) : exec (.doorbellWrite t i r v) s = .next (s.done (u.doorbell i r v)) :=
    nxt_finds hf (State.doorbell i r v)
  have access (off len : Nat) (wd : Option (List Byte)) :
      exec (.apertureAccess t i off len wd) s = .next (s.done (u.aperture i off len wd)) := nxt_finds hf (State.aperture i off len wd)
  refine ⟨fun r v hr hb ha hs hen => ?_, fun r v hr hb ha hs => ?_,
    fun v => nxt_neg hf (c := fun x => (decide (256 ≤ i) || decide (x.mode = ENUMERATE)) = true) (by simp [hi, hm]) id
      fun x => (x.setWin i 0x14 (BitVec.ofNat 32 (bits v 0 16))).ringGap i,
    fun v hv => exec_winApertureWrite_granted hf hi hm hv, fun v hv => exec_winApertureWrite_beyond hf hi hm hv,
    fun off len hl ha => ?_, fun off len bs hl ha hg => ?_, access⟩
  · rw [bell, doorbell_rung hi hr hm hb ha hs hen]
  · rw [bell, doorbell_beyond hi hr hm hb ha hs]
  · rw [access, aperture_read_inactive hi hm hl ha]
  · rw [access, aperture_write_active hi hm hl ha hg]

end Sys2Proof.Proofs
end

section
/-! The ends of a tenant's operations: RESETTING, a suspension, the context that leaves or comes in, a migration copy, withdrawn
reservations (R295, R301, R311, R313, R317 to R319, R322). -/

namespace Sys2Proof.Proofs

open Sys2Proof Sys2Proof.Machine Sys2Proof.Laws

/-! RESETTING and a suspension (R313, R317). -/

/-- While anything of the tenant remains, RESETTING goes on. -/
theorem instResetDone_busy {u : State} {i : Nat} (h : u.resetOver i = false) : u.instResetDone i = u := by
  simp [State.instResetDone, h]

/-- Then its held records are lost, its grant is cleared, and it is in SETUP with nothing but the time of its last loss. -/
theorem instResetDone_over {u : State} {i : Nat} (hs : u.instState i = iRESETTING) (h : u.resetOver i = true) : u.instResetDone i =
    (((((forEach (u.inst i).heldRecs (fun r v => v.evtLost i (pair64 (nthW r 2) (nthW r 3))) u).clearGrant i).setInstState i iSETUP
      OK).setInst i fun x => { lostAt := x.lostAt }).raise PG_INST 0
      { d6 := i, d7 := (u.walltime - (u.inst i).resetAt) / 1000, inst := some i }) := by
  rw [State.instResetDone, if_neg (by simp [hs, h])]

/-- With no command of it in progress, a tenant that is suspending is SUSPENDED. -/
theorem suspendDone_quiet {u : State} {i : Nat} (hs : u.instState i = iACTIVE) (h : (u.inst i).suspending = true)
    (hc : ∀ x ∈ u.cmds, qInst x.2.q ≠ some i) : u.suspendDone i =
    ((u.setInstState i iSUSPENDED OK).setInst i fun x => { x with suspending := false }).raise PG_INST 2 { d6 := i, inst := some i } := by
  have none_left : (u.cmds.any fun p => qInst p.2.q == some i && p.2.phase != 1 && p.2.phase != 3) = false :=
    List.any_eq_false.2 fun x hx => by simp [hc x hx]
  rw [State.suspendDone, if_neg (by simp [hs, h, none_left])]

/-! A context that leaves (R318). -/

theorem exportDone_written {u : State} {i : Nat} (h : (u.inst i).exporting = true) (hl : u.linkUp = true) (hb : u.busMaster = true) :
    u.exportDone i = (u.hostPut none (u.inst i).ctxAt (u.ctxBytes i)).exportEnd i OK (u.ctxLen i) := by
  simp [State.exportDone, h, hl, hb]

theorem exportDone_linkDown {u : State} {i : Nat} (h : (u.inst i).exporting = true) (hl : u.linkUp = false) :
    u.exportDone i = u.exportEnd i LINK_ERROR 0 := by
  simp [State.exportDone, h, hl]

/-! A context that comes in (R301, R318). -/

/-- BAD_ARG is the answer where it applies, unless the link or the opcode is at fault (R75). -/
theorem refusal_eq_badArg {l : List (Bool × Nat)} (h : (true, BAD_ARG) ∈ l) (hl : ∀ x ∈ l, x.2 ≠ LINK_ERROR ∧ x.2 ≠ BAD_OPCODE) :
    refusal l = some BAD_ARG := by
  have absent {c : Nat} (hc : ∀ x ∈ l, x.2 ≠ c) : (l.any fun x => x.1 && x.2 == c) = false :=
    List.any_eq_false.2 fun x hx => by simp [hc x hx]
  have present : (l.any fun x => x.1 && x.2 == BAD_ARG) = true := List.any_eq_true.2 ⟨_, h, by simp⟩
  simp only [refusal, r75, List.find?_cons, absent fun x hx => (hl x hx).1, absent fun x hx => (hl x hx).2, present]

/-- The checks of the end of an import: the context's own, the tenant's state, and those of ACTIVATE (R301, R318). -/
def importChecks (u : State) (i : Nat) (bs : List Byte) (c : Context) : List (Bool × Nat) :=
  [(u.ctxBad i bs c, BAD_ARG), (u.instState i != iSETUP, WRONG_STATE)] ++ u.activateChecks i

/-- A context that fails its own checks is refused with BAD_ARG, whatever else fails. -/
theorem importChecks_bad {u : State} {i : Nat} {bs : List Byte} {c : Context} (h : u.ctxBad i bs c = true) :
    refusal (importChecks u i bs c) = some BAD_ARG := by
  refine refusal_eq_badArg (by simp [importChecks, h]) ?_
  simp only [importChecks, State.activateChecks, List.forall_mem_append, List.forall_mem_cons]
  decide

/-- In SETUP a good context is refused where ACTIVATE is. -/
theorem importChecks_good {u : State} {i : Nat} {bs : List Byte} {c : Context} (h : u.ctxBad i bs c = false)
    (hs : u.instState i = iSETUP) : refusal (importChecks u i bs c) = refusal (u.activateChecks i) := by
  simp [importChecks, refusal, h, hs]

theorem importDone_linkDown {u : State} {i : Nat} (h : (u.inst i).importing = true) (hl : u.linkUp = false) (bs : List Byte)
    (c : Context) : u.importDone i bs c = u.importEnd i LINK_ERROR := by
  simp [State.importDone, h, hl]

section Imported

variable {u : State} {i : Nat} (h : (u.inst i).importing = true) (hl : u.linkUp = true) (hb : u.busMaster = true) {bs : List Byte}
  {c : Context}

include h hl hb

theorem importDone_refused {k : Nat} (hk : refusal (importChecks u i bs c) = some k) :
    u.importDone i bs c = (u.hostGet none (u.inst i).ctxAt (u.ctxLen i)).importEnd i k := by
  rw [importChecks] at hk
  simp only [State.importDone, h, hl, hb, hk, Bool.not_true, Bool.false_eq_true, if_false]

theorem importDone_accepted (hk : refusal (importChecks u i bs c) = none) : u.importDone i bs c =
    ((((u.hostGet none (u.inst i).ctxAt (u.ctxLen i)).importAll i c).setInstState i iSUSPENDED OK).setInst i fun x =>
      { x with holds := true }).showRes.refreshFit.importEnd i OK := by
  rw [importChecks] at hk
  simp only [State.importDone, h, hl, hb, hk, Bool.not_true, Bool.false_eq_true, if_false]

end Imported

/-! Migration copies (R295, R319, R322). -/

theorem migDone_idle {u : State} (h : u.tf PG_DMA R.MIG_STATUS_BUSY = false) : u.migDone = u := by
  simp [State.migDone, h]

theorem migDone_moved {u : State} (h : u.tf PG_DMA R.MIG_STATUS_BUSY = true) (hm : u.mig.len ≤ u.mig.moved)
    (hw : (u.wwait.any fun w => w.by_.mig) = false) : u.migDone = u.migEnd OK := by
  simp only [State.migDone, h, hw, if_neg (Nat.not_lt.2 hm), Bool.not_true, Bool.false_eq_true, if_false]

theorem migDone_linkDown {u : State} (h : u.tf PG_DMA R.MIG_STATUS_BUSY = true) (hm : u.mig.moved < u.mig.len)
    (hl : u.linkUp = false) : u.migDone = u.migEnd LINK_ERROR := by
  simp [State.migDone, h, hm, hl]

/-- Settles O33: each end is its operation on the state that it finds, which the lemmas above give for what is in progress, the link (log
entry 88) and the checks; a last chunk of a migration copy moves before the copy ends (log entry 91). -/
theorem instEvents : Obligations.InstEvents := by
  intro t s u i hf
  have reset : exec (.instResetDone t i) s = .next (s.done (u.instResetDone i)) := nxt_finds hf (State.instResetDone i)
  have suspend : exec (.suspendDone t i) s = .next (s.done (u.suspendDone i)) := nxt_finds hf (State.suspendDone i)
  have exported : exec (.exportDone t i) s = .next (s.done (u.exportDone i)) := nxt_finds hf (State.exportDone i)
  have imported (bs : List Byte) (c : Context) :
      exec (.importDone t i { bytes := bs, ctx := c }) s = .next (s.done (u.importDone i bs c)) := nxt_finds hf (State.importDone i bs c)
  have copied : exec (.migDone t none) s = .next (s.done u.migDone) := nxt_finds hf State.migDone
  refine ⟨fun hs ho => ?_, fun _ ho => ?_, fun hs hp hc => ?_, fun he hl hb => ?_, fun he hl => ?_, fun bs c hi hl => ?_,
    fun bs c hi hl hb hbad => ?_, fun bs c hi hl hb hgood hs ha => ?_, nxt_finds hf State.restoreDue, fun hm => ?_,
    fun hm hmoved hw => ?_, fun hm hmoved hl => ?_, fun ch d => nxt_finds hf fun x => (x.migChunk ch d).migDone⟩
  · rw [reset, instResetDone_over hs ho]
  · rw [reset, instResetDone_busy ho]
  · rw [suspend, suspendDone_quiet hs hp hc]
  · rw [exported, exportDone_written he hl hb]
  · rw [exported, exportDone_linkDown he hl]
  · rw [imported, importDone_linkDown hi hl]
  · rw [imported, importDone_refused hi hl hb (importChecks_bad hbad)]
  · rw [imported, importDone_accepted hi hl hb ((importChecks_good hgood hs).trans ha)]
  · rw [copied, migDone_idle hm]
  · rw [copied, migDone_moved hm hmoved hw]
  · rw [copied, migDone_linkDown hm hmoved hl]

end Sys2Proof.Proofs
end

section
/-! The effective debug enables, and the DRAM watermark: which accesses it blocks, and when the watermarks may be written (R325, R328,
R329, R347). -/

namespace Sys2Proof.Proofs

open Sys2Proof Sys2Proof.Machine Sys2Proof.Laws

/-! The effective debug enables (R347). -/

/-- The number of four bits, the lowest first. -/
def nibble (a b c d : Bool) : Nat := (if a then 1 else 0) + (if b then 2 else 0) + (if c then 4 else 0) + (if d then 8 else 0)

theorem nibble_lt (a b c d : Bool) : nibble a b c d < 16 := by
  revert a b c d; decide

theorem bit_nibble (a b c d : Bool) :
    bit (nibble a b c d) 0 = a ∧ bit (nibble a b c d) 1 = b ∧ bit (nibble a b c d) 2 = c ∧ bit (nibble a b c d) 3 = d := by
  revert a b c d; decide

/-- The four enables, where `e` says of each whether a fuse or DBG_CTRL sets it: an invasive one brings the non-invasive one of its
world, a secure one that of the normal world. -/
theorem dbgEffective_eq_nibble {s : State} {e : Nat → Bool}
    (he : ∀ i, e i = (!Config.fuseDebugKill && (bit (s.rd (regKey PG_DEBUG 0x40)).toNat i || bit Config.fuseDebugEn i))) :
    s.dbgEffective = nibble (e 0) (e 1 || e 0) (e 2 || e 0) (e 3 || (e 1 || e 0) || (e 2 || e 0)) := by
  simp only [he]
  rfl

/-- Settles O50: the enables are the four bits of one number, which the register shows as it is. -/
theorem debugEnables : Obligations.DebugEnables := by
  intro s e he
  have hn := dbgEffective_eq_nibble he
  obtain ⟨h0, h1, h2, h3⟩ := bit_nibble (e 0) (e 1 || e 0) (e 2 || e 0) (e 3 || (e 1 || e 0) || (e 2 || e 0))
  have hor : (e 3 || (e 1 || e 0) || (e 2 || e 0)) = (e 3 || e 2 || e 1 || e 0) := by
    cases e 0 <;> cases e 1 <;> cases e 2 <;> simp
  exact ⟨hn ▸ nibble_lt _ _ _ _, hn ▸ h0, hn ▸ h1, hn ▸ h2, hn ▸ h3.trans hor, fun _ => rfl⟩

/-! The DRAM watermark (R325). -/

/-- An access is blocked exactly when it moves bytes, is the normal world's and starts below the watermark. -/
theorem memCode_eq_secureDenied_iff (s : State) (ag : Agent) (a n : Nat) :
    s.memCode ag a n = SECURE_DENIED ↔ n ≠ 0 ∧ ag.secure = false ∧ a < s.wmDram := by
  unfold State.memCode
  by_cases hn : n = 0
  · simp [hn]
  · by_cases hb : ag.secure = false ∧ a < s.wmDram
    · simp [hn, hb]
    · have hb' : ¬(!ag.secure && decide (a < s.wmDram)) = true := by simpa using hb
      rw [if_neg hn, if_neg hb']
      split_ifs <;> simp [hb]

/-- A blocked read returns zeros. -/
theorem memBytes_blocked {s : State} {ag : Agent} {a n : Nat} (h : s.memCode ag a n = SECURE_DENIED) :
    s.memBytes ag a n = List.replicate n 0#8 := by
  simp [State.memBytes, h]

/-- A blocked write is only reported. -/
theorem memWrite_blocked {s : State} {ag : Agent} {a : Nat} {bs : List Byte} (h : s.memCode ag a bs.length = SECURE_DENIED) :
    s.memWrite ag a bs = s.wmViolation ag a := by
  simp [State.memWrite, State.accessNote, h]

/-- An access of no bytes returns none, wherever it starts. -/
theorem memBytes_zero (s : State) (ag : Agent) (a : Nat) : s.memBytes ag a 0 = [] := by
  simp [State.memBytes, State.bytesAt]

/-- Settles O51: whichever rule the grants follow, the outcome of an access is decided by the watermark first. -/
theorem watermarkIsolation : Obligations.WatermarkIsolation := by
  intro s ag a
  have denied (n : Nat) := memCode_eq_secureDenied_iff s ag a n
  refine ⟨fun hw ha => ⟨fun n => ?_, fun bs hbs => ?_⟩, fun hw n h => ?_⟩
  · by_cases hn : n = 0
    · rw [hn, memBytes_zero, List.replicate_zero]
    · exact memBytes_blocked ((denied n).2 ⟨hn, hw, ha⟩)
  · exact memWrite_blocked ((denied bs.length).2 ⟨mt List.length_eq_zero_iff.1 hbs, hw, ha⟩)
  · obtain ⟨-, hn, -⟩ := (denied n).1 h
    simp [hw] at hn

/-! Writes of the watermarks (R328, R329). -/

/-- A watermark may be written in ENUMERATE, CONFIGURE and FALLBACK while the page is not locked (R328). -/
def wmOpen (s : State) : Prop :=
  s.tf PG_WMARK R.LOCK_LOCKED = false ∧ (s.mode = ENUMERATE ∨ s.mode = CONFIGURE ∨ s.mode = FALLBACK)

/-- A write of a watermark is accepted exactly when the level is in range, the watermarks may be written and nothing stands in its way
(R328, R329). -/
theorem wmCode_eq_none_iff (s : State) (out conflict : Bool) :
    s.wmCode out conflict = none ↔ out = false ∧ wmOpen s ∧ conflict = false := by
  have hr : BAD_ARG ∈ r75 ∧ NO_RIGHT ∈ r75 ∧ WRONG_STATE ∈ r75 ∧ NO_RESOURCE ∈ r75 := by decide
  have hm : (s.mode != ENUMERATE && s.mode != CONFIGURE && s.mode != FALLBACK) = false ↔
      s.mode = ENUMERATE ∨ s.mode = CONFIGURE ∨ s.mode = FALLBACK := by
    simp only [Bool.and_eq_false_iff, bne_eq_false_iff_eq, or_assoc]
  simp only [State.wmCode, refusal_eq_none_iff, List.forall_mem_cons, hr, hm, wmOpen]
  simp [and_assoc]

theorem wmSramCode_eq_none_iff (s : State) (v : Word) : (wmSramAct v).code s = none ↔ bits v 0 7 ≤ 96 ∧ wmOpen s := by
  simp [wmSramAct, wmCode_eq_none_iff]

/-- Whichever watermark it is, a write of it that is accepted finds them open. -/
theorem wmOpen_of_code {s : State} {v : Word} {a : Act} (ha : a = wmDramAct v ∨ a = wmSdtAct v ∨ a = wmSramAct v)
    (hc : a.code s = none) : wmOpen s := by
  have h {out conflict : Bool} (hw : s.wmCode out conflict = none) : wmOpen s := ((wmCode_eq_none_iff s out conflict).1 hw).2.1
  rcases ha with rfl | rfl | rfl <;> exact h hc

/-- The watermarks' registers stand in the page's table and are the secure world's alone. -/
theorem wmark_registers {off : Nat} (h : off = 0x40 ∨ off = 0x44 ∨ off = 0x48) :
    regExists PG_WMARK off = true ∧ (secureWritePage PG_WMARK || regSecure PG_WMARK off) = true := by
  rcases h with rfl | rfl | rfl <;> decide

/-- The normal world's writes of them stop at the page (R53). -/
theorem writeCode_watermark (s : State) {off : Nat} (h : off = 0x40 ∨ off = 0x44 ∨ off = 0x48) :
    s.writeCode false PG_WMARK off 15 = some (SECURE_DENIED, PG_WMARK) := by
  obtain ⟨he, hs⟩ := wmark_registers h
  have hd : s.worldDenied false PG_WMARK off = true := by
    simp only [Bool.or_eq_true] at hs
    rcases hs with hs | hs <;> simp [State.worldDenied, hs]
  have hc : companionPage PG_WMARK = false := rfl
  simp [State.writeCode, hc, he, hd]

/-- Settles O52: the page stops the normal world; each watermark's own rules stop the secure world outside the modes and after LOCK. -/
theorem watermarkWrites : Obligations.WatermarkWrites := by
  refine ⟨fun s off h => writeCode_watermark s h, wmSramCode_eq_none_iff, fun s v a ha => ⟨wmOpen_of_code ha, fun c => ?_⟩⟩
  rcases ha with rfl | rfl | rfl <;> rfl

end Sys2Proof.Proofs
end

section
/-! The secure world's requests: hand-over, its rings and the service ring, the watermarks, the performance counters; the release and
the scrub of a block in a hand-over (R328 to R333, R339 to R341, R350). -/

namespace Sys2Proof.Proofs

open Sys2Proof Sys2Proof.Machine Sys2Proof.Laws

/-! Where each request is granted. -/

/-- A hand-over is accepted for a block that is in no test and no other hand-over, is of the other world, and, unless it is forced to
the secure world, is granted to no tenant (R339). -/
theorem hoCode_none {w : State} {b : Nat} {toSecure force : Bool} (hok : blkOk b = true) (hbusy : w.blkBusy b = false)
    (hfree : fhas w.handovers b = false) (hworld : w.blkSecure b = !toSecure) (hforce : force = true → toSecure = true)
    (hgrants : toSecure = true → force = true ∨ w.blkGrants b = []) : w.hoCode b toSecure force = none := by
  have hr : BAD_ARG ∈ r75 ∧ IN_SERVICE ∈ r75 ∧ WRONG_STATE ∈ r75 := by decide
  have hforced : (force && !toSecure) = false := by simpa using hforce
  have hgranted : (toSecure && !force && !(w.blkGrants b).isEmpty) = false := by
    simpa using fun ht hn => (hgrants ht).resolve_left (Bool.eq_false_iff.1 hn)
  simp [State.hoCode, refusal_eq_none_iff, hr, hok, hbusy, hfree, hworld, hforced, hgranted]

/-- A field of one bit that is not 0 is 1. -/
theorem bits_one_ne_one (w : Word) (lo : Nat) : bits w lo 1 ≠ 1 ↔ bits w lo 1 = 0 := by
  have := bits_lt w lo 1
  omega

/-- SEC_SUB_CTRL is accepted for a defined SIZE and, where EN is 1, an aligned ring wholly below the watermark (R330). -/
theorem subCtrlCode_eq_none_iff (u : State) (r : Nat) (v : Word) {b : Nat}
    (hb : b = u.g64 PG_SEC (R.SEC_SUB_BASE_LO_BASE r) (R.SEC_SUB_BASE_HI_BASE r)) : (subCtrlAct r v).code u = none ↔
      bits v 0 3 ≠ 7 ∧ (bits v 3 1 = 0 ∨ (b % 4096 = 0 ∧ b + 4096 * 2 ^ bits v 0 3 ≤ u.wmDram)) := by
  subst hb
  rw [← bits_one_ne_one]
  simp [subCtrlAct, imp_iff_not_or]

/-- SEC_SUB_TAIL is accepted for a slot of an enabled ring (R330). -/
theorem subTailCode_eq_none_iff (u : State) (r : Nat) (v : Word) : (subTailAct r v).code u = none ↔
    bits v 0 14 < u.subSlots (1024 + r) ∧ u.subEn (1024 + r) = true := by
  simp [subTailAct]

/-- SEC_SVC_CTRL is accepted for a SIZE up to 4 and, where ENABLE is 1, an aligned ring and argument area wholly below the watermark
(R333; the alignment is log entry 30). -/
theorem svcCtrlCode_eq_none_iff (u : State) (v : Word) : (svcCtrlAct v).code u = none ↔
    bits v 1 3 ≤ 4 ∧ (bits v 0 1 = 0 ∨ (u.svcBase % 4096 = 0 ∧ u.argArea 0 % 4096 = 0 ∧
      u.svcBase + 4096 * 2 ^ bits v 1 3 ≤ u.wmDram ∧ u.argArea 0 + 262144 * 2 ^ bits v 1 3 ≤ u.wmDram)) := by
  rw [← bits_one_ne_one]
  simp [svcCtrlAct, imp_iff_not_or, and_assoc]

/-- WM_DRAM is accepted within the capacity where nothing of a tenant falls below a raised level, and nothing of the secure world
rises above a lowered one (R329). -/
theorem wmDramCode_none {u : State} {v : Word} {n o : Nat} (hn : n = bits v 0 15) (ho : o = u.gf PG_WMARK R.WM_DRAM_LEVEL)
    (hopen : wmOpen u) (hmax : n ≤ u.wmDramMax) (hup : o < n → u.belowDram (n * 2097152) = false)
    (hdown : n < o → u.aboveDram (n * 2097152) = false) : (wmDramAct v).code u = none := by
  subst hn ho
  refine (wmCode_eq_none_iff _ _ _).2 ⟨by simpa using hmax, hopen, ?_⟩
  simp only [Bool.or_eq_false_iff, Bool.and_eq_false_imp, decide_eq_true_eq]
  exact ⟨hup, hdown⟩

/-- WM_SDT is accepted where no tenant's entries fall below a raised level and every entry that a lowered one frees is FREE (R329). -/
theorem wmSdtCode_none {u : State} {v : Word} {n : Nat} (hn : n = bits v 0 13) (hopen : wmOpen u) (hmax : n ≤ 4096)
    (hup : ∀ i ∈ u.openInsts, u.wmSdt < n → u.ent i 4 16 13 = 0 ∨ n ≤ u.ent i 4 0 12)
    (hdown : ∀ e ∈ u.sdt, n ≤ e.1 → e.1 < u.wmSdt → e.2.state = sFREE) : (wmSdtAct v).code u = none := by
  subst hn
  refine (wmCode_eq_none_iff _ _ _).2 ⟨by simpa using hmax, hopen, ?_⟩
  simp only [Bool.or_eq_false_iff, Bool.and_eq_false_imp, List.any_eq_false, decide_eq_true_eq, Bool.and_eq_true, bne_iff_ne, not_and,
    not_not, Nat.not_lt]
  exact ⟨fun hlt i hi hne => (hup i hi hlt).resolve_left hne, fun e he h => hdown e he h.1 h.2⟩

/-- Settles O34: each row is a request of its register, granted where the lemmas above say. -/
theorem secureRequests : Obligations.SecureRequests := by
  intro t s u p v hf
  have handover : Requests (.handoverStart t p v) s u p PG_SEC 0x70 (State.plainWrite (portSecure p) PG_SEC 0x70 v) hoAct :=
    requests_of (.inl rfl) hf rfl
  have enable {r : Nat} (hr : r < 2) : Requests (.secSubEnable t p r v) s u p PG_SEC (0xA8 + 0x10 * r) id (subCtrlAct r v) :=
    requests_id (.inl rfl) hf <| nxt_congr hf
      (f := fun x => if r < 2 then x.guarded p PG_SEC (0xA8 + 0x10 * r) (subCtrlAct r v).run else x) (if_pos hr)
  have tail {r : Nat} (hr : r < 2) := requests_secDoorbell hf p hr v
  have service : Requests (.svcEnable t p v) s u p PG_SEC 0x50 id (svcCtrlAct v) := requests_id (.inl rfl) hf rfl
  have dram : Requests (.wmDramWrite t p v) s u p PG_WMARK 0x40 id (wmDramAct v) := requests_id (.inl rfl) hf rfl
  have sdt : Requests (.wmSdtWrite t p v) s u p PG_WMARK 0x44 id (wmSdtAct v) := requests_id (.inl rfl) hf rfl
  have sram : Requests (.wmSramWrite t p v) s u p PG_WMARK 0x48 id (wmSramAct v) := requests_id (.inl rfl) hf rfl
  have perf : Requests (.perfClear t p) s u p PG_PERF 0x40 id perfClearAct := requests_id (.inl rfl) hf rfl
  refine ⟨handover, fun r => enable, fun r => tail, service, dram, sdt, sram, perf,
    fun w b ha hw hb hok hbusy hfree hworld hforce hgrants => ?_, fun r b hr ha hb hsize hring => ?_, fun r hr ha hslot hen => ?_,
    fun n ha hn hsize hring => ?_, fun hlock hmode => ⟨fun n o ha hn ho hmax hup hdown => ?_, fun n ha hn hmax hup hdown => ?_,
    fun n o ha hn ho hmax => ?_⟩, fun ha => perf.1 ha rfl⟩
  · subst hw hb
    exact handover.1 ha (hoCode_none hok hbusy hfree hworld hforce hgrants)
  · exact (enable hr).1 ha ((subCtrlCode_eq_none_iff u r v hb).2 ⟨hsize, hring⟩)
  · exact (tail hr).1 ha ((subTailCode_eq_none_iff u r v).2 ⟨hslot, hen⟩)
  · subst hn
    exact service.1 ha ((svcCtrlCode_eq_none_iff u v).2 ⟨hsize, hring⟩)
  · rw [dram.1 ha (wmDramCode_none hn ho ⟨hlock, hmode⟩ hmax hup hdown), hn, ho]
    rfl
  · rw [sdt.1 ha (wmSdtCode_none hn ⟨hlock, hmode⟩ hmax hup hdown), hn]
    rfl
  · subst hn ho
    exact sram.1 ha ((wmSramCode_eq_none_iff u v).2 ⟨hmax, hlock, hmode⟩)

/-! Release of a block and the end of its scrub (R340, R341). -/

/-- A block that is in no hand-over is not released. -/
theorem hoRelease_none {u : State} {b : Nat} (h : fhas u.handovers b = false) : u.hoRelease b = u := by
  simp [State.hoRelease, h]

theorem hoEnd_none {u : State} {b : Nat} (h : fhas u.handovers b = false) : u.hoEnd b = u := by
  simp [State.hoEnd, h]

/-- No scrub ends without a hand-over. -/
theorem hoScrubEnd_none {u : State} {b : Nat} (h : fhas u.handovers b = false) : u.hoScrubEnd b = u := by
  rw [State.hoScrubEnd, hoEnd_none h, ite_self]

/-- The hand-over ends with the scrub of a block other than a head, and of an IDLE head (log entry 67). -/
theorem hoScrubEnd_ends {u : State} {b : Nat} (h : blkKind b = 0 → u.headSt (blkIdx b) = hIDLE) : u.hoScrubEnd b = u.hoEnd b := by
  refine if_neg ?_
  simpa using h

section Release
variable {u : State} {b : Nat} {x : Handover} (hh : fhas u.handovers b = true) (hx : fget ({} : Handover) u.handovers b = x)
  (hs : x.scrubbing = false)
include hh hx hs

/-- An electrode group is scrubbed, and then shows its new owner. -/
theorem hoRelease_group (hk : blkKind b = 1) : u.hoRelease b = (u.scrubGroup (blkIdx b)).hoOwner b x.toSecure := by
  simp [State.hoRelease, hh, hx, hs, hk]

/-- So is a haptic channel that does not brake. -/
theorem hoRelease_haptic (hk : blkKind b = 2) (hb : u.hapSt (blkIdx b) ≠ cBRAKE) :
    u.hoRelease b = (u.scrubHap (blkIdx b)).hoOwner b x.toSecure := by
  simp [State.hoRelease, hh, hx, hs, hk, hb]

/-- So is an audio stream. -/
theorem hoRelease_stream (hk : blkKind b = 3) : u.hoRelease b = (u.scrubStr (blkIdx b)).hoOwner b x.toSecure := by
  simp [State.hoRelease, hh, hx, hs, hk]

end Release

/-- Settles O35: each event is its operation on the state that it finds, which the lemmas above give for the kind of the block; what
the scrub of a head covers and where an IDLE head's ends is log entry 67. -/
theorem handoverEvents : Obligations.HandoverEvents := by
  intro t s u b hf
  have release : exec (.handoverRelease t b) s = .next (s.done (u.hoRelease b)) := nxt_finds hf (State.hoRelease b)
  have scrubEnd : exec (.handoverScrubEnd t b) s = .next (s.done (u.hoScrubEnd b)) := nxt_finds hf (State.hoScrubEnd b)
  rw [release, scrubEnd]
  refine ⟨fun h => ?_, fun x hh hx hs hk => ?_, fun x hh hx hs hk hb => ?_, fun x hh hx hs hk => ?_, fun h => ?_, fun hk => ?_,
    fun _ hi => ?_⟩
  · rw [hoRelease_none h]
  · rw [hoRelease_group hh hx hs hk]
  · rw [hoRelease_haptic hh hx hs hk hb]
  · rw [hoRelease_stream hh hx hs hk]
  · rw [hoScrubEnd_none h]
  · rw [hoScrubEnd_ends fun h => absurd h hk]
  · rw [hoScrubEnd_ends fun _ => hi]

end Sys2Proof.Proofs
end

section
/-! The bytes that a write within one block gives a reader, and the memory controller's events, training and service (R359, R360, R365
to R375, R391). -/

namespace Sys2Proof.Proofs

open Sys2Proof Sys2Proof.Machine Sys2Proof.Laws

/-! Bytes written into an entry of the write buffer (R359). -/

/-- The bytes of an entry after `bs` have entered it from offset `off` on. -/
def putBytes (m : FMap Byte) (off : Nat) (bs : List Byte) : FMap Byte := bs.zipIdx.foldl (fun m x => fset m (off + x.2) x.1) m

theorem putBytes_concat (m : FMap Byte) (off : Nat) (bs : List Byte) (b : Byte) :
    putBytes m off (bs ++ [b]) = fset (putBytes m off bs) (off + bs.length) b := by
  simp [putBytes, List.zipIdx_append]

/-- The entry holds the offsets written, besides those that it held. -/
theorem fhas_putBytes (m : FMap Byte) (off : Nat) (bs : List Byte) (j : Nat) :
    fhas (putBytes m off bs) j = (decide (off ≤ j ∧ j < off + bs.length) || fhas m j) := by
  induction bs using List.reverseRecOn with
  | nil => simp [putBytes]
  | append_singleton bs b ih =>
    rw [putBytes_concat, fhas_fset, ih, ← Bool.or_assoc, List.length_append, List.length_singleton, ← Bool.decide_or]
    congr 2
    exact propext (by omega)

/-- An offset written holds its new byte, every other one what it held. -/
theorem fget_putBytes (m : FMap Byte) (off : Nat) (bs : List Byte) (j : Nat) :
    fget 0#8 (putBytes m off bs) j = if off ≤ j ∧ j < off + bs.length then bs.getD (j - off) 0#8 else fget 0#8 m j := by
  induction bs using List.reverseRecOn with
  | nil => simp [putBytes]
  | append_singleton bs b ih =>
    rw [putBytes_concat, fget_fset, ih, List.length_append, List.length_singleton]
    by_cases hj : j = off + bs.length
    · simp [hj]
    · have hin : off ≤ j ∧ j < off + (bs.length + 1) ↔ off ≤ j ∧ j < off + bs.length := by omega
      rw [if_neg hj]
      simp only [hin]
      split_ifs with h
      · rw [List.getD_append _ _ _ _ (by omega)]
      · rfl

/-! What a reader sees (R359). -/

/-- A reader sees the write buffer over DRAM, and nothing else. -/
theorem byteAt_congr {s v : State} (hb : v.wbuf = s.wbuf) (hd : v.dram = s.dram) (a : Nat) : v.byteAt a = s.byteAt a := by
  simp only [State.byteAt, hb, hd]

@[simp] theorem startFill_wbuf (n : Nat) (s : State) : (s.startFill n).wbuf = s.wbuf := by
  unfold State.startFill
  split <;> rfl

@[simp] theorem wbShow_wbuf (g : Nat) (s : State) : (s.wbShow g).wbuf = s.wbuf := by
  unfold State.wbShow
  dsimp only
  split <;> rfl

/-- The bytes go into the block's entry; every other entry stays. -/
theorem wbMerge_wbuf (s : State) (blk off : Nat) (bs : List Byte) (sec : Bool) :
    (s.wbMerge blk off bs sec).wbuf = fset s.wbuf blk
      { bytes := putBytes (fget ({} : WbEntry) s.wbuf blk).bytes off bs,
        normal := (fget ({} : WbEntry) s.wbuf blk).normal || !sec } := by
  simp [State.wbMerge, putBytes]

@[simp] theorem wbMerge_dram (s : State) (blk off : Nat) (bs : List Byte) (sec : Bool) : (s.wbMerge blk off bs sec).dram = s.dram :=
  (calm_wbMerge (d := false) quiet_zero blk off bs s sec).dram

/-- In the block written a reader sees the new bytes where they were written, and before and behind them what it saw. -/
theorem byteAt_wbMerge_same (s : State) {blk a : Nat} (off : Nat) (bs : List Byte) (sec : Bool) (ha : a / 128 = blk) :
    (s.wbMerge blk off bs sec).byteAt a =
      if off ≤ a % 128 ∧ a % 128 < off + bs.length then bs.getD (a % 128 - off) 0#8 else s.byteAt a := by
  subst ha
  simp only [State.byteAt, wbMerge_wbuf, wbMerge_dram, blockOf, fget_fset_same, fhas_putBytes, fget_putBytes]
  by_cases hin : off ≤ a % 128 ∧ a % 128 < off + bs.length
  · rw [decide_eq_true hin, Bool.true_or, if_pos rfl, if_pos hin, if_pos hin]
  · rw [decide_eq_false hin, Bool.false_or, if_neg hin, if_neg hin]
    rfl

/-- In every other block it sees what it saw. -/
theorem byteAt_wbMerge_other (s : State) {blk a : Nat} (off : Nat) (bs : List Byte) (sec : Bool) (ha : a / 128 ≠ blk) :
    (s.wbMerge blk off bs sec).byteAt a = s.byteAt a := by
  have hentry : fget ({} : WbEntry) (s.wbMerge blk off bs sec).wbuf (a / 128) = fget {} s.wbuf (a / 128) := by
    rw [wbMerge_wbuf, fget_fset_other _ _ _ ha]
  rw [State.byteAt, State.byteAt, blockOf, hentry, wbMerge_dram]

/-- A write that must wait joins the queue, and counts a stall at most. -/
theorem wbPut_wbuf_waiting {s : State} {blk : Nat} (h : s.mustWait blk = true) (off : Nat) (bs : List Byte) (w : Writer) :
    (s.wbPut blk off bs w).wbuf = s.wbuf := by
  rw [State.wbPut, if_pos h]
  dsimp only
  split <;> rfl

/-- Settles O57: a reader sees the write buffer over DRAM; a write that enters the buffer changes the offsets written of its block's
entry, and one that waits changes neither. -/
theorem dramBytes : Obligations.DramBytes := by
  intro s blk off bs w _
  refine ⟨fun sec a ha hlo hhi => ?_, fun sec a hout => ?_, fun hw a => ?_, fun hw => ?_⟩
  · rw [byteAt_wbMerge_same s off bs sec ha, if_pos ⟨hlo, hhi⟩]
  · by_cases ha : a / 128 = blk
    · rw [byteAt_wbMerge_same s off bs sec ha, if_neg (by omega)]
    · exact byteAt_wbMerge_other s off bs sec ha
  · exact byteAt_congr (wbPut_wbuf_waiting hw off bs w) (wbPut_dram s blk off bs w) a
  · exact if_neg (by simp [hw])

/-! A group's events while its devices work. -/

/-- A block that is not of the group, not buffered or not draining does not leave the buffer. -/
theorem blockOut_idle {u : State} {g blk : Nat} (h : groupOf blk ≠ g ∨ fhas u.wbuf blk = false ∨ u.drains g = false)
    (e r : List (Nat × Nat)) : u.blockOut g blk e r = u :=
  if_pos (by simpa [or_assoc] using h)

/-- One that drains is written; a drain goes on while the buffer holds more. -/
theorem blockOut_drains {u : State} {g blk : Nat} {e r : List (Nat × Nat)} (hg : groupOf blk = g) (hb : fhas u.wbuf blk = true)
    (hd : u.drains g = true) (hmore : (u.writeBlock blk e r).wbOcc g ≠ 0) : u.blockOut g blk e r = u.writeBlock blk e r := by
  rw [State.blockOut, if_neg (by simp [hg, hb, hd])]
  exact if_neg hmore

/-- A step that has been put off is due (R370). -/
theorem stepNow_of_stepDue {u : State} {g : Nat} (h : (u.mgrp g).stepDue = true) : u.stepNow g = true := by
  simp [State.stepNow, h]

section Group
variable {t : Time} {s u : State} {g : Nat} (hf : Finds t s u) (hg : g < 2) (hup : u.memUp g = true)
include hf

theorem exec_pageFillDone_filling {page : Nat} (h : u.filling page = true) :
    exec (.pageFillDone t page) s = .next (s.done (u.filled page)) :=
  nxt_pos hf (c := fun x => x.filling page = true) h (State.filled page) id

/-- No refresh is pulled in while one is owed (R368). -/
theorem exec_refreshPullIn_owed (ho : (u.mgrp g).owed ≠ []) :
    exec (.refreshPullIn t g) s = .next (s.done u) := by
  change execRefreshPullIn t g s = _
  rw [execRefreshPullIn, nxt_finds hf]
  dsimp only
  rw [if_neg (by simp [ho])]

/-- No step begins before one is due (R370). -/
theorem exec_retrainStepDue_early (hn : u.stepNow g = false) (urgent : Bool) :
    exec (.retrainStepDue t g urgent) s = .next (s.done u) := by
  change execRetrainStepDue t g urgent s = _
  rw [execRetrainStepDue, nxt_finds hf]
  dsimp only
  rw [if_pos (by simp [hn])]

include hg hup

/-- An idle drain starts where the buffer holds something and no other drain runs (R360). -/
theorem exec_idleDrainStart_idle (hocc : u.wbOcc g ≠ 0) (hd : u.tf (pgMem g) R.MEM_STATUS_DRAINING = false) :
    exec (.idleDrainStart t g) s = .next (s.done (u.setMgrp g fun x => { x with idleDrain := true })) := by
  change execIdleDrainStart t g s = _
  rw [execIdleDrainStart, nxt_finds hf, if_pos (by simp [hg, hup, hocc, hd])]

/-- An owed refresh is issued exactly where it may be (R367). -/
theorem exec_refreshIssue : exec (.refreshIssue t g) s = .next (s.done (if u.refreshMay g = true then u.refreshOut g else u)) := by
  change execRefreshIssue t g s = _
  rw [execRefreshIssue, nxt_finds hf]
  simp [hg, hup]

/-- A refresh is pulled in where none is owed, and at most eight (R368). -/
theorem exec_refreshPullIn_none (ho : (u.mgrp g).owed = []) (hp : (u.mgrp g).pulled.length < 8) :
    exec (.refreshPullIn t g) s = .next (s.done
      ((u.setMgrp g fun x => { x with pulled := x.pulled ++ [((u.mgrp g).nextPair + (u.mgrp g).pulled.length) % 8] }).owedShow g)) := by
  change execRefreshPullIn t g s = _
  rw [execRefreshPullIn, nxt_finds hf]
  dsimp only
  rw [if_pos (by simp [hg, hup, ho, hp])]
  rfl

/-- A step that is due is put off while urgent reads are queued, and begins otherwise; one that had not been put off before falls due
now (R370). -/
theorem exec_retrainStepDue_due (hr : (u.mgrp g).stepRuns = false) (hn : u.stepNow g = true) {v : State}
    (hv : (if (u.mgrp g).stepDue = true then u
      else u.setMgrp g fun x => { x with stepLast := some u.walltime, stepAt := u.walltime }) = v) (urgent : Bool) :
    exec (.retrainStepDue t g urgent) s = .next (s.done
      (if urgent = true then v.setMgrp g fun x => { x with stepDue := true } else v.stepBegins g)) := by
  subst hv
  change execRetrainStepDue t g urgent s = _
  rw [execRetrainStepDue, nxt_finds hf]
  dsimp only
  rw [if_neg (by simp [hg, hup, hr, hn])]

/-- A step put off for 10 ms is forced (R370). -/
theorem exec_retrainStepPostponeLimit_late (hd : (u.mgrp g).stepDue = true) (hlate : (u.mgrp g).stepAt + 10000000 ≤ u.walltime) :
    exec (.retrainStepPostponeLimit t g) s = .next (s.done (u.setMgrp g fun x => { x with stepForced := true })) := by
  change execRetrainStepPostponeLimit t g s = _
  rw [execRetrainStepPostponeLimit, nxt_finds hf, if_pos (by simp [hg, hup, hd, hlate])]

end Group

/-! Initialisation, set points and service (R369, R371 to R373, R375). -/

/-- Memory is initialised in ENUMERATE alone (R369). -/
theorem memInit_elsewhere {u : State} (h : u.mode ≠ ENUMERATE) (d : List Nat) (r : List (Option Nat)) : u.memInit d r = u :=
  if_pos (by simp [h])

section SetPoint
variable {t : Time} {s u : State} (hf : Finds t s u)
include hf

/-- A switch to a set point that has been trained ends at it (R372). -/
theorem exec_freqSwitchDone_trained (hb : u.tf 14 R.MEM_FREQ_BUSY = true)
    (hv : bit (u.gf 14 R.MEM_FREQ_VALID) (u.mgrp 0).reqSp = true) :
    exec (.freqSwitchDone t) s = .next (s.done (u.freqEnd (u.mgrp 0).reqSp)) := by
  change execFreqSwitchDone t s = _
  rw [execFreqSwitchDone, nxt_finds hf]
  dsimp only
  rw [if_pos (by simp [hb, hv])]

/-- A full training that failed on channel `c` leaves the previous set point (R373). -/
theorem exec_fullTrainingDone_failed (hb : u.tf 14 R.MEM_FREQ_BUSY = true)
    (hv : bit (u.gf 14 R.MEM_FREQ_VALID) (u.mgrp 0).reqSp = false) (c : Nat) :
    exec (.fullTrainingDone t (some c)) s = .next (s.done (((u.sfUnit R.MEM_STATUS_TRAINING 0).raise (pgMem (c / 5)) 4
      { d6 := (u.mgrp 0).reqSp, d7 := c }).freqFailed)) := by
  change execFullTrainingDone t (some c) s = _
  rw [execFullTrainingDone, nxt_finds hf]
  dsimp only
  rw [if_neg (by simp [hb, hv])]

/-- No full training ends for a set point that is trained already. -/
theorem exec_fullTrainingDone_trained (hv : bit (u.gf 14 R.MEM_FREQ_VALID) (u.mgrp 0).reqSp = true) (f : Option Nat) :
    exec (.fullTrainingDone t f) s = .next (s.done u) := by
  change execFullTrainingDone t f s = _
  rw [execFullTrainingDone, nxt_finds hf]
  dsimp only
  rw [if_pos (by simp [hv])]

/-- A service action other than full retraining ends with PROGRESS 100 (R375, log entry 109). -/
theorem exec_memSvcActionDone_other {g a : Nat} (hg : g < 2) (hp : u.pstate (pgMem g) = pSERVICE)
    (hr : (u.mgrp g).svcRuns = some a) (ha : a ≠ 0) (f : Option Nat) :
    exec (.memSvcActionDone t g f) s =
      .next (s.done ((u.setMgrp g fun x => { x with svcRuns := none }).sf (pgMem g) R.MEM_SVC_PROGRESS 100)) := by
  change execMemSvcActionDone t g f s = _
  rw [execMemSvcActionDone, nxt_finds hf]
  simp [hg, hp, hr, ha]

end SetPoint

/-- Settles O37: each event of a group whose devices work is its operation where it is due and nothing where it is not (log entry 108);
a set point is entered only once it is in VALID. -/
theorem memoryEvents : Obligations.MemoryEvents := by
  refine ⟨fun t s u g hf hg hup => ?_, fun t s u hf => ?_⟩
  · have written (blk : Nat) (e r : List (Nat × Nat)) :
        exec (.writeBufferBlockWritten t g blk e r) s = .next (s.done (u.blockOut g blk e r)) := nxt_finds hf (State.blockOut g blk e r)
    have issue := exec_refreshIssue hf hg hup
    refine ⟨exec_idleDrainStart_idle hf hg hup, fun blk e r hb hh hd hmore => ?_, fun blk e r h => ?_,
      fun urgent => nxt_finds hf (State.refreshDue g urgent), fun h => ?_, fun h => ?_, exec_refreshPullIn_none hf hg hup,
      exec_refreshPullIn_owed hf, fun temps hot => nxt_finds hf (State.mr4 g temps hot), fun v hv hr hd hn => ?_, fun hr hd => ?_,
      exec_retrainStepDue_early hf, exec_retrainStepPostponeLimit_late hf hg hup,
      fun drift => nxt_finds hf (State.stepEnds g drift), fun page => exec_pageFillDone_filling hf⟩
    · rw [written, blockOut_drains hb hh hd hmore]
    · rw [written, blockOut_idle h]
    · rw [issue, if_pos h]
    · rw [issue, if_neg (by simp [h])]
    · have due := exec_retrainStepDue_due hf hg hup hr hn ((if_neg (by simp [hd])).trans hv.symm)
      exact ⟨due true, due false⟩
    · have due := exec_retrainStepDue_due hf hg hup hr (stepNow_of_stepDue hd) (if_pos hd)
      exact ⟨due true, due false⟩
  · have init (d : List Nat) (r : List (Option Nat)) : exec (.memInitDone t d r) s = .next (s.done (u.memInit d r)) :=
      nxt_finds hf (State.memInit d r)
    refine ⟨fun d r _ _ => init d r, fun d r hm => ?_, exec_freqSwitchDone_trained hf, fun c hb hv =>
      exec_fullTrainingDone_failed hf hb hv c, fun _ hv => exec_fullTrainingDone_trained hf hv,
      fun g a f hg hp hr ha => exec_memSvcActionDone_other hf hg hp hr ha f⟩
    rw [init, memInit_elsewhere hm]

end Sys2Proof.Proofs
end

section
/-! The Sweepers, the range pass and the error log: its scrub rewrites, its repairs and the requests to it (R394 to R402). -/

namespace Sys2Proof.Proofs

open Sys2Proof Sys2Proof.Machine Sys2Proof.Laws

/-! Requests of SWP_LOG_SEL (R401). -/

/-- The Sweepers' pages belong to the controller tile. -/
theorem companionPage_pgSwp {g : Nat} (hg : g < 2) : companionPage (pgSwp g) = false := by
  have hlow : ¬96 ≤ 16 + g := by omega
  simp [companionPage, pgSwp, hlow]

/-- A command that selects an entry of a group's log is a request of SWP_LOG_SEL, made once INDEX names the entry. -/
theorem requests_logSel {t : Time} {c : Instr} {s u : State} {p : Port} {g e : Nat} {a : Act} (hf : Finds t s u) (hg : g < 2)
    (he : e < 64) (hc : exec c s = nxt t (State.logSel p g e a) s) :
    Requests c s u p (pgSwp g) 0x64 (fun x => x.sf (pgSwp g) R.SWP_LOG_SEL_INDEX e) a :=
  requests_of (.inl (companionPage_pgSwp hg)) hf (hc.trans (nxt_congr hf (if_pos (by simp [hg, he]))))

/-! The events of a group's Sweeper and of its log. -/

/-- Entry `e` gives way to `y`, and REPAIR_DONE reports the result `k` of the word that it named (R402). -/
def repairReported (g e k : Nat) (y : LogEnt) (s : State) : State :=
  (s.setLog g e y).raise (pgSwp g) 7
    { status := k, d6 := e, d7 := (s.logEnt g e).addr, secret := decide ((s.logEnt g e).addr < (s.setLog g e y).wmDram) }

section Group
variable {t : Time} {s u : State} {g : Nat} (hf : Finds t s u) (hg : g < 2)
include hf hg

/-- A lap that reaches its limit is reported once (R396). -/
theorem exec_lapSlow_limit (hcap : u.capBytes ≠ 0) (hlim : u.gf (pgSwp g) R.SWP_CTRL_LAP_WARN_MIN ≠ 0)
    (hslow : (u.sweepOf g).slow = false)
    (hdue : (u.sweepOf g).lapAt + u.gf (pgSwp g) R.SWP_CTRL_LAP_WARN_MIN * 60000000000 ≤ u.localTime (5 + g)) :
    exec (.lapSlow t g) s = .next (s.done ((u.setSweep g fun x => { x with slow := true }).raise (pgSwp g) 4
      { d6 := u.gf (pgSwp g) R.SWP_CTRL_LAP_WARN_MIN })) := by
  change execLapSlow t g s = _
  rw [execLapSlow, nxt_finds hf]
  dsimp only
  rw [if_pos (by simp [hg, hcap, hlim, hslow, hdue])]

/-- A rewrite that has been queued for 1 ms becomes urgent (R399). -/
theorem exec_scrubRewritePromote_late {n : Nat} (hn : n < 64) (hst : (u.logEnt g n).state = 1) (hq : (u.logEnt g n).queued = true)
    (hdue : (u.logEnt g n).queuedAt + 1000000 ≤ u.walltime) :
    exec (.scrubRewritePromote t g n) s = .next (s.done (u.setLog g n { u.logEnt g n with urgent := true })) := by
  change execScrubRewritePromote t g n s = _
  rw [execScrubRewritePromote, nxt_finds hf]
  dsimp only
  rw [if_pos (by simp [hg, hn, hst, hq, hdue])]

/-- The result of a marked entry while the group in SERVICE repairs (R402): a repaired word leaves the log; one that was not keeps its
entry, unmarked (log entry 106), and counts as an error. -/
theorem exec_repairDone_marked {n k : Nat} (hn : n < 64) (hp : u.pstate (pgMem g) = pSERVICE) (hr : (u.mgrp g).svcRuns = some 1)
    (hst : (u.logEnt g n).stays = true) (hm : (u.logEnt g n).marked = true) (hk : k = OK ∨ k = NO_RESOURCE ∨ k = MEM_ERROR) :
    exec (.repairDone t g n k) s = .next (s.done
      (if k = OK then repairReported g n k {} u
        else (repairReported g n k { u.logEnt g n with marked := false, repair := k } u).err (pgSwp g) k)) := by
  change execRepairDone t g n k s = _
  rw [execRepairDone, nxt_finds hf]
  dsimp only
  rw [if_neg (by simp [hg, hn, hp, hr, hst, hm]), if_neg (by simpa [or_iff_not_imp_left] using hk)]
  by_cases hok : k = OK <;> simp only [hok, if_true, if_false, repairReported]

end Group

/-- Settles O38: the reads and the rewrites are their operations; a range pass ends once both groups have read it through (log entry
164); a repair's result clears the mark, with the entry or alone (log entry 106); the rest are requests of RNG_CTRL and SWP_LOG_SEL. -/
theorem sweepEvents : Obligations.SweepEvents := by
  intro t s u g hf hg
  refine ⟨fun e r => nxt_finds hf (State.sweepRead g e r), exec_lapSlow_limit hf hg,
    fun h => nxt_pos hf (c := fun x => x.rangeOver = true) h (State.rangeEnd OK) id,
    fun h => nxt_neg hf (c := fun x => x.rangeOver = true) (by simp [h]) (State.rangeEnd OK) id,
    fun n e r => nxt_finds hf (State.scrubRewrite g n e r), fun n hn => exec_scrubRewritePromote_late hf hg hn,
    fun n hn hp hr hst hm => ?_, fun n k hn hp hr hst hm hk => ⟨_, ?_, rfl⟩,
    fun p v => requests_of (.inl rfl) hf rfl, fun p => requests_id (.inl rfl) hf rfl,
    fun p e he => ⟨requests_logSel hf hg he rfl, requests_logSel hf hg he rfl, requests_logSel hf hg he rfl⟩⟩
  · exact exec_repairDone_marked hf hg hn hp hr hst hm (.inl rfl)
  · have hne : k ≠ OK := by rcases hk with rfl | rfl <;> decide
    rw [exec_repairDone_marked hf hg hn hp hr hst hm (.inr hk), if_neg hne, repairReported]

end Sys2Proof.Proofs
end

section
/-! The step, the end of a command, and a unit held in reset (R489, R490; log entries 16 and 31). -/

namespace Sys2Proof.Proofs

open Sys2Proof Sys2Proof.Machine Sys2Proof.Laws

/-! The queue. -/

/-- Settles O1: the step takes the front of the queue off and runs it. -/
theorem stepFront : Obligations.StepFront := by
  intro c s rest hp
  rw [step, hp]

/-- Settles O2: idling is the step's own answer to an empty queue. -/
theorem stepIdle : Obligations.StepIdle := by
  intro s hp
  rw [step, hp]

theorem nxt_keeps_queue (t : Time) (f : State → State) (s : State) : ∃ v : State, nxt t f s = .next v ∧ v.pending = s.pending := by
  rcases nxt_cases t f s with ⟨-, e⟩ | ⟨-, e⟩
  · exact ⟨_, e, done_pending s _⟩
  · exact ⟨_, e, rfl⟩

/-- The six commands that act in reset too decide with their effect what goes on holding the unit. -/
theorem exec_eq_nxtReset {c : Instr} (h : actsInReset c = true) : ∃ t hold f, ∀ s, exec c s = nxtReset t hold f s := by
  cases c
  case resetNRelease | resetNAssert | supplyUndervolt | supplyResetRelease | thermalTrip | thermalTripEnd =>
    dsimp only [exec, execResetNAssert]
    exact ⟨_, _, _, fun _ => rfl⟩
  all_goals cases h

/-- Settles O3: each command is an effect that acts out of reset, or one of the six that act in reset too, and the end of either puts
the queue back as the command found it. -/
theorem queueUntouched : Obligations.QueueUntouched := by
  refine ⟨fun c s => ?_, fun s v hd => done_idle hd⟩
  cases hc : actsInReset c with
  | false =>
    obtain ⟨t, f, e⟩ := exec_eq_nxt hc
    rw [e]
    exact nxt_keeps_queue t f s
  | true =>
    obtain ⟨t, hold, f, e⟩ := exec_eq_nxtReset hc
    exact ⟨_, e s, rfl⟩

/-! A unit held in reset. -/

/-- Settles O4: a command outside the six that act in reset only moves WALLTIME on, as log entry 16 chooses. -/
theorem heldInert : Obligations.HeldInert := by
  intro c s hr
  cases hc : actsInReset c with
  | false =>
    obtain ⟨t, f, e⟩ := exec_eq_nxt hc
    exact .inl ⟨t, by rw [e, nxt_held t f hr]⟩
  | true =>
    right
    cases c
    case resetNRelease => exact .inl ⟨_, _, _, rfl⟩
    case resetNAssert => exact .inr (.inl ⟨_, _, rfl⟩)
    case supplyUndervolt => exact .inr (.inr (.inl ⟨_, _, rfl⟩))
    case supplyResetRelease => exact .inr (.inr (.inr (.inl ⟨_, rfl⟩)))
    case thermalTrip => exact .inr (.inr (.inr (.inr (.inl ⟨_, rfl⟩))))
    case thermalTripEnd => exact .inr (.inr (.inr (.inr (.inr ⟨_, rfl⟩))))
    all_goals cases hc

/-- The last condition ends: the unit restarts. -/
theorem endReset_left {u v : State} (hu : u.rstHold ≠ []) (hv : v.rstHold = []) : State.endReset u v = v.restart 0 := by
  simp [State.endReset, hu, hv]

/-- A command that acts in reset too, and ends the last condition that held the unit. -/
theorem nxtReset_left {t : Time} {hold : State → List Nat} (f : State → State → State) {s : State} (hh : hold (s.atTime t) = []) :
    nxtReset t hold f s = .next { s.ends (f (s.atTime t) { s.atTime t with rstHold := [] }) with rstHold := [] } := by
  simp only [nxtReset, hh]

/-- RESET_N rises as the last condition on a unit that it held in reset: the strap and the banks are sampled, and the unit restarts
(R483, R484, R490). -/
theorem resetRises_left (strap : Bool) (banks : List Nat) {u v : State} (hu : u.rstHold ≠ []) (hv : v.rstHold = []) :
    State.resetRises strap banks u v = (({ v with
      strapMaster := strap, bank33 := (List.range 5).filter fun k => bank33mv (banks.getD k 0) } : State).sf PG_MON
        R.MON_STATUS_BANK_BAD (bitmap 5 fun k => !bank33mv (banks.getD k 0) && !bank18mv (banks.getD k 0))).restart 0 := by
  simp [State.resetRises, hu, hv]

/-- Settles O9: the conditions that a release leaves over decide; with none left the unit restarts, with one left it is held by it. -/
theorem resetLeft : Obligations.ResetLeft := by
  refine ⟨fun t s hr hw => ?_, fun t s hr hw => ?_, fun t s w hw hne => ?_, fun t strap banks s hr => ?_⟩
  · change execSupplyResetRelease t s = _
    have hnone : (s.rstHold.filter fun w => w = 0 || w = 20) = [] := List.filter_eq_nil_iff.2 fun w h => by simp [hw w h]
    rw [execSupplyResetRelease, nxtReset_left _ hnone, endReset_left (u := s.atTime t) hr rfl]
  · change execThermalTripEnd t s = _
    have hnone : (s.rstHold.filter fun w => w != 20) = [] := List.filter_eq_nil_iff.2 fun w h => by simp [hw w h]
    rw [execThermalTripEnd, nxtReset_left _ hnone, endReset_left (u := s.atTime t) hr rfl]
  · exact ⟨_, rfl, List.mem_filter.2 ⟨hw, by simpa using hne⟩, fun h => by simpa using (List.mem_filter.1 h).2⟩
  · change execResetNRelease t strap banks s = _
    have hnone : ndel s.rstHold 0 = [] := by simp [ndel, hr]
    rw [execResetNRelease, nxtReset_left _ hnone, resetRises_left strap banks (u := s.atTime t) (by simp [State.atTime, hr]) rfl]

end Sys2Proof.Proofs
end

section
/-! The console's touch, haptic and audio events (R408 to R444). -/

namespace Sys2Proof.Proofs

open Sys2Proof Sys2Proof.Machine Sys2Proof.Laws

/-! Touch scanning (R408, R411). -/

/-- The first cycle of a scan starts at once, and no commit is due at it (R408). -/
theorem cycleStart_first {u : State} (hon : u.scanOn = true) (hs : u.tf PG_TCH R.TCH_STATUS_SCANNING = true)
    (hin : u.tch.inCycle = false) (hn : u.tch.n = 0) (hc : u.gf PG_TCH R.COMMIT_STATUS_STATE ≠ 2) :
    u.cycleStart = { u with tch := { u.tch with inCycle := true, startAt := u.walltime } } := by
  unfold State.cycleStart
  dsimp only
  rw [if_neg (by simp [hon, hs, hin]), if_neg (by simp [hn]), if_neg hc, hs]

/-- With no touch for as long as the rate allows, the scan steps down to the next rate (R411). -/
theorem idleStepDown_due {u : State} {since ns : Nat} (hi : u.tch.idle = some since)
    (hr : idleStep (u.gf PG_TCH R.TCH_STATUS_RATE) = some ns) (hon : u.scanOn = true) (he : u.tf PG_TCH R.TCH_CTRL_IDLE_EN = true)
    (hdue : since + ns ≤ u.walltime) : u.idleStepDown = u.rateTo (u.gf PG_TCH R.TCH_STATUS_RATE + 1) := by
  simp [State.idleStepDown, hi, hr, hon, he, hdue]

/-! Haptic channels (R433 to R437). -/

section Edge
variable {u : State} {ch : Nat} (hedge : u.gf PG_HAP (R.HAP_CH_CTRL_TRIG_EDGE ch) = 0)
include hedge

/-- A channel set to rising edges triggers its slot at one (R433). -/
theorem hapEdge_rising (hch : ch < 4) (hl : u.hapLive = true) (ht : u.hapTested ch = false)
    (he : u.tf PG_HAP (R.HAP_CH_CTRL_TRIG_EN ch) = true) (hs : u.gf PG_HAP (R.HAP_CH_CTRL_TRIG_SLOT ch) / 8 = ch) :
    u.hapEdge ch true = u.trigger ch (u.gf PG_HAP (R.HAP_CH_CTRL_TRIG_SLOT ch)) none fun _ x => x :=
  if_neg (by simp [hch, hl, ht, he, hs, hedge])

/-- Such a channel passes a falling edge over (R433). -/
theorem hapEdge_falling : u.hapEdge ch false = u := if_pos (by simp [hedge])

end Edge

theorem timedStart_none {u : State} {ch : Nat} (h : (u.hap ch).timed = none) : u.timedStart ch = u := by
  simp only [State.timedStart, h]

/-- A timed start whose time has come is taken off its channel and triggers its slot (R437). -/
theorem timedStart_due {u : State} {ch : Nat} {q : HapTrig} (h : (u.hap ch).timed = some q)
    (hdue : q.start ≤ u.localTime (islandOf PG_HAP)) (hl : u.hapLive = true) :
    u.timedStart ch = ((u.setHap ch fun x => { x with timed := none }).sf PG_HAP (R.HAP_CH_STATUS_TIMED ch) 0).trigger ch q.slot
      q.cmd fun c x => x.hapCmd q.cmd c := by
  simp only [State.timedStart, h]
  exact if_neg (by simp [hdue, hl])

section Haptic
variable {t : Time} {s u : State} {ch : Nat} (hf : Finds t s u)
include hf

/-- A phase ends once it has lasted its time (R433). -/
theorem exec_hapPhaseEnd_due (hch : ch < 4)
    (hdue : (u.hap ch).phaseAt + u.phaseMs (u.hapSlot ch) (u.hapSt ch) * 1000000 ≤ u.walltime) :
    exec (.hapPhaseEnd t ch) s = .next (s.done (u.phaseEnd ch)) := by
  change execHapPhaseEnd t ch s = _
  rw [execHapPhaseEnd, nxt_finds hf, if_pos (by simp [hch, hdue])]

/-- A channel that drives beyond its duty limit is braked and reported (R435). -/
theorem exec_hapDutyReached_over (hch : ch < 4) (hst : u.hapSt ch = cKICK ∨ u.hapSt ch = cSUSTAIN) (hd : u.dutyOver ch = true) :
    exec (.hapDutyReached t ch) s =
      .next (s.done ((u.blkRaise PG_HAP 1 (u.hapOwner ch) { d6 := ch, d7 := u.dutyNow ch }).toBrake ch)) := by
  change execHapDutyReached t ch s = _
  rw [execHapDutyReached, nxt_finds hf, if_pos (by simp [hch, hst, hd])]

/-- A channel seen open once it has been driven at 1,000 mV or more for 1 ms without a break (R436). -/
theorem exec_hapOpenDetect_due (hon : u.hapOn ch = true) {a : Time} (ha : (u.hap ch).full = some a) (hdue : a + 1000000 ≤ u.walltime) :
    exec (.hapOpenDetect t ch) s = .next (s.done (u.hapFault ch 1)) := by
  change execHapOpenDetect t ch s = _
  have hlong : ((u.hap ch).full.any fun a => decide (a + 1000000 ≤ u.walltime)) = true := by
    rw [ha, Option.any_some]
    exact decide_eq_true hdue
  rw [execHapOpenDetect, nxt_finds hf, if_pos (by rw [hon, hlong, Bool.and_true])]

end Haptic

/-- Settles O39: a scan cycle, the rate's step, an edge and a timed start are the operations above; the channel's events each act under
their own condition. -/
theorem touchHaptics : Obligations.TouchHaptics := by
  intro t s u hf
  have start : exec (.scanCycleStart t) s = .next (s.done u.cycleStart) := nxt_finds hf State.cycleStart
  have step : exec (.idleRateStep t) s = .next (s.done u.idleStepDown) := nxt_finds hf State.idleStepDown
  have edge (ch : Nat) (rising : Bool) : exec (.hapTrigEdge t ch rising) s = .next (s.done (u.hapEdge ch rising)) :=
    nxt_finds hf (State.hapEdge ch rising)
  have timed (ch : Nat) : exec (.hapTimedStart t ch) s = .next (s.done (u.timedStart ch)) := nxt_finds hf (State.timedStart ch)
  rw [start, step]
  simp only [edge, timed]
  refine ⟨fun hon hs hin hn hc => ?_, fun a b n hon hin => ?_, fun since ns hi hr hon he hdue => ?_, fun ch hch hl ht he hs hedge => ?_,
    fun ch hch hdue => exec_hapPhaseEnd_due hf hch hdue, fun ch h => ?_, fun ch q h hdue hl => ?_,
    fun ch hch hst hd => exec_hapDutyReached_over hf hch hst hd,
    fun ch hon => nxt_pos hf (c := fun x => x.hapOn ch = true) hon (State.hapFault ch 2) id,
    fun ch a hon ha hdue => exec_hapOpenDetect_due hf hon ha hdue,
    fun ch mv hon => nxt_pos hf (c := fun x => x.hapOn ch = true) hon (State.backEmf ch mv) id,
    fun mv hoff => nxt_neg hf (c := fun x => x.pstate PG_HAP = pOFF) hoff id (State.vddHap mv)⟩
  · rw [cycleStart_first hon hs hin hn hc]
  · exact nxt_pos hf (c := fun x => (x.scanOn && x.tch.inCycle) = true) (by simp [hon, hin]) (State.cycleEnd a b n) id
  · rw [idleStepDown_due hi hr hon he hdue]
  · rw [hapEdge_rising hedge hch hl ht he hs, hapEdge_falling hedge]
    exact ⟨rfl, rfl⟩
  · rw [timedStart_none h]
  · rw [timedStart_due h hdue hl]

/-! Audio (R439 to R444). -/

/-- A generator that sounds falls silent for the pattern's pause (R444). -/
theorem alarmStep_sounding {u : State} {g : Nat} (h : fhas u.alarms g = true) (hon : (u.alarm g).on = true)
    (hoff : u.gf PG_AUD (R.ALM_PATTERN_OFF_MS g) ≠ 0) :
    u.alarmStep g = { u with alarms := fmod {} u.alarms g fun _ => { on := false, at_ := u.walltime } }.duckAll := by
  have e : fmod {} u.alarms g (fun x => { on := !x.on, at_ := u.walltime }) =
      fmod {} u.alarms g fun _ => { on := false, at_ := u.walltime } := by
    have hget : (fget {} u.alarms g).on = true := hon
    simp only [fmod, hget, Bool.not_true]
  rw [State.alarmStep, if_neg (by simp [h, hoff]), e]

/-- A generator that is enabled and silent sounds where its port runs (R444). -/
theorem alarmStart_silent {u : State} {g : Nat} (he : u.tf PG_AUD (R.ALM_CTRL_EN g) = true) (hm : u.alarmMode = true)
    (hn : fhas u.alarms g = false) (hp : u.tdmSt (u.gf PG_AUD (R.ALM_CTRL_PORT g)) = tRUN) :
    u.alarmStart g = { u with alarms := fset u.alarms g { on := true, at_ := u.walltime } }.duckAll :=
  if_neg (by simp [he, hm, hn, hp])

section Audio
variable {t : Time} {s u : State} (hf : Finds t s u)
include hf

/-- A generator's pattern steps once its present part has lasted its time (R444). -/
theorem exec_alarmPatternStep_sounding {g : Nat} (hon : (u.alarm g).on = true)
    (hdue : (u.alarm g).at_ + u.gf PG_AUD (R.ALM_PATTERN_ON_MS g) * 1000000 ≤ u.walltime) :
    exec (.alarmPatternStep t g) s = .next (s.done (u.alarmStep g)) := by
  change execAlarmPatternStep t g s = _
  rw [execAlarmPatternStep, nxt_finds hf]
  simp only [hon, if_true, hdue]

/-- The hold of the duck ends at its time, and the stream's duck is released (R443). -/
theorem exec_duckHoldExpire_due {n : Nat} (hn : n < 16) {d : Time} (hd : (u.strm n).duckHold = some d) (hdue : d ≤ u.walltime) :
    exec (.duckHoldExpire t n) s = .next (s.done (u.duckTo n 0)) := by
  change execDuckHoldExpire t n s = _
  rw [execDuckHoldExpire, nxt_finds hf]
  simp [hd, hn, hdue]

end Audio

/-- Settles O40: the clock and the cues act on a port or a stream that exists, a cue's end on a port in RUN alone (log entry 95), the
generators and the duck where they are due. -/
theorem audioEvents : Obligations.AudioEvents := by
  intro t s u hf
  refine ⟨fun port hp htgt => ?_, fun port hp => nxt_when hf hp (State.clockLost port), fun n hn => nxt_when hf hn (State.cueFrame n),
    fun n hn hrun => ?_, fun n hn hrun => ?_,
    fun n z e hn => nxt_when hf hn (State.cueData n z e), fun g h hon hoff hdue => ?_, fun g hg he hm hn hp => ?_,
    fun n d hn hd hdue => exec_duckHoldExpire_due hf hn hd hdue⟩
  · exact nxt_pos hf (c := fun x => (decide (port < 2) && x.tf PG_AUD (R.AUD_PORT_CFG_TARGET port)) = true) (by simp [hp, htgt])
      (State.clockLock port) id
  · exact nxt_pos hf (c := fun x => (decide (n < 16) && decide (x.tdmSt (x.strPort n) = tRUN)) = true) (by simp [hn, hrun])
      (State.cueEnds n) id
  · exact nxt_neg hf (c := fun x => (decide (n < 16) && decide (x.tdmSt (x.strPort n) = tRUN)) = true) (by simp [hrun])
      (State.cueEnds n) id
  · rw [exec_alarmPatternStep_sounding hf hon hdue, alarmStep_sounding h hon hoff]
  · exact (nxt_when hf hg (State.alarmStart g)).trans (by rw [alarmStart_silent he hm hn hp])

end Sys2Proof.Proofs
end

section
/-! Self-test, updates, the flash, and the check of a copy of the configuration image (R449 to R477). -/

namespace Sys2Proof.Proofs

open Sys2Proof Sys2Proof.Machine Sys2Proof.Laws

/-! The check of a copy (R471). -/

/-- A check whose failure has a code of its own answers 0 when it passes and the checks after it do. -/
theorem check_eq_zero_iff {c : Prop} [Decidable c] {k n : Nat} (hk : k ≠ 0) :
    (if c then k else n) = 0 ↔ ¬c ∧ n = 0 := by
  by_cases h : c <;> simp [h, hk]

/-- A copy passes exactly when each check of R471 does. -/
theorem copyCode_eq_zero_iff (ok : Bool) (bs : List Byte) : copyCode ok bs = 0 ↔
    ok = true ∧ imgFld bs 0 4 = 0x5452494D ∧ imgFld bs 4 2 = 1 ∧ imgFld bs 6 2 = 64 ∧
      76 ≤ imgFld bs 8 4 ∧ imgFld bs 8 4 ≤ 16777216 ∧ imgFld bs 8 4 % 4 = 0 ∧ imgFld bs 16 2 = 0x8810 ∧ imgFld bs 18 2 ≤ 0x0B0 ∧
      (imgFld bs 24 8 = 0 ∨ imgFld bs 24 8 = Config.unitId) ∧ imgFld bs 8 4 ≤ bs.length ∧
      crc32 (bs.take (imgFld bs 8 4 - 4)) = imgFld bs (imgFld bs 8 4 - 4) 4 ∧
      ∃ l, imgParts bs = some l ∧ l.all sectionOk = true := by
  unfold copyCode
  dsimp only
  iterate 7 rw [check_eq_zero_iff (by decide)]
  rw [or_iff_not_imp_left (a := imgFld bs 24 8 = 0)]
  simp only [Bool.not_eq_true', Bool.or_eq_true, Bool.and_eq_true, decide_eq_true_eq, bne_iff_ne, ne_eq, not_or, not_and, not_not,
    Nat.not_lt, Bool.not_eq_false, and_assoc]
  cases imgParts bs with
  | none => simp
  | some l => simp

/-- R471 has nine ways to fail. -/
theorem copyCode_le (ok : Bool) (bs : List Byte) : copyCode ok bs ≤ 9 := by
  unfold copyCode
  dsimp only
  repeat' split
  all_goals decide

/-- Settles O58: a flash that failed is code 1 and a wrong first word code 2, since these are the first two checks; the rest is what
the copy that passes has met. -/
theorem copyCodes : Obligations.CopyCodes :=
  fun bs => ⟨rfl, fun ok => copyCode_le ok bs, fun h => by simp [copyCode, h], fun ok => copyCode_eq_zero_iff ok bs⟩

/-! Requests (R449, R458, R463, R465, R477). -/

/-- Each self-test is a request of BIST_CTRL with its kind in the word. -/
theorem requests_bist {t : Time} {c : Instr} {s u : State} {p : Port} {k : Nat} {v : Word} (hf : Finds t s u)
    (hc : exec c s = nxt t (State.bistWrite p k v) s) :
    Requests c s u p PG_BIST 0x40 (State.plainWrite (portSecure p) PG_BIST 0x40 (putBits v 16 4 k))
      (bistGoAct (portSecure p) (bits v 0 8) (bits v 8 8) k) := requests_of (.inl rfl) hf hc

/-- An update is a request of BIST_UPD_CTRL with its kind in the word. -/
theorem requests_update {t : Time} {c : Instr} {s u : State} {p : Port} {k : Nat} {v : Word} (hf : Finds t s u)
    (hc : exec c s = nxt t (State.updWrite p k v) s) :
    Requests c s u p PG_BIST 0xA4 (State.plainWrite (portSecure p) PG_BIST 0xA4 (putBits v 0 3 k)) (updAct k (bits v 8 4)) :=
  requests_of (.inl rfl) hf hc

/-- A flash operation is a request of QSPI_OP, which the companion's page may make wait (R17). -/
theorem requests_qspi {t : Time} {c : Instr} {s u : State} {p : Port} {op : Nat} {v : Word} (hf : Finds t s u)
    (hc : exec c s = nxt t (State.qspiWrite p op v) s) :
    Requests c s u p PG_QSPI 0x50 (State.plainWrite (portSecure p) PG_QSPI 0x50 (putBits v 0 2 op))
      (qspiAct (portSecure p) op (bits v 8 9)) := requests_ofW hf hc

/-- Settles O41: each row is a request of its register, made once the word's plain fields are stored. -/
theorem testRequests : Obligations.TestRequests := by
  intro t s u p v hf
  refine ⟨fun c k h => ?_, requests_id (.inl rfl) hf rfl, requests_of (.inl rfl) hf rfl, requests_id (.inl rfl) hf rfl,
    requests_of (.inl rfl) hf rfl, requests_update hf rfl, requests_update hf rfl, fun c k h => ?_⟩
  · simp only [List.mem_cons, Prod.mk.injEq, List.not_mem_nil, or_false] at h
    rcases h with ⟨rfl, rfl⟩ | ⟨rfl, rfl⟩ | ⟨rfl, rfl⟩ | ⟨rfl, rfl⟩ | ⟨rfl, rfl⟩ |
      ⟨rfl, rfl⟩ | ⟨rfl, rfl⟩ | ⟨rfl, rfl⟩ | ⟨rfl, rfl⟩ <;>
      exact requests_bist hf rfl
  · simp only [List.mem_cons, Prod.mk.injEq, List.not_mem_nil, or_false] at h
    rcases h with ⟨rfl, rfl⟩ | ⟨rfl, rfl⟩ | ⟨rfl, rfl⟩ <;> exact requests_qspi hf rfl

/-! The ends of tests, updates and flash operations. -/

theorem bistAttempt_chain {u : State} {p n : Nat} (h : u.bistRun = some (p, n, 4)) (pass : Bool) (code mask errors : Nat) :
    u.bistAttempt (.check pass code mask errors) = u.bistCheck p n 4 pass code mask errors := by
  simp only [State.bistAttempt, h]

theorem bistAttempt_none {u : State} (h : u.bistRun = none) (r : BistRes) : u.bistAttempt r = u := by
  simp only [State.bistAttempt, h]

/-- Soft repairs are made once after a reset (R455). -/
theorem softRepair_again {u : State} (h : u.softDone = true) (needs : List (Nat × Nat × Nat)) : u.softRepair needs = u :=
  if_pos (by simp [h])

/-- The first window of the traffic generator gives both the present and the lowest rate (R458). -/
theorem tgWindowEnds_first {u : State} (he : u.tf PG_BIST R.BIST_TG_CTRL_EN = true) (h1 : u.tgFirst = true) (mbps : Nat) :
    u.tgWindowEnds mbps =
      { ((forNat 2 (fun g v => (v.readComes g).bumpW (pgMem g) R.MEM_RD_BLOCKS_BLOCKS (mbps * 100000 / 256)) u).sf PG_BIST
        R.BIST_TG_MBPS_MBPS (min mbps 262143)).sf PG_BIST R.BIST_TG_MIN_MBPS (min mbps 262143) with tgFirst := false } := by
  have hfirst : (forNat 2 (fun g v => (v.readComes g).bumpW (pgMem g) R.MEM_RD_BLOCKS_BLOCKS (mbps * 100000 / 256)) u).tgFirst = true := h1
  simp only [State.tgWindowEnds, he, hfirst, Bool.not_true, Bool.false_eq_true, if_false, if_true]

/-- A patch of the Gatehouse shows its version once it is applied (R466). -/
theorem updDone_gatehouse {u : State} {c v : Nat} (h : u.update = some (3, c, v)) :
    u.updDone = (({ u with update := none, ghVersion := v } : State).sf PG_BIST R.BIST_UPD_CTRL_RESULT OK).raise PG_BIST 4
      { d6 := 3, d7 := v } := by
  simp only [State.updDone, h, if_true]

/-- An operation that has moved no data ends with its result and QSPI_OP_DONE (R477). -/
theorem qspiEnds_noData {u : State} {op a n code : Nat} (h : u.qspiOp = some (op, a, n)) (hd : op ≠ 0 ∨ code ≠ OK) (data : List Byte)
    {v : State} (hv : v = (({ u with qspiOp := none }.sf PG_QSPI R.QSPI_OP_STATUS_BUSY 0).sf PG_QSPI
      R.QSPI_OP_STATUS_RESULT code).raise PG_QSPI 0 { status := code, d6 := op, d7 := a }) :
    u.qspiEnds code data = if code = OK then v else v.err PG_QSPI code := by
  have hmoved : ¬(decide (op = 0) && decide (code = OK)) = true := by simpa [or_iff_not_imp_left] using hd
  subst hv
  simp only [State.qspiEnds, h, if_neg hmoved]

theorem exec_qspiOpTimeout_due {t : Time} {s u : State} (hf : Finds t s u) (hdue : u.qspiAt + 2000000000 ≤ u.walltime) :
    exec (.qspiOpTimeout t) s = .next (s.done (u.qspiEnds TIMEOUT [])) :=
  nxt_pos hf (c := fun x => x.qspiAt + 2000000000 ≤ x.walltime) hdue (State.qspiEnds TIMEOUT []) id

/-- Copy A is checked first, and copy B where A has failed; a copy that fails shows its code, and the unit falls back after B (R472). -/
theorem exec_copyCheckDone_turn {t : Time} {s u : State} (hf : Finds t s u) (hm : u.mode = ENUMERATE) (hj : u.jtagHold = false)
    {copyB : Bool} (hturn : (u.gf PG_QSPI R.QSPI_STATUS_CHECK_A != 0) = copyB) (ok : Bool) (bs : List Byte) {v : State}
    (hv : u.sf PG_QSPI (if copyB then R.QSPI_STATUS_CHECK_B else R.QSPI_STATUS_CHECK_A) (copyCode ok bs) = v) :
    exec (.copyCheckDone t copyB ok bs) s = .next (s.done
      (if copyCode ok bs = 0 then v.applyImage copyB bs else if copyB then v.fallback else v)) := by
  subst hv
  change execCopyCheckDone t copyB ok bs s = _
  rw [execCopyCheckDone, nxt_finds hf, if_neg (by simp [hm, hj, hturn])]

/-- Settles O42: each end is its operation on the state that it finds, which the lemmas above give for what has run; the soft repair's
rows are log entry 117, and the copies' turn is R472's (log entry 115). -/
theorem testEvents : Obligations.TestEvents := by
  intro t s u hf
  have attempt (r : BistRes) : exec (.bistAttemptDone t r) s = .next (s.done (u.bistAttempt r)) := nxt_finds hf (State.bistAttempt r)
  have repair (needs : List (Nat × Nat × Nat)) : exec (.sramSoftRepairDone t needs) s = .next (s.done (u.softRepair needs)) :=
    nxt_finds hf (State.softRepair needs)
  have window (mbps : Nat) : exec (.tgWindow t mbps) s = .next (s.done (u.tgWindowEnds mbps)) := nxt_finds hf (State.tgWindowEnds mbps)
  have update : exec (.updateApplyDone t) s = .next (s.done u.updDone) := nxt_finds hf State.updDone
  have complete (data : List Byte) : exec (.qspiOpComplete t data) s = .next (s.done (u.qspiEnds OK data)) :=
    nxt_finds hf (State.qspiEnds OK data)
  refine ⟨fun p n pass code mask errors h => ?_, fun r h => ?_, repair, fun needs h => ?_, fun mbps he h1 => ?_,
    nxt_finds hf State.substCndDone, fun c hc => nxt_when hf hc (State.faultPage (pgCnd c) MEM_ERROR), fun c v h => ?_,
    fun a n data h => ?_, fun op a n h hdue => ?_, fun ok bs hm hj ha hc => ?_, fun ok bs hm hj ha hc => ?_,
    fun ok bs hm hj ha hc => ?_⟩
  · rw [attempt, bistAttempt_chain h]
  · rw [attempt, bistAttempt_none h]
  · rw [repair, softRepair_again h]
  · rw [window, tgWindowEnds_first he h1]
  · rw [update, updDone_gatehouse h]
  · rw [complete, qspiEnds_noData h (.inl (by decide)) data rfl, if_pos rfl]
  · rw [exec_qspiOpTimeout_due hf hdue, qspiEnds_noData h (.inr (by decide)) [] rfl, if_neg (by decide)]
  · have done := exec_copyCheckDone_turn hf hm hj (copyB := false) (by simp [ha]) ok bs rfl
    rwa [if_pos hc, hc] at done
  · exact (exec_copyCheckDone_turn hf hm hj (copyB := false) (by simp [ha]) ok bs rfl).trans (by rw [if_neg hc]; rfl)
  · exact (exec_copyCheckDone_turn hf hm hj (copyB := true) (by simp [ha]) ok bs rfl).trans (by rw [if_neg hc]; rfl)

end Sys2Proof.Proofs
end

section
/-! Supplies, temperatures, pins, and the frames of the secure management port (R498 to R505). -/

namespace Sys2Proof.Proofs

open Sys2Proof Sys2Proof.Machine Sys2Proof.Laws

/-! Supplies, temperatures and pins (R502 to R505). -/

section Monitor
variable {t : Time} {s u : State} (hf : Finds t s u)
include hf

/-- Tj has stayed below ALERT − HYST for a second: ALERT ends, and TEMP_NORMAL is raised (R503). -/
theorem exec_tempNormalTimer_due {c : Time} (hc : u.hotSince = some c) (hr : u.monRuns = true)
    (ha : u.tf PG_MON R.MON_STATUS_ALERT = true) (hdue : c + 1000000000 ≤ u.walltime) :
    exec (.tempNormalTimer t) s = .next (s.done ((u.sf PG_MON R.MON_STATUS_ALERT 0).tempEvent 2)) := by
  change execTempNormalTimer t s = _
  rw [execTempNormalTimer, nxt_finds hf]
  simp only [hc]
  rw [if_pos (by rw [hr, ha, decide_eq_true hdue]; rfl)]

/-- A sample is taken only while MON runs: the rails are judged, then the sensors (R502 to R504, log entry 86). -/
theorem exec_monSample (mv temps : List Nat) :
    exec (.monSample t mv temps) s = .next (s.done (if u.monRuns = true then
      (forNat 6 (fun k v => v.tempSample k (temps.getD k 0)) (forNat 13 (fun r v => v.railSample r (mv.getD r 0)) u)).tjFollow else u)) := by
  change execMonSample t mv temps s = _
  rw [execMonSample, nxt_finds hf]
  cases u.monRuns <;> simp only [Bool.not_true, Bool.not_false, Bool.false_eq_true, if_true, if_false]

/-- An edge shows the pin's new level, and is reported where GPIO runs and the edge is enabled (R505, log entry 86). -/
theorem exec_gpioEdge_level {pin : Nat} (hp : pin < 32) (rising : Bool) {v : State}
    (hv : v = u.sf PG_GPIO R.GPIO_IN_LEVEL (setBit (u.gf PG_GPIO R.GPIO_IN_LEVEL) pin rising)) :
    exec (.gpioEdge t pin rising) s = .next (s.done
      (if v.pstate PG_GPIO = pRUN && bit (v.gf PG_GPIO (if rising then R.GPIO_EDGE_EN_RISE else R.GPIO_EDGE_EN_F_FALL)) pin then
        v.blkRaise PG_GPIO 0 (v.gpioOwner (pin / 8)) { d6 := pin, d7 := if rising then 1 else 0 } else v)) := by
  subst hv
  change execGpioEdge t pin rising s = _
  rw [execGpioEdge, nxt_finds hf, if_neg (Nat.not_le.2 hp)]

end Monitor

/-- Settles O43: readings are taken while MON runs and not otherwise (log entry 86), rails before sensors; an edge is reported by its
enable. -/
theorem monitorEvents : Obligations.MonitorEvents := by
  intro t s u hf
  refine ⟨fun mv temps hr => ?_, fun mv temps hr => ?_, fun c => exec_tempNormalTimer_due hf, fun pin rising v hp hv hrun he => ?_,
    fun pin rising v hp hv he => ?_⟩
  · rw [exec_monSample hf, if_pos hr]
  · rw [exec_monSample hf, if_neg (by simp [hr])]
  · rw [exec_gpioEdge_level hf hp rising hv, if_pos (by simp [hrun, he])]
  · rw [exec_gpioEdge_level hf hp rising hv, if_neg (by simp [he])]

/-! SMP_IRQ_N (R484, R498). -/

theorem smpIrqLow_iff (u : State) : u.smpIrqLow = true ↔
    u.bankBad 0 = false ∧ ∃ p ∈ allPages, (secureOnlyPage p = true ∨ u.secureOwned p = true) ∧ u.evtStatus p ≠ 0 := by
  simp [State.smpIrqLow]

/-! The checks of a whole frame, in their order (R499). -/

theorem smpRefusal_badCrc {f : List Byte} (h : crc8 (f.take (smpLen f - 1)) ≠ mb f (smpLen f - 1)) :
    smpRefusal f = some LINK_ERROR := by
  simp [smpRefusal, refusal, r75, h]

section GoodCrc
variable {f : List Byte} (hcrc : crc8 (f.take (smpLen f - 1)) = mb f (smpLen f - 1))
include hcrc

theorem smpRefusal_badCmd (h2 : mb f 0 ≠ 2) (h3 : mb f 0 ≠ 3) : smpRefusal f = some BAD_OPCODE := by
  simp [smpRefusal, refusal, r75, hcrc, h2, h3]

theorem smpRefusal_misaligned (hcmd : mb f 0 = 2 ∨ mb f 0 = 3) (ha : smpAddr f % 4 ≠ 0) : smpRefusal f = some BAD_ARG := by
  rcases hcmd with h | h <;> simp [smpRefusal, refusal, r75, hcrc, h, ha]

theorem smpRefusal_good (hcmd : mb f 0 = 2 ∨ mb f 0 = 3) (ha : smpAddr f % 4 = 0) (hn : mb f 5 ≤ 15) : smpRefusal f = none := by
  have hcnt : mb f 5 < 16 := by omega
  rcases hcmd with h | h <;> simp [smpRefusal, refusal_eq_none_iff, hcrc, h, ha, hcnt]

end GoodCrc

/-! What a frame does (R17, R498 to R500). -/

/-- A frame cut off before its CRC performs nothing (R500). -/
theorem smpFrame_short {f : List Byte} (h : f.length < smpLen f) (n : Nat) (u : State) : u.smpFrame f n = { u with smpOut := [] } := by
  rw [State.smpFrame, if_neg (by simp [Nat.not_le.2 h])]
  simp only [State.smpServe, if_pos h]

section Whole
variable {f : List Byte} (hl : smpLen f ≤ f.length)
include hl

/-- A frame that its checks refuse is answered with the code, and performs nothing (R499). -/
theorem smpFrame_refused {c : Nat} (h : smpRefusal f = some c) (n : Nat) (u : State) :
    u.smpFrame f n = { u with smpOut := smpReply { code := c } } := by
  rw [State.smpFrame, if_neg (by simp [h])]
  simp only [State.smpServe, if_neg (Nat.not_lt.2 hl), h]

section Good
variable {u : State} (hg : smpRefusal f = none) (hn : mb f 5 ≤ 15)
include hg hn

/-- A good request with a word that waits for the die-to-die link waits whole, and 0x00 is sent (R17, R498). -/
theorem smpFrame_waits (hw : u.runWaits (smpAddr f) (mb f 5 + 1) = true) :
    u.smpFrame f 16 = { u.holdAcc (.smp f 16) with smpOut := [] } := by
  have hall : min (mb f 5 + 1) 16 = mb f 5 + 1 := by omega
  rw [State.smpFrame, if_pos (by simp [hl, hg, hall, hw])]

/-- A good request that need not wait performs all its words, and the reply gives what they came to (R499). -/
theorem smpFrame_served (hw : u.runWaits (smpAddr f) (mb f 5 + 1) = false) {r : Words × State}
    (hr : (if mb f 0 = 2 then u.writeWords mbGoAct .smp (bytesWords (mb f 5 + 1) (f.drop 6)) (smpAddr f)
      else u.readWords .smp (mb f 5 + 1) (smpAddr f)) = r) : u.smpFrame f 16 = { r.2 with smpOut := smpReply r.1 } := by
  have hall : min (mb f 5 + 1) 16 = mb f 5 + 1 := by omega
  subst hr
  rw [State.smpFrame, if_neg (by simp [hall, hw])]
  simp only [State.smpServe, if_neg (Nat.not_lt.2 hl), hg, hall, Nat.lt_irrefl, decide_false, Bool.and_false, Bool.false_eq_true, if_false]

end Good

end Whole

/-- At the timeout a request in progress performs the words that need not wait, and its frame is no longer held (R499, log entry 81). -/
theorem exec_smpTimeout {t : Time} {s u : State} (hf : Finds t s u) (f : List Byte) (n : Nat) :
    exec (.smpTimeout t f n) s = .next (s.done (State.smpServe f
      ((List.range n).takeWhile fun k => !u.wordWaits (smpAddr f + 4 * k)).length
      { u with d2dHeld := u.d2dHeld.filter fun a => a != HeldAcc.smp f 16 })) := by
  change execSmpTimeout t f n s = _
  rw [execSmpTimeout, nxt_finds hf]

/-- Settles O44: a frame is cut off, refused by the first check that fails, waits, or is served; an unknown command is a frame of 7 bytes,
and the words left at the timeout are not performed (log entry 81). -/
theorem smpFrames : Obligations.SmpFrames := by
  intro t s u f hf
  have write : exec (.smpWrite t f) s = .next (s.done (u.smpFrame f 16)) := nxt_finds hf (State.smpFrame f 16)
  have read : exec (.smpRead t f) s = .next (s.done (u.smpFrame f 16)) := nxt_finds hf (State.smpFrame f 16)
  rw [write, read]
  refine ⟨fun h => ?_, nxt_finds hf fun x => { x with smpOut := [] }, smpIrqLow_iff u, fun hl hcrc => ?_, fun hl hcrc h2 h3 => ?_,
    fun hl hcrc hcmd ha => ?_, fun hl hcrc ha hn hcmd hw => ?_, fun hl hcrc ha hn hcmd hw => ?_, fun hl hcrc ha hn hcmd hw => ?_,
    exec_smpTimeout hf f⟩
  · rw [smpFrame_short h]
    exact ⟨rfl, rfl⟩
  · rw [smpFrame_refused hl (smpRefusal_badCrc hcrc)]
    exact ⟨rfl, rfl⟩
  · rw [smpFrame_refused hl (smpRefusal_badCmd hcrc h2 h3)]
  · rw [smpFrame_refused hl (smpRefusal_misaligned hcrc hcmd ha)]
  · rw [smpFrame_served hl (smpRefusal_good hcrc (.inl hcmd) ha hn) hn hw (if_pos hcmd)]
  · rw [smpFrame_served hl (smpRefusal_good hcrc (.inr hcmd) ha hn) hn hw (if_neg (by omega))]
  · rw [smpFrame_waits hl (smpRefusal_good hcrc (.inl hcmd) ha hn) hn hw]

end Sys2Proof.Proofs
end
